-- ==== Sys2Proof/Word.lean ====
section
/-!
DEFINITION. Word.lean: the word types of the block. The spec's registers are 32 or 64 bits wide (00, R10), a queue entry's
command-specific area is 32 bytes (02, R64), an Apulrum general register is 32 bits and a wide register 256 bits (12, R434).
-/

namespace Sys2Proof

/-- A byte. -/
abbrev Byte := BitVec 8

/-- A 32-bit register or general-register value. -/
abbrev Word := BitVec 32

/-- A 64-bit register value or address. -/
abbrev DWord := BitVec 64

/-- A 256-bit wide-register value, or 32 bytes of an entry. -/
abbrev Wide := BitVec 256

/-- A 384-bit hash value (SHA-384). -/
abbrev Hash := BitVec 384

end Sys2Proof
end

