-- ==== Sys2Proof/Syntax.lean ====
section
/-!
DEFINITION. Syntax.lean: the commands of the CX4: one constructor per row of spec/opcode_table.json, with the operands the rules of
the row give it. Where a row is an event (a timer, an engine or a peripheral answering), its operands are what came from outside.
-/

namespace Sys2Proof

/-- Function index (02, R49): 0 PF0, 128 PF1, others virtual functions. -/
abbrev Fn := Fin 256
/-- Queue of a function (02, R54). -/
abbrev Q := Fin 64
/-- A seal lane: 0–255 active, 256–263 spare (04, R142). -/
abbrev Lane := Fin 264
/-- A lane group (04, R142). -/
abbrev Grp := Fin 16
/-- A media port (07, R261). -/
abbrev Port := Fin 128
/-- A rank (07, R275). -/
abbrev Rank := Fin 32
/-- A core: 0 and 1 policy cores, 2 the Keeper (12, R436, R437). -/
abbrev CoreId := Fin 3
/-- A policy core. -/
abbrev PCore := Fin 2
/-- A general register number (12, R440). -/
abbrev G := Fin 32
/-- A wide register number (12, R440). -/
abbrev W := Fin 8
/-- A 16-bit immediate, offset or word offset (12, R440). -/
abbrev Imm16 := BitVec 16
/-- An extent index (05, R194). -/
abbrev ExtIdx := Fin 4194304

/-- A submission entry as its 64 bytes give it (02, R64): named fields and the command-specific bytes 32–63 as one number, byte 32 in
bits 7:0. `rsv1`, `rsv8`, `rsv20` are the reserved bits of bytes 1, 8–11 and 20–23. -/
structure Entry where
  opc : BitVec 8
  crcv : Bool
  pv : Bool
  rsv1 : BitVec 6
  cid : BitVec 16
  ledger : BitVec 16
  sgcount : BitVec 16
  pasid : BitVec 20
  rsv8 : BitVec 12
  length : BitVec 32
  hcrc : BitVec 32
  rsv20 : BitVec 32
  dptr : BitVec 64
  cdw : BitVec 256
  deriving DecidableEq, Repr, Inhabited

/-- The `len` command-specific bytes from entry byte `b` (32–63), little-endian (00, R6). -/
def Entry.bytes (e : Entry) (b len : Nat) : Nat := (e.cdw.toNat >>> (8 * (b - 32))) % 2 ^ (8 * len)

/-- An element of a scatter list (02, R68): address, length, bytes 12–15. -/
structure SgElem where
  addr : BitVec 64
  len : BitVec 32
  rsv : BitVec 32
  deriving DecidableEq, Repr, Inhabited

/-- How a host read or write ends on the link (02, R70): good, or one of the four errors. -/
inductive LinkEnd where
  | ok | timeout | unsupported | completerAbort | poisoned
  deriving DecidableEq, Repr, Inhabited

/-- What a ring fetch brings: the entries, or a DMA error (02, R60, R66). -/
inductive FetchEnd where
  | entries (es : List Entry)
  | error (how : LinkEnd)
  deriving DecidableEq, Repr, Inhabited

/-- What a scatter-list fetch brings (02, R69). -/
inductive SgEnd where
  | elems (es : List SgElem)
  | error (how : LinkEnd)
  deriving DecidableEq, Repr, Inhabited

/-- A write to a function's MSI-X state (02, R77). -/
inductive MsixWrite where
  | vectorMask (v : Fin 65) (masked : Bool)
  | vectorEntry (v : Fin 65) (addr : BitVec 64) (data : BitVec 32)
  | enable (on : Bool)
  | functionMask (on : Bool)
  deriving DecidableEq, Repr, Inhabited

/-- Which drain has used up its window (02, R61, R82, R90). -/
inductive DrainOf where
  | functionReset (fn : Fn)
  | queueDisable (fn : Fn) (q : Q)
  | vfSave (fn : Fn)
  deriving DecidableEq, Repr, Inhabited

/-- Which host read timed out (02, R643). -/
inductive HostRead where
  | payload (ledger : BitVec 16) (seq : BitVec 64)
  | ring (fn : Fn) (q : Q)
  | scatter (fn : Fn) (q : Q)
  deriving DecidableEq, Repr, Inhabited

/-- A record header as it is stored (03, R99). -/
structure Header where
  hver : Nat
  ty : Nat
  ledger : Nat
  tenant : Nat
  flags : Nat
  seq : Nat
  length : Nat
  setepoch : Nat
  ticks : Nat
  extent : Nat
  keygen : Nat
  offset : Nat
  label : Nat
  reservedZero : Bool   -- every reserved byte is 0
  deriving DecidableEq, Repr, Inhabited

/-- A record as media gives it back: header, payload (its ciphertext stands as the plaintext it deciphers to), tag (03, R97). -/
structure Stored where
  hdr : Header
  payload : List (BitVec 8)
  tag : Nat
  deriving DecidableEq, Repr, Inhabited

/-- How a unit read ends (07, R290): the unit passes every check, is displaced, or is bad. -/
inductive UnitRead where
  | good | displaced | bad
  deriving DecidableEq, Repr, Inhabited

/-- What a drive's Identify data gives (07, R269): its NGUID, usable zones, zone capacity in MiB, Max Active Resources, Zone Append Size
Limit in 4 KiB units, and whether every other requirement of R269 holds. -/
structure Drive where
  nguid : Nat
  zones : Nat
  zcap : Nat
  mar : Nat
  zasl : Nat
  ok : Bool
  deriving DecidableEq, Repr, Inhabited

/-- The current label of a drive (07, R274): role 0 none, 1 member, 2 spare, 3 removed. -/
structure Label where
  role : Nat
  serial : Nat
  rank : Nat
  slot : Nat
  gen : Nat
  deriving DecidableEq, Repr, Inhabited

/-- How the DMA of a verified hold region ends (04, R156, R158; 02, R70). -/
inductive DmaEnd where
  | done | staging | fault (how : LinkEnd)
  deriving DecidableEq, Repr, Inhabited
/-- What the checks of a time-stamp token give (06, R246): the first of the reasons 2 to 4 that holds, or the time it states, milliseconds
since 1970, and its accuracy in milliseconds. -/
inductive Token where
  | malformed | badImprint | badSignature
  | good (genTime accuracy : Nat)
  deriving DecidableEq, Repr, Inhabited

/-- What the read of zone 0 at bring-up gives (07, R271, R274): the zone is empty, it holds no valid label, or its current label. -/
inductive LabelRead where
  | empty | invalid
  | label (l : Label)
  deriving DecidableEq, Repr, Inhabited

/-- A bring-up step of a drive that completes (07, R271): steps 2 to 7. -/
inductive BringStep where
  | resetReleased
  | link (rate : BitVec 3)
  | ready
  | identified (d : Drive)
  | queues
  | label (r : LabelRead)
  deriving DecidableEq, Repr, Inhabited

/-- An asynchronous event of a drive (07, R265, R267): Controller Fatal Status, a SMART or health notice, a change of the namespace in
use, a change of the zones of some bays. -/
inductive AsyncEvent where
  | fatal | health | namespaceChanged
  | zonesChanged (bays : List Nat)
  deriving DecidableEq, Repr, Inhabited

/-- What a Zone Append wrote (07, R266): a stripe unit of a slot, a metadata unit, a label. -/
inductive AppendOf where
  | unit (extent stripe slot : Nat) (inOrder : Bool)
  | metadata (port : Port)
  | label (port : Port)
  deriving DecidableEq, Repr, Inhabited

/-- How a unit read by patrol, a migration or the assay ends (08, R309): it passes R290; it passes on the second read; it fails check 1 or 2
twice; it fails check 3 or 4. -/
inductive UnitCheck where
  | good | soft | hard | wrong
  deriving DecidableEq, Repr, Inhabited

/-- What the assay finds in a record slot (08, R326): padding; bytes whose header fails up to the next slot that passes; a record. -/
inductive SlotRead where
  | padding
  | invalid (next : Nat)
  | record
  deriving DecidableEq, Repr, Inhabited

/-- What the check of a batch block finds (08, R327): the first of its checks that fails, or none. -/
inductive BatchCheck where
  | good | unreadable | prev | root | count | signature
  deriving DecidableEq, Repr, Inhabited

/-- A section of a Pergan image: SHA-384 and bytes (10, R364). -/
structure Section where
  digest : Nat
  bytes : List (BitVec 8)
  deriving DecidableEq, Repr, Inhabited

/-- A Pergan image as read from a copy (10, R362–R367): `formOk` the check of reason 2, `sigOk` both image signatures and the KEEPER
section's verify, `pub` SHA-384(PUBE ‖ PUBM), `microOk` both microcode signatures verify, `microVer` its version and `microMin` the minimum version it raises to,
`keeperVer` the Keeper firmware's version, `tableOk` the section table check of reason 7, `settings` (SID, LOCK, VALUE), `keysOk` the
KEYS section meets R366; `escrow`, `cardKey` 0 where the record is absent; `digest` SHA-384 of the signed extent. -/
structure Image where
  formOk : Bool
  kind : Nat
  seq : Nat
  seqFloor : Nat
  extent : Nat
  device : Nat
  variants : Nat
  serial : Nat
  signer : Nat
  pub : Nat
  sigOk : Bool
  tableOk : Bool
  keeper : Section
  policy0 : Section
  policy1 : Section
  microcode : Option Section
  microOk : Bool
  microVer : Nat
  microMin : Nat
  keeperVer : Nat
  settings : List (Nat × Bool × Nat)
  keysOk : Bool
  escrow : Nat
  timeKeys : Nat
  cardKey : Nat
  wpmap : BitVec 512
  digest : Nat
  deriving DecidableEq, Repr, Inhabited

/-- What the Porter reads from a chip (10, R368, R370, R371): its JEDEC ID, log2 of its size (0 where SFDP does not give it), the image (none
where no header could be read), whether the read ended well within 2 s, and whether it was read again at 25 MHz. -/
structure CopyRead where
  jedec : BitVec 24
  sizeLog : Nat
  image : Option Image
  readOk : Bool
  slow : Bool
  deriving DecidableEq, Repr, Inhabited

/-- The outcomes of a cold-reset boot up to step 4 (10, R390): the ROM self-test, the marginal fuse words with the OR of their readings
(R385), the PUF reconstruction; the BBRAM header check (11, R430). -/
structure ColdStart where
  selfTest : Bool
  marginal : List (Nat × BitVec 32)
  puf : Bool
  bbram : Bool
  deriving DecidableEq, Repr, Inhabited

/-- What the boot steps 4 to 12 give (10, R371, R374, R390): whether a boot-record twin is readable, the two copies, whether every byte of their signed extents agrees, whether the
install of each firmware section reads back within two attempts, microseconds to step 9, the Keeper's draws of the loop generators' seeds (16, R547). -/
structure PorterRead where
  record : Bool
  a : CopyRead
  b : CopyRead
  same : Bool
  keeperOk : Bool
  policy0Ok : Bool
  policy1Ok : Bool
  us : Nat
  deriving DecidableEq, Repr, Inhabited

/-- A record found in the forward scan of a start after an unwarned loss (06, R243; 05, R216): its header, payload and tag as stored, its place,
whether every stripe holding its bytes has at least k good units, and whether its tag verifies. -/
structure Found where
  stored : Stored
  complete : Bool
  deriving DecidableEq, Repr, Inhabited

/-- What EXT reads at a start (05, R216–R219): the SEQ of the descriptor that matches the root log, if one does; whether every leaf is found;
whether a leaf was found only in another copy; the JSEQ that the journal replay reaches; for the extents open at an unwarned loss, the stripes of
which units were found (extent, number of stripes, 0 none); the records found; the candidate of R217, where one exists: its SEQ, and its entries (extent, entry of R202). -/
structure TableRead where
  descriptor : Bool
  leaves : Bool
  repaired : Bool
  jseq : Nat
  open_ : List (Nat × Nat)
  found : List Found
  candidate : Option (Nat × List (Nat × Nat))
  deriving DecidableEq, Repr, Inhabited

/-- What one Watchman sample sees (16, R543, R545, R547): bit n of `switches`: TSWn reads open; the bytes received on TLI0–TLI3; bit t of `mesh`: track
t differs from its pattern; bit d of `light`: photodiode d; temperatures of detectors A and B in 0.1 °C; supplies in mV; detectors A and
B of the continuously watched sources (bit s: tripped at the sample). -/
structure Sample where
  switches : BitVec 4
  loop0 : BitVec 8
  loop1 : BitVec 8
  loop2 : BitVec 8
  loop3 : BitVec 8
  mesh : BitVec 24
  light : BitVec 16
  tempA : BitVec 16
  tempB : BitVec 16
  vaon : BitVec 16
  vbat : BitVec 16
  detA : BitVec 20
  detB : BitVec 20
  deriving DecidableEq, Repr, Inhabited

/-- A restore token as the Keeper reads it (05, R199, R200): check 1 passed, SERIAL, TKCV, and the tenant key where decapsulation and unwrap
succeed. -/
structure RestoreToken where
  formOk : Bool
  serial : Nat
  tkcv : Nat
  key : Option Nat
  deriving DecidableEq, Repr, Inhabited

/-- A read of the fuses while the device runs (10, R385, R387): the marginal words with the OR of their readings, and the other words that do not read
as they were programmed, with what they read. -/
structure FuseRead where
  marginal : List (Nat × BitVec 32)
  changed : List (Nat × BitVec 32)
  deriving DecidableEq, Repr, Inhabited

/-- A card's answer to reset as received (17, R570, R573, R574): its characters, the characters repeated and the framing errors on the way, and whether some
character failed five times. -/
structure AtrRead where
  chars : List (BitVec 8)
  repeats : BitVec 16
  framing : BitVec 16
  failed : Bool
  deriving DecidableEq, Repr, Inhabited

/-- How a card answers an APDU (17, R574, R577): its status bytes, characters repeated and framing errors on the way, whether some character failed five
times or a procedure byte was wrong. -/
structure CardAnswer where
  sw : BitVec 16
  repeats : BitVec 16
  framing : BitVec 16
  failed : Bool
  deriving DecidableEq, Repr, Inhabited

/-- A card certificate as read (17, R578): `formOk` MAGIC, VERSION, reserved bytes and PUB on P-256; `sigOk` the authority's signature verifies. -/
structure CardCert where
  formOk : Bool
  sigOk : Bool
  id : BitVec 64
  pub : Nat
  deriving DecidableEq, Repr, Inhabited

/-- What the checks of a certificate give (10, R396): whether it verifies (a Sirmin certificate under the manufacturing key, naming the serial
number), and the identity key it certifies: 0 P-384, 1 ML-DSA-65, none. -/
structure CertCheck where
  verifies : Bool
  key : Option (Fin 2)
  deriving DecidableEq, Repr, Inhabited

/-- An uncorrectable SECDED error that an instruction meets (13, R471): none, on its fetch, on its data. -/
inductive Ecc where
  | ok | fetch | data
  deriving DecidableEq, Repr, Inhabited

/-- Where the tag's power comes from at the end of a frame (18, R601): the AON supply, a field of at least 2.0 V, a weaker field. -/
inductive TagPower where
  | aon | fieldOk | fieldLow
  deriving DecidableEq, Repr, Inhabited

/-- A frame that is no command of 18, R589, R600: a parity or CRC_A error or a command the tag does not support; or a Sirmin command of unknown code. -/
inductive BadFrame where
  | invalid | unknownCode
  deriving DecidableEq, Repr, Inhabited

/-- A page update (18, R597): the oldest one requested through NPL_KUPD and NPL_PUPD, or one the Keeper or Watchman makes of itself. -/
inductive PageUpd where
  | requested | own (page : Fin 15)
  deriving DecidableEq, Repr, Inhabited

/-- Who reaches a register (02, R53; 14, R510): a master of the fabric by its ID, or a virtual function's host through its window. -/
inductive Via where
  | master (m : Fin 16) | window (f : Fn)
  deriving DecidableEq, Repr, Inhabited

/-- The commands. Each constructor is the row of spec/opcode_table.json that its docstring names, with the rule the table cites. -/
inductive Instr where
  /-- AON_RESET (R424): The AON supply falls below 2.0 V; at AON power-on the tick counter restarts at 0, BBRAM is zeroed and a cold reset follows. -/
  | aonReset (c : ColdStart)
  /-- COLD_RESET (R13): Main power is applied; all logic outside the AON domain returns to reset and the cold-reset boot starts. -/
  | coldReset (c : ColdStart)
  /-- RESET_PIN (R624): A qualified RESET# assertion causes a warm reset, or in SLEEP a warm-reset boot, and is ignored in WATCH or held while PWR_FAIL# is asserted. -/
  | resetPin
  /-- ADMIN_RESET (R96): A write of DEV_RESET with KEY 0xA5C4 and WARM = 1 causes a warm reset. -/
  | adminReset (m : Fin 16) (v : BitVec 32)
  /-- PORTER_COPY_READ (R371): The Porter finishes reading and comparing the two image copies, and the image in use is selected or IMAGE_RECOVERY is entered. -/
  | porterCopyRead (r : PorterRead)
  /-- MEDIA_WAIT_END (R391): Boot step 13 ends when every rank-table port is settled or the media wait of setting 0x0003 expires. -/
  | mediaWaitEnd
  /-- EXTENT_TABLE_RESTORE (R216): At start EXT restores the extent table from the root log, persist copies and journal, and rollback is detected where they disagree. -/
  | extentTableRestore (t : TableRead)
  /-- HOST_LINK_UP (R44): A host port link trains and HIF_PORT_STATUS reports its rate, width and FLIT mode. -/
  | hostLinkUp (p : Fin 2) (rate : BitVec 3) (width : BitVec 5) (flit : Bool)
  /-- HOST_LINK_LOSS (R48): Loss of a host link squash-resets every function of the port that is not SAVED and returns its configuration space to conventional-reset values. -/
  | hostLinkLoss (p : Fin 2)
  /-- HOST_HOT_RESET (R48): A hot reset received on a host link acts as a loss of link for that port. -/
  | hostHotReset (p : Fin 2)
  /-- HOST_PERST (R624): A qualified assertion of a port's PERST# acts as a loss of link, or in SLEEP is recorded until READY. -/
  | hostPerst (p : Fin 2)
  /-- VF_ENABLE_WRITE (R51): A configuration write of VF Enable or NumVFs makes VFs UNCONFIGURED or squash-resets and removes them, with NumVFs capped at TotalVFs. -/
  | vfEnableWrite (p : Fin 2) (en : Bool) (num : BitVec 16)
  /-- FLR (R81): A function-level reset written to a function's PCIe capability starts a squash reset of that function and, for a PF, of its VFs. -/
  | flr (f : Fn)
  /-- DSTATE_CHANGE (R47): A write of a function's PM D-state moves it between D0 and D3hot, stopping or resuming fetch and DMA. -/
  | dstateChange (f : Fn) (hot : Bool)
  /-- MSIX_MASK_WRITE (R77): A write of an MSI-X vector mask or of MSI-X Enable; unmasking sends a message whose PBA bit is set. -/
  | msixMaskWrite (f : Fn) (w : MsixWrite)
  /-- FUNCTION_RESET_DONE (R83): The squash reaches step 7: queues, mailbox and MSI-X state are reset, the function is READY and its reset report is written. -/
  | functionResetDone (f : Fn) (us : BitVec 32)
  /-- DRAIN_WINDOW_EXPIRE (R82): The drain window of setting 0x1023 expires during a drain reset, queue disable or VF save, ending the drain. -/
  | drainWindowExpire (w : DrainOf)
  /-- QCTRL_ENABLE (R55): A write of QCTRL with EN = 1 enables a queue or refuses it with a FAULT code. -/
  | qctrlEnable (f : Fn) (q : Q) (v : BitVec 32)
  /-- QCTRL_DISABLE (R61): A write of QCTRL with EN = 0 starts a queue disable: fetch stops, undispatched entries abort and dispatched records drain. -/
  | qctrlDisable (f : Fn) (q : Q)
  /-- QUEUE_DISABLE_DONE (R61): At the end of the disable drain, unsealed records become void, ledgers unbind, ACTIVE reads 0 and QIDLE is set. -/
  | queueDisableDone (f : Fn) (q : Q)
  /-- FN_SQT_WRITE (R57): A write of an SQ tail doorbell makes new entries available or faults the queue with FAULT = 1. -/
  | fnSqtWrite (f : Fn) (q : Q) (v : BitVec 32)
  /-- FN_CQH_WRITE (R57): A write of a CQ head doorbell releases CQ slots, letting held completions post, or faults the queue with FAULT = 2. -/
  | fnCqhWrite (f : Fn) (q : Q) (v : BitVec 32)
  /-- SQ_FETCH (R62): A fetch burst is issued on an enabled queue once the function holds HQD credit for every entry in it. -/
  | sqFetch (f : Fn) (q : Q) (n : Fin 9)
  /-- SQ_FETCH_COMPLETE (R66): Fetched entries arrive and are checked in order, and the head shadow is written. -/
  | sqFetchComplete (f : Fn) (q : Q) (r : FetchEnd)
  /-- SCATTER_LIST_FETCH (R69): The whole scatter list of an entry is fetched and checked before dispatch. -/
  | scatterListFetch (f : Fn) (q : Q) (r : SgEnd)
  /-- DISPATCH_RECORD (R30): The dispatcher dispatches a record once every credit it needs is available, assigning its sequence number, extent, offset and epoch. -/
  | dispatchRecord (f : Fn) (q : Q) (name : BitVec 128)
  /-- PAYLOAD_SEGMENT_ARRIVE (R18): An 8 KiB payload segment of an APPEND completes its DMA into staging. -/
  | payloadSegmentArrive (l : BitVec 16) (n : BitVec 64) (data : List (BitVec 8))
  /-- PAYLOAD_READ_FAIL (R70): A payload read of an APPEND ends in completion timeout, UR, CA or poisoned data, so the record becomes void with BUFFER_FAULT. -/
  | payloadReadFail (l : BitVec 16) (n : BitVec 64) (how : LinkEnd)
  /-- HOST_READ_TIMEOUT (R643): A host read request reaches its completion timeout and is handled as a DMA error. -/
  | hostReadTimeout (r : HostRead)
  /-- POST_COMPLETION (R22): A completion entry is written once its record meets the ledger's completion mode and every earlier completion is posted. -/
  | postCompletion (l : BitVec 16) (how : LinkEnd)
  /-- CQ_COAL_TIMER (R75): QCOAL.TIME expires after the first uncounted completion and the CQ raises its MSI-X interrupt. -/
  | cqCoalTimer (f : Fn) (q : Q)
  /-- FN_EVENT_EN_WRITE (R74): A write to FN_EVENT_EN that sets an enable whose event bit is already 1 sends a message on vector 64. -/
  | fnEventEnWrite (f : Fn) (v : BitVec 32)
  /-- MBX_POST (R79): A write of POST sets OUT_FULL and the receiver's IN_FULL and raises the receiver's mailbox event. -/
  | mbxPost (f : Fn) (peer : Bool)
  /-- MBX_ACK (R79): A write of ACK clears both mailbox flags and raises MBX_ACK at the sender. -/
  | mbxAck (f : Fn) (peer : Bool)
  /-- MBX_OUT_WRITE (R80): A write of an outgoing message word is stored, or is ignored and sets OVERRUN while OUT_FULL is 1. -/
  | mbxOutWrite (f : Fn) (peer : Bool) (n : Fin 16) (v : BitVec 32)
  /-- DIRTY_LOG_START (R87): DIRTY_LOG_CONTROL START begins logging the pages a VF writes into a ring. -/
  | dirtyLogStart (f : Fn) (q : Q)
  /-- DIRTY_LOG_SYNC (R89): DIRTY_LOG_CONTROL SYNC completes once every earlier DMA write of the VF has its page in the ring. -/
  | dirtyLogSync (f : Fn) (q : Q)
  /-- DIRTY_LOG_STOP (R89): DIRTY_LOG_CONTROL STOP ends logging and frees the slot. -/
  | dirtyLogStop (f : Fn) (q : Q)
  /-- FN_DLOG_HEAD_WRITE (R88): The PF writes the index of the next unconsumed dirty-log entry. -/
  | fnDlogHeadWrite (f : Fn) (slot : Fin 8) (v : BitVec 32)
  /-- VF_STATE_SAVE (R90): Stops a VF, drains its dispatched records, rewinds its queues and writes its 16,384-byte blob. -/
  | vfStateSave (f : Fn) (q : Q)
  /-- VF_STATE_RESTORE (R92): Installs a saved blob on a target VF, binds its ledgers and makes the target READY. -/
  | vfStateRestore (f : Fn) (q : Q) (src : Fn) (counter : BitVec 64) (gmacOk : Bool)
  /-- FUNCTION_CONFIGURE (R94): FUNCTION_CONTROL CONFIGURE sets a function's tenant, quota, weight, PASID slice and HQD pool. -/
  | functionConfigure (f : Fn) (q : Q)
  /-- FUNCTION_RESET (R81): FUNCTION_CONTROL RESET starts a squash or drain reset of the named function. -/
  | functionReset (f : Fn) (q : Q)
  /-- FUNCTION_DISCARD (R94): FUNCTION_CONTROL DISCARD invalidates a SAVED VF's blob and makes it UNCONFIGURED. -/
  | functionDiscard (f : Fn) (q : Q)
  /-- FUNCTION_QUERY (R94): FUNCTION_CONTROL QUERY returns a function's configuration word and PASID slice. -/
  | functionQuery (f : Fn) (q : Q)
  /-- APPEND (R114): Numbers a DATA record of the ledger at dispatch and seals its payload. -/
  | append (f : Fn) (q : Q)
  /-- READ (R118): Reads a record by its locator, verifies its tag and returns its payload and header. -/
  | read (f : Fn) (q : Q)
  /-- VERIFY_RANGE (R121): Verifies the tags and chain values of consecutive records of a ledger against its checkpoints. -/
  | verifyRange (f : Fn) (q : Q) (locs : List (BitVec 64))
  /-- OPEN_LEDGER_CREATE (R122): Creates a ledger on the lowest free ID, numbers its OPEN record and binds it to the queue. -/
  | openLedgerCreate (f : Fn) (q : Q) (name : BitVec 128)
  /-- OPEN_LEDGER_REBIND (R123): Binds an unbound ledger, or takes over a bound one, writes its orphan receipts and numbers a BIND record. -/
  | openLedgerRebind (f : Fn) (q : Q) (expired : Bool)
  /-- CLOSE_LEDGER (R124): Numbers the CLOSE record of a ledger and takes a checkpoint at it. -/
  | closeLedger (f : Fn) (q : Q)
  /-- CHECKPOINT_NOW (R125): Takes a checkpoint at the latest record numbered before the command. -/
  | checkpointNow (f : Fn) (q : Q)
  /-- GET_PROOF (R240): Returns the signed proof of the first checkpoint at or after SEQ. -/
  | getProof (f : Fn) (q : Q) (unreadable : Bool)
  /-- GET_RANDOM (R358): Writes LENGTH bytes from DRBG instance 2 to the host buffer. -/
  | getRandom (f : Fn) (q : Q)
  /-- FLUSH (R126): Completes once every record numbered before it in the ledger, or in every ledger of the queue, is durable. -/
  | flush (f : Fn) (q : Q)
  /-- LEDGER_STATUS (R127): Returns the 128-byte status of a ledger. -/
  | ledgerStatus (f : Fn) (q : Q)
  /-- READ_CHECKPOINT (R241): Returns a checkpoint entry selected by SEQ and SEL, signed or not. -/
  | readCheckpoint (f : Fn) (q : Q) (unreadable : Bool)
  /-- POLICY_OPCODE (R462): An entry with opcode 0xC0-0xFF is checked, tagged and written as a command record to a policy core's ring. -/
  | policyOpcode (f : Fn) (q : Q)
  /-- SET_SETTING (R647): Changes a setting with its apply class, journalling it if PERSIST is set. -/
  | setSetting (f : Fn) (q : Q)
  /-- GET_SETTING (R130): Returns the live, image, journal, minimum or maximum value of a setting. -/
  | getSetting (f : Fn) (q : Q)
  /-- EPOCH_QUERY (R131): Returns the settings epoch and the list of units lagging behind it. -/
  | epochQuery (f : Fn) (q : Q)
  /-- GET_LOG (R129): Returns a range of bytes of a named log instance. -/
  | getLog (f : Fn) (q : Q)
  /-- SETTING_CHANGE_WAIT_TIMEOUT (R137): An AT_BOUNDARY change that has waited 100 ms for the previous one to converge completes with BUSY_RETRY. -/
  | settingChangeWaitTimeout
  /-- UNIT_STALL_TIMER (R136): 100 ms after an epoch change a unit that has not taken it up sets UNIT_STALLED and FN_EVENT.EPOCH again. -/
  | unitStallTimer
  /-- EPOCH_CONVERGED (R136): The last unit takes up the epoch change and EPOCH_MIXED and UNIT_STALLED clear. -/
  | epochConverged
  /-- CONTROL_RECORD_RESUME (R100): A control record waiting for an extent continues once an index and bay are free and the reserve is refilled. -/
  | controlRecordResume
  /-- LANE_ACCEPT_WRITE (R149): A free lane accepts a write descriptor once its first segment is in staging and begins sealing. -/
  | laneAcceptWrite (n : Lane)
  /-- KEY_DERIVE (R191): Strongroom derives EK and H for a lane's cache miss and delivers them to its key register. -/
  | keyDerive (n : Lane) (fails : Fin 3)
  /-- LANE_RECORD_END (R150): After the last block the lane finishes GHASH, tag and CRC-32C and releases the tag or posts a void result. -/
  | laneRecordEnd (n : Lane) (ue : Bool) (corrected : BitVec 16)
  /-- LANE_ACCEPT_READ (R154): A lane accepts a runnable read descriptor and its span becomes the hold region. -/
  | laneAcceptRead (n : Lane) (assay : Bool)
  /-- LANE_READ_VERDICT (R157): The lane compares the tag and queues a DMA job to HIF or starts zeroing and posts SEAL_MISMATCH. -/
  | laneReadVerdict (n : Lane) (ue : Bool)
  /-- READ_DMA_COMPLETE (R156): HIF has read the last payload byte of a verified hold region, or stops on an error, and zeroing starts. -/
  | readDmaComplete (i : Nat) (how : DmaEnd)
  /-- HOLD_ZERO_DONE (R156): A hold region is zero and its read or assay credits, DLG slot and CLR credit are released. -/
  | holdZeroDone (i : Nat)
  /-- LANE_PARITY_ERROR (R163): A lane datapath parity error abandons the record on the lane and starts a unit reset. -/
  | laneParityError (n : Lane)
  /-- READ_ITEM_RERUN (R164): A read or assay item abandoned for a lane cause is read from media again into its span and run on another lane. -/
  | readItemRerun (i : Nat)
  /-- LANE_RESET (R175): SLA_LANE_CTRL.RESET starts a drain or abort unit reset of one lane. -/
  | laneReset (m : Fin 16) (n : Lane) (abort : Bool)
  /-- LANE_TEST (R170): SLA_LANE_CTRL.TEST runs the lane's KAT when it is idle or at the end of its record. -/
  | laneTest (m : Fin 16) (n : Lane)
  /-- GROUP_RESET (R175): SLA_GRP_CTRL.RESET starts a unit reset of every lane in service in a group. -/
  | groupReset (m : Fin 16) (g : Grp) (abort : Bool)
  /-- RESET_ALL (R176): SLA_CTRL.RESET_ALL starts a unit reset of every lane in service. -/
  | resetAll (m : Fin 16) (abort : Bool)
  /-- LANE_RESET_DONE (R174): A lane's unit reset completes and its KAT starts. -/
  | laneResetDone (n : Lane)
  /-- LANE_RETIRE_WRITE (R173): A write of 1 to an SLA_RETIRED bit retires the lane with RCAUSE 4, abandoning its record. -/
  | laneRetireWrite (m : Fin 16) (k : Fin 9) (v : BitVec 32)
  /-- LANE_KAT_DONE (R171): A lane's KAT ends; a failure retires it and maps a spare into its slot. -/
  | laneKatDone (n : Lane) (pass : Bool)
  /-- PERIODIC_KAT_DUE (R169): The periodic KAT interval of setting 0x2002 expires for a lane. -/
  | periodicKatDue (n : Lane)
  /-- GROUP_POWER_UP_DONE (R167): A lane group entering the power mask finishes power-up and self-test and returns its DLG credits. -/
  | groupPowerUpDone (g : Grp)
  /-- GROUP_POWER_DOWN_DONE (R166): A group leaving the mask finishes its records, clears its key registers and is power-gated. -/
  | groupPowerDownDone (g : Grp)
  /-- VOID_SEAL (R228): A void record at the head of a reorder window is given an offset and sealed on a lane. -/
  | voidSeal (l : BitVec 16)
  /-- CHAIN_RECORD (R227): A chain core chains the record at the start of the ledger's reorder window. -/
  | chainRecord (l : BitVec 16) (how : LinkEnd)
  /-- CHECKPOINT_TIME_TRIGGER (R231): CKT milliseconds pass since a ledger's last checkpoint with a record chained since, and a checkpoint is called for. -/
  | checkpointTimeTrigger (l : BitVec 16)
  /-- CHECKPOINT_FORM (R232): A called-for checkpoint is formed once its record and every earlier record are durable, and entered in the open batch. -/
  | checkpointForm (l : BitVec 16)
  /-- BATCH_INTERVAL_EXPIRE (R234): The batch interval expires since the first entry was formed and the open batch closes. -/
  | batchIntervalExpire
  /-- BATCH_SIGNED (R239): A PKE unit finishes and verifies both signatures of a batch header and the batch is signed. -/
  | batchSigned (u : Fin 4) (attempts : BitVec 16) (us : BitVec 32)
  /-- BATCH_BLOCK_STORED (R238): Two copies of a batch block are acknowledged and the batch block is stored. -/
  | batchBlockStored
  /-- METADATA_COPY_RETRY (R213): Every 100 ms a journal or batch block lacking two copies is placed on further rank positions. -/
  | metadataCopyRetry (journal : Bool)
  /-- PKE_JOB_DONE (R251): A PKE job ends, its unit is wiped and the next queued job starts. -/
  | pkeJobDone (u : Fin 4) (ok : Bool) (valid : Bool) (attempts : BitVec 16)
  /-- SET_TIME_ANCHOR_NONCE (R245): Writes a fresh 16-byte nonce, records ticks t0 and returns them. -/
  | setTimeAnchorNonce (f : Fn) (q : Q)
  /-- SET_TIME_ANCHOR_SUBMIT (R246): Checks an RFC 3161 token and on success sets a new time anchor. -/
  | setTimeAnchorSubmit (f : Fn) (q : Q) (token : Token)
  /-- ATTEST (R257): Writes a signed attestation report and the stored certificates. -/
  | attest (f : Fn) (q : Q)
  /-- STR_ERASE_CACHE (R192): STR_CTRL.ERASE_CACHE erases both key caches and every lane key register, abandoning records on lanes. -/
  | strEraseCache (m : Fin 16)
  /-- STR_DKC_FLUSH (R223): STR_CTRL.DKC_FLUSH invalidates every derived-key cache entry. -/
  | strDkcFlush (m : Fin 16)
  /-- JOURNAL_COMMIT_INTERVAL (R211): The journal commit interval expires with the table changed and a journal commit starts. -/
  | journalCommitInterval
  /-- JOURNAL_COMMIT_DONE (R212): Every copy of a commit's blocks is acknowledged and the journal head is written to BBRAM. -/
  | journalCommitDone
  /-- MARK_BLOCK_STORED (R242): A mark block gains two acknowledged copies and its journal commit may be made. -/
  | markBlockStored
  /-- ROOT_COMMIT_INTERVAL (R214): The root commit interval expires and a full persist starts. -/
  | rootCommitInterval
  /-- EXT_PERSIST (R214): EXT_CTRL.PERSIST requests a full persist and root commit, run once 10 minutes have passed. -/
  | extPersist (m : Fin 16)
  /-- EXT_JCOMMIT (R224): EXT_CTRL.JCOMMIT requests a journal commit now. -/
  | extJcommit (m : Fin 16)
  /-- PERSIST_DONE (R210): The last leaf and persist descriptor are acknowledged and a root commit entry is programmed in the root log. -/
  | persistDone (us : BitVec 32)
  /-- AGE_DAILY_UPDATE (R207): Every 24 h EXT raises AGE of every SEALED and MIGRATING extent. -/
  | ageDailyUpdate
  /-- EXTENT_SRAM_UE (R207): An uncorrectable extent-table SRAM error makes EXT repair the 4 KiB leaf from its persisted copy and journal. -/
  | extentSramUe (e : ExtIdx) (repaired : Bool)
  /-- PWR_FAIL (R215): PWR_FAIL# asserted for 1 us starts the warned power-loss steps ending in a final clean commit. -/
  | pwrFail
  /-- PWR_FAIL_RESTART (R215): At 10 ms after PWR_FAIL#, if it is deasserted and supplies are good, a warm reset follows. -/
  | pwrFailRestart
  /-- MEDIA_PRESENCE (R264): Presence is asserted or a link detected on an empty media port and bring-up starts. -/
  | mediaPresence (p : Port)
  /-- DRIVE_BRINGUP_STEP (R271): A bring-up step of a drive completes (link L0, CSTS.RDY, identify, queues, label read). -/
  | driveBringupStep (p : Port) (b : BringStep)
  /-- DRIVE_ADMIT (R278): At the end of bring-up the drive is admitted as MEMBER, SPARE, UNUSED, QUARANTINED or REJECTED. -/
  | driveAdmit (p : Port)
  /-- BRINGUP_TIMEOUT (R271): A bring-up step exceeds its limit and the port is declared down. -/
  | bringupTimeout (p : Port)
  /-- MEDIA_LINK_DOWN_TIMER (R265): A media link has been out of L0 for 50 ms and the port is declared down. -/
  | mediaLinkDownTimer (p : Port)
  /-- MEDIA_PRESENCE_LOST (R265): SGPIO presence has been deasserted for 50 ms and the port is declared down. -/
  | mediaPresenceLost (p : Port)
  /-- NVME_COMMAND_TIMEOUT (R270): An NVMe command times out: the port issues Abort, and a second timeout declares it down. -/
  | nvmeCommandTimeout (p : Port) (again : Bool)
  /-- DRIVE_ASYNC_EVENT (R267): A drive's asynchronous event (fatal status, health notice, zone or namespace change) is received and handled. -/
  | driveAsyncEvent (p : Port) (a : AsyncEvent)
  /-- SMART_POLL (R267): Every 10 minutes a drive's SMART log is read and its wear flags are set. -/
  | smartPoll (p : Port) (pct : BitVec 8) (mediaErr : BitVec 32)
  /-- UNIT_APPEND_DONE (R266): A Zone Append completes with success and the unit, label or metadata unit counts as acknowledged. -/
  | unitAppendDone (a : AppendOf) (us : BitVec 32)
  /-- UNIT_APPEND_ERROR (R287): A Zone Append fails; the bay-member is degraded for the bay and its extent is sealed. -/
  | unitAppendError (a : AppendOf)
  /-- UNIT_READ_DONE (R290): A unit read completes and is checked, passing into staging or marked bad or displaced. -/
  | unitReadDone (i : Nat) (stripe : Nat) (unit : Fin 16) (r : UnitRead) (content : Option Stored)
  /-- RECONSTRUCT_STRIPE (R292): Cooper reads the other slots of a stripe and solves for its missing units within the reconstruction reserve. -/
  | reconstructStripe (i : Nat) (stripe : Nat) (good : BitVec 20) (content : Option Stored)
  /-- STRIPE_CLOSE_TIMER (R20): A stripe receives no bytes for the stripe close interval and is closed with zero padding. -/
  | stripeCloseTimer (e : ExtIdx) (stripe : BitVec 16)
  /-- REBUILD_BAY_DONE (R295): A rebuild walk finishes a bay of a REBUILDING slot and moves to the next, ending IN_SERVICE. -/
  | rebuildBayDone (r : Rank) (slot : Fin 20) (lost : List Nat) (disagrees : Option Nat)
  /-- EVENT_CROSSING_OVERRUN (R407): An event crossing receives a 16th event, sets its overrun flag and the receiver rereads the source state. -/
  | eventCrossingOverrun (cls : Fin 5) (p : Port)
  /-- MPX_PORT_RESET (R299): MPX_PORT_CTRL.RESET resets a port engine, returning items with PORT_RESET and running bring-up. -/
  | mpxPortReset (m : Fin 16) (p : Port)
  /-- RANK_CREATE (R301): RANK_CONTROL CREATE resets and labels the named drives and commits a new rank. -/
  | rankCreate (f : Fn) (q : Q)
  /-- RANK_DELETE (R302): RANK_CONTROL DELETE removes a rank holding no extent or log bay. -/
  | rankDelete (f : Fn) (q : Q)
  /-- RANK_ADD_SPARE (R301): RANK_CONTROL ADD_SPARE admits an UNUSED drive to the spare pool. -/
  | rankAddSpare (f : Fn) (q : Q)
  /-- RANK_REMOVE_SPARE (R264): RANK_CONTROL REMOVE_SPARE returns a spare to UNUSED. -/
  | rankRemoveSpare (f : Fn) (q : Q)
  /-- RANK_REPLACE (R301): RANK_CONTROL REPLACE places a drive in a slot and relabels the old occupant as removed. -/
  | rankReplace (f : Fn) (q : Q)
  /-- RANK_REJOIN (R297): RANK_CONTROL REJOIN returns a QUARANTINED drive to its MISSING slot with a rebuild walk. -/
  | rankRejoin (f : Fn) (q : Q)
  /-- RANK_RECOVER_READ (R298): RANK_CONTROL RECOVER_READ opens or closes a QUARANTINED drive as a reconstruction source. -/
  | rankRecoverRead (f : Fn) (q : Q)
  /-- RANK_RELEASE_PORT (R264): RANK_CONTROL RELEASE_PORT returns a QUARANTINED drive to UNUSED. -/
  | rankReleasePort (f : Fn) (q : Q)
  /-- RANK_QUERY (R301): RANK_CONTROL QUERY writes a 512-byte rank report. -/
  | rankQuery (f : Fn) (q : Q)
  /-- RANK_LOCATE (R301): RANK_CONTROL LOCATE sets or clears a port's SGPIO locate bit. -/
  | rankLocate (f : Fn) (q : Q)
  /-- PATROL_READ (R312): Patrol reads and checks the units of the next stripe at its paced rate. -/
  | patrolRead (us : List UnitCheck)
  /-- PATROL_PACE (R311): Every minute ASY sets the patrol read rate from the bytes and time left in the pass. -/
  | patrolPace
  /-- PATROL_PASS_END (R311): A patrol pass finishes its last extent and log bay and the next pass starts. -/
  | patrolPassEnd
  /-- ASY_DAILY_SCAN (R316): Once a day ASY enters AGE, WEAR and EVACUATE extents in the attention list and tests CLOSED ledgers for freeing. -/
  | asyDailyScan
  /-- MIGRATION_START (R318): ASY takes an attention-list entry, chooses a target and commits START with the extent MIGRATING. -/
  | migrationStart
  /-- MIGRATION_STRIPE_COPY (R318): Cooper copies one stripe of a migrating extent to the target bay with new trailers. -/
  | migrationStripeCopy (e : ExtIdx) (us : List UnitCheck) (failed : Option (Fin 20)) (recs : List Nat)
  /-- MIGRATION_DONE (R318): Every target unit is acknowledged and DONE is committed, making the target the only copy. -/
  | migrationDone (e : ExtIdx)
  /-- BAY_ZONE_RESET_DONE (R334): The zone resets of a bay complete, RESET_DONE is journalled and a released extent becomes FREE or RETIRED. -/
  | bayZoneResetDone (r : Rank) (bay : BitVec 24)
  /-- ASSAY_START (R325): ASSAY_CONTROL START begins an assay run over its scope. -/
  | assayStart (f : Fn) (q : Q)
  /-- ASSAY_PAUSE (R329): ASSAY_CONTROL PAUSE stops a run at a record boundary. -/
  | assayPause (f : Fn) (q : Q)
  /-- ASSAY_RESUME (R329): ASSAY_CONTROL RESUME continues a paused run. -/
  | assayResume (f : Fn) (q : Q)
  /-- ASSAY_STOP (R329): ASSAY_CONTROL STOP ends a run and writes its report. -/
  | assayStop (f : Fn) (q : Q)
  /-- ASSAY_STATUS (R325): ASSAY_CONTROL STATUS returns the run's progress and findings. -/
  | assayStatus (f : Fn) (q : Q)
  /-- ASSAY_EVACUATE (R325): ASSAY_CONTROL EVACUATE enters every SEALED extent of a rank for migration and marks the rank evacuated. -/
  | assayEvacuate (f : Fn) (q : Q)
  /-- ASSAY_CANCEL_EVACUATE (R325): ASSAY_CONTROL CANCEL_EVACUATE removes a rank's evacuation mark. -/
  | assayCancelEvacuate (f : Fn) (q : Q)
  /-- ASSAY_SLOT (R326): The assay handles one record slot of an extent and logs any finding. -/
  | assaySlot (x : SlotRead) (sealOk : Bool)
  /-- ASSAY_EXTENT_END (R326): At END the run's fold and count are compared with the seal record. -/
  | assayExtentEnd
  /-- ASSAY_BATCH_CHECK (R327): A SCOPE 0 run checks one batch block of the Scrivener log. -/
  | assayBatchCheck (c : BatchCheck)
  /-- ASSAY_RUN_END (R329): A run ends, writes its report to log 0x50 and sets ASSAY_DONE. -/
  | assayRunEnd
  /-- ASY_CTRL_WRITE (R342): A write of ASY_CTRL pauses or resumes migrations and patrol. -/
  | asyCtrlWrite (m : Fin 16) (v : BitVec 32)
  /-- RELEASE_EXTENTS_RELEASE (R334): RELEASE_EXTENTS RELEASE moves the listed extents to RELEASE_PENDING in one journal commit. -/
  | releaseExtentsRelease (f : Fn) (q : Q) (list : List (BitVec 32))
  /-- RELEASE_EXTENTS_HOLD_SET (R333): RELEASE_EXTENTS HOLD_SET sets legal hold on the listed extents. -/
  | releaseExtentsHoldSet (f : Fn) (q : Q) (list : List (BitVec 32))
  /-- RELEASE_EXTENTS_HOLD_CLEAR (R333): RELEASE_EXTENTS HOLD_CLEAR clears legal hold under a quorum. -/
  | releaseExtentsHoldClear (f : Fn) (q : Q) (list : List (BitVec 32))
  /-- RELEASE_EXTENTS_QUERY (R332): RELEASE_EXTENTS QUERY returns state, hold and age of the listed extents. -/
  | releaseExtentsQuery (f : Fn) (q : Q) (list : List (BitVec 32))
  /-- RNG_SOURCE_FAIL (R346): A noise source fails a health test; it stops feeding and the block in progress and pool are discarded. -/
  | rngSourceFail (src : Fin 12) (rct apt : Bool)
  /-- RNG_SOURCE_RETRY (R345): 1 s after a failure an EXCLUDED source enters STARTUP. -/
  | rngSourceRetry (src : Fin 12)
  /-- RNG_STARTUP_PASS (R345): A source passes both tests over 1,024 samples and becomes LIVE. -/
  | rngStartupPass (src : Fin 12)
  /-- RNG_BLOCK_READY (R347): The conditioner completes a 256-bit block and places it in the pool. -/
  | rngBlockReady
  /-- RNG_INSTANTIATE (R350): A DRBG instance is instantiated from two pool blocks. -/
  | rngInstantiate (i : Fin 4)
  /-- RNG_RESEED (R352): A DRBG instance is reseeded from one pool block. -/
  | rngReseed (i : Fin 4)
  /-- RNG_GENERATE_CALL (R353): The DRBG core finishes a generate call of up to 4,096 bytes for an instance. -/
  | rngGenerateCall (i : Fin 4) (bytes : Fin 4097) (how : LinkEnd)
  /-- RNG_CTRL_RESEED (R352): A write of RNG_CTRL.RESEED marks instances for reseed before their next call. -/
  | rngCtrlReseed (m : Fin 16) (mask : BitVec 4)
  /-- RNG_RAW_CTRL_WRITE (R357): A write of RNG_RAW_CTRL.EN enters or leaves raw test mode, or is refused outside BLANK and PROVISIONED. -/
  | rngRawCtrlWrite (m : Fin 16) (v : BitVec 32)
  /-- RNG_RAW_DATA_READ (R361): A read of RNG_RAW_DATA returns and removes the next FIFO word. -/
  | rngRawDataRead (m : Fin 16) (fresh : List (BitVec 32))
  /-- WRITE_CONFIG_IMAGE_BEGIN (R381): Opens an image write session and erases the target copy's blocks. -/
  | writeConfigImageBegin (f : Fn) (q : Q) (ok : Bool)
  /-- WRITE_CONFIG_IMAGE_WRITE (R381): Programs bytes at OFFSET, holding bytes 0-4,095 in the header buffer. -/
  | writeConfigImageWrite (f : Fn) (q : Q) (ok : Bool)
  /-- WRITE_CONFIG_IMAGE_FINISH (R381): Checks the written copy and programs its header, empties the journal and closes the session. -/
  | writeConfigImageFinish (f : Fn) (q : Q) (c : CopyRead) (ok : Bool)
  /-- WRITE_CONFIG_IMAGE_ABORT (R381): Closes the session leaving the target's header block erased. -/
  | writeConfigImageAbort (f : Fn) (q : Q)
  /-- FUSE_REREAD_TIMER (R387): Every 24 h the Keeper reads the fuses again and raises FUSE_DRIFT on a changed value. -/
  | fuseRereadTimer (r : FuseRead)
  /-- OTP_REREAD (R387): OTP_CTRL.REREAD makes the Keeper read the fuses again. -/
  | otpReread (m : Fin 16) (r : FuseRead)
  /-- SET_POWER_STATE (R413): Moves the device to ACTIVE, READY, SLEEP or WATCH through the transition steps. -/
  | setPowerState (f : Fn) (q : Q)
  /-- SLEEP_ADMIN_DOORBELL (R415): A write to a PF admin doorbell in SLEEP is recorded by the shadow and starts a wake. -/
  | sleepAdminDoorbell (p : Fin 2) (v : BitVec 32)
  /-- WAKE_PIN (R416): WAKE# asserted at two consecutive ticks starts a wake from SLEEP or WATCH. -/
  | wakePin (low : Bool)
  /-- PWR_GOOD_UNASKED (R410): The board asserts PWR_GOOD without PWR_EN in WATCH and a wake starts. -/
  | pwrGoodUnasked
  /-- PWR_GOOD_SEEN (R420): PWR_GOOD is seen during a wake and XTAL25 is started. -/
  | pwrGoodSeen
  /-- XTAL25_RUNNING (R420): The XTAL25 amplitude detector reports running during a wake and the PLLs start. -/
  | xtal25Running
  /-- PLL_LOCKED (R420): SYSPLL and MPLL lock and the wake releases the Keeper or enters READY. -/
  | pllLocked
  /-- PWR_GOOD_TIMEOUT (R421): PWR_GOOD is not seen within 50 ms; PWR_EN is deasserted and a retry follows after 1 s, or the wake fails. -/
  | pwrGoodTimeout
  /-- WAKE_RETRY_WAIT_END (R421): The retry wait of a failed wake step ends and the step runs again. -/
  | wakeRetryWaitEnd
  /-- XTAL25_TIMEOUT (R421): XTAL25 does not run within 5 ms and the crystal step is retried or the wake fails. -/
  | xtal25Timeout
  /-- PLL_TIMEOUT (R421): The PLLs do not lock within 200 us and are reset and retried or the wake fails. -/
  | pllTimeout
  /-- WAKE_ABORT (R419): PWR_FAIL# during a wake stops it with RESULT ABORTED and no retry. -/
  | wakeAbort
  /-- PWR_GOOD_FALL (R418): PWR_GOOD falls while PWR_EN is asserted without a warning and the loss is logged as unwarned. -/
  | pwrGoodFall
  /-- CLOCK_LOSS (R409): XTAL25 stops or SYSPLL loses lock in ACTIVE or READY; CLK_GLITCH is raised and a warm reset follows. -/
  | clockLoss
  /-- RC32_TRIM (R404): Once a second the AON domain trims RC32 against XTAL25. -/
  | rc32Trim (ppm : BitVec 16)
  /-- SUPPLY_TO_VBAT (R422): VAON below 2.65 V for 2 us switches the AON supply to VBAT and starts the dwell. -/
  | supplyToVbat (vaon vbat : BitVec 16)
  /-- DWELL_END (R422): 132 ticks after the switch to VBAT the dwell ends and VAON qualification starts. -/
  | dwellEnd
  /-- SUPPLY_TO_VAON (R422): 33 consecutive samples above 2.9 V switch the AON supply back to VAON. -/
  | supplyToVaon (vaon vbat : BitVec 16)
  /-- VBAT_WARN (R423): A VBAT sample below setting 0x6002 raises AON_EVENT.VBAT_WARN. -/
  | vbatWarn (vbat : BitVec 16)
  /-- XTAL32_FAIL (R427): XTAL32 fails its monitor and the tick counter moves to RC32, raising tamper source 12. -/
  | xtal32Fail
  /-- XTAL32_RETRY (R427): AON_CTRL.XTAL32_RETRY tests XTAL32 for 1 s and returns the counter to it if within 200 ppm. -/
  | xtal32Retry (m : Fin 16) (ok : Bool)
  /-- CLEAR_FAILS (R421): AON_CTRL.CLEAR_FAILS clears the wake failure counters in BBRAM and AON_WAKE_FAILS. -/
  | clearFails (m : Fin 16)
  /-- CALENDAR_DEADLINE (R428): The tick counter reaches the armed calendar deadline outside ACTIVE, setting REFRESH_DUE and disarming. -/
  | calendarDeadline
  /-- WAKE_PULSE_END (R417): The 100 ms WAKE# pulse driven on REFRESH_DUE ends. -/
  | wakePulseEnd
  /-- CROSSING_WAKE_BURST (R408): An item crossing into a stopped clock domain starts an event-clock burst to deliver it. -/
  | crossingWakeBurst
  /-- ADD (R442): rd := rs1 + rs2. -/
  | isaAdd (c : CoreId) (e : Ecc) (rd rs1 rs2 : G)
  /-- SUB (R442): rd := rs1 - rs2. -/
  | isaSub (c : CoreId) (e : Ecc) (rd rs1 rs2 : G)
  /-- AND (R442): rd := rs1 & rs2. -/
  | isaAnd (c : CoreId) (e : Ecc) (rd rs1 rs2 : G)
  /-- ANDN (R442): rd := rs1 & ~rs2. -/
  | isaAndn (c : CoreId) (e : Ecc) (rd rs1 rs2 : G)
  /-- OR (R442): rd := rs1 | rs2. -/
  | isaOr (c : CoreId) (e : Ecc) (rd rs1 rs2 : G)
  /-- XOR (R442): rd := rs1 ^ rs2. -/
  | isaXor (c : CoreId) (e : Ecc) (rd rs1 rs2 : G)
  /-- SHL (R442): rd := rs1 shifted left by rs2[4:0]. -/
  | isaShl (c : CoreId) (e : Ecc) (rd rs1 rs2 : G)
  /-- SHR (R442): rd := rs1 shifted right logically by rs2[4:0]. -/
  | isaShr (c : CoreId) (e : Ecc) (rd rs1 rs2 : G)
  /-- SHRA (R442): rd := rs1 shifted right arithmetically by rs2[4:0]. -/
  | isaShra (c : CoreId) (e : Ecc) (rd rs1 rs2 : G)
  /-- ROTR (R442): rd := rs1 rotated right by rs2[4:0]. -/
  | isaRotr (c : CoreId) (e : Ecc) (rd rs1 rs2 : G)
  /-- LTS (R442): rd := 1 if rs1 < rs2 signed. -/
  | isaLts (c : CoreId) (e : Ecc) (rd rs1 rs2 : G)
  /-- LTU (R442): rd := 1 if rs1 < rs2 unsigned. -/
  | isaLtu (c : CoreId) (e : Ecc) (rd rs1 rs2 : G)
  /-- MUL (R442): rd := low 32 bits of rs1 x rs2. -/
  | isaMul (c : CoreId) (e : Ecc) (rd rs1 rs2 : G)
  /-- MULH (R442): rd := high 32 bits of the signed product. -/
  | isaMulh (c : CoreId) (e : Ecc) (rd rs1 rs2 : G)
  /-- MULHU (R442): rd := high 32 bits of the unsigned product. -/
  | isaMulhu (c : CoreId) (e : Ecc) (rd rs1 rs2 : G)
  /-- DIV (R441): rd := signed quotient, or DIVIDE exception on a zero divisor. -/
  | isaDiv (c : CoreId) (e : Ecc) (rd rs1 rs2 : G)
  /-- DIVU (R441): rd := unsigned quotient, or DIVIDE exception on a zero divisor. -/
  | isaDivu (c : CoreId) (e : Ecc) (rd rs1 rs2 : G)
  /-- REM (R441): rd := signed remainder, or DIVIDE exception on a zero divisor. -/
  | isaRem (c : CoreId) (e : Ecc) (rd rs1 rs2 : G)
  /-- REMU (R441): rd := unsigned remainder, or DIVIDE exception on a zero divisor. -/
  | isaRemu (c : CoreId) (e : Ecc) (rd rs1 rs2 : G)
  /-- CLZ (R442): rd := leading zeros of rs1. -/
  | isaClz (c : CoreId) (e : Ecc) (rd rs1 rs2 : G)
  /-- POPC (R442): rd := set bits of rs1. -/
  | isaPopc (c : CoreId) (e : Ecc) (rd rs1 rs2 : G)
  /-- BSWAP (R442): rd := bytes of rs1 reversed. -/
  | isaBswap (c : CoreId) (e : Ecc) (rd rs1 rs2 : G)
  /-- CALLR (R442): rd := next address and jump to rs1. -/
  | isaCallr (c : CoreId) (e : Ecc) (rd rs1 rs2 : G)
  /-- CSWP (R445): Indivisible compare-and-swap of a word at rs1 in TCM or the staging window. -/
  | isaCswp (c : CoreId) (e : Ecc) (rd rs1 rs2 : G)
  /-- TRAP (R443): Raises the TRAP exception. -/
  | isaTrap (c : CoreId) (e : Ecc) (rd rs1 rs2 : G)
  /-- BREAK (R443): Raises the breakpoint exception. -/
  | isaBreak (c : CoreId) (e : Ecc) (rd rs1 rs2 : G)
  /-- RETX (R443): Returns from an exception, restoring PC, privilege and IE and closing any HOLD window. -/
  | isaRetx (c : CoreId) (e : Ecc) (rd rs1 rs2 : G)
  /-- IDLE (R490): Gates the core clock until an enabled source at or above the threshold is pending. -/
  | isaIdle (c : CoreId) (e : Ecc) (rd rs1 rs2 : G)
  /-- FENCE (R439): Completes when earlier loads have returned and earlier stores are accepted. -/
  | isaFence (c : CoreId) (e : Ecc) (rd rs1 rs2 : G)
  /-- IFLUSH (R439): Empties the prefetch buffer and branch cache. -/
  | isaIflush (c : CoreId) (e : Ecc) (rd rs1 rs2 : G)
  /-- HOLD (R477): Opens a HOLD window of rs1 cycles in which no interrupt is taken. -/
  | isaHold (c : CoreId) (e : Ecc) (rd rs1 rs2 : G)
  /-- HOLDEND (R478): Closes the HOLD window. -/
  | isaHoldend (c : CoreId) (e : Ecc) (rd rs1 rs2 : G)
  /-- ADDI (R444): rd := rs1 + sign-extended immediate. -/
  | isaAddi (c : CoreId) (e : Ecc) (rd rs1 : G) (imm : Imm16)
  /-- ANDI (R444): rd := rs1 & zero-extended immediate. -/
  | isaAndi (c : CoreId) (e : Ecc) (rd rs1 : G) (imm : Imm16)
  /-- ORI (R444): rd := rs1 | zero-extended immediate. -/
  | isaOri (c : CoreId) (e : Ecc) (rd rs1 : G) (imm : Imm16)
  /-- XORI (R444): rd := rs1 ^ zero-extended immediate. -/
  | isaXori (c : CoreId) (e : Ecc) (rd rs1 : G) (imm : Imm16)
  /-- LTSI (R444): rd := 1 if rs1 < sign-extended immediate. -/
  | isaLtsi (c : CoreId) (e : Ecc) (rd rs1 : G) (imm : Imm16)
  /-- LTUI (R444): rd := 1 if rs1 < zero-extended immediate unsigned. -/
  | isaLtui (c : CoreId) (e : Ecc) (rd rs1 : G) (imm : Imm16)
  /-- SHLI (R444): rd := rs1 shifted left by imm[4:0]. -/
  | isaShli (c : CoreId) (e : Ecc) (rd rs1 : G) (imm : Imm16)
  /-- SHRI (R444): rd := rs1 shifted right logically by imm[4:0]. -/
  | isaShri (c : CoreId) (e : Ecc) (rd rs1 : G) (imm : Imm16)
  /-- SHRAI (R444): rd := rs1 shifted right arithmetically by imm[4:0]. -/
  | isaShrai (c : CoreId) (e : Ecc) (rd rs1 : G) (imm : Imm16)
  /-- ADDH (R444): rd := rs1 + (imm << 16). -/
  | isaAddh (c : CoreId) (e : Ecc) (rd rs1 : G) (imm : Imm16)
  /-- RDC (R451): rd := a control register. -/
  | isaRdc (c : CoreId) (e : Ecc) (rd rs1 : G) (imm : Imm16)
  /-- WRC (R451): A control register := rs1, including EPOCHACK and STATUS.PAM. -/
  | isaWrc (c : CoreId) (e : Ecc) (rd rs1 : G) (imm : Imm16)
  /-- LB (R445): Loads a sign-extended byte. -/
  | isaLb (c : CoreId) (e : Ecc) (rt base : G) (off : Imm16)
  /-- LBU (R445): Loads a zero-extended byte. -/
  | isaLbu (c : CoreId) (e : Ecc) (rt base : G) (off : Imm16)
  /-- LH (R445): Loads a sign-extended halfword. -/
  | isaLh (c : CoreId) (e : Ecc) (rt base : G) (off : Imm16)
  /-- LHU (R445): Loads a zero-extended halfword. -/
  | isaLhu (c : CoreId) (e : Ecc) (rt base : G) (off : Imm16)
  /-- LW (R445): Loads a word. -/
  | isaLw (c : CoreId) (e : Ecc) (rt base : G) (off : Imm16)
  /-- LWA (R445): Loads a word that no later access of the core may overtake. -/
  | isaLwa (c : CoreId) (e : Ecc) (rt base : G) (off : Imm16)
  /-- SB (R445): Stores a byte. -/
  | isaSb (c : CoreId) (e : Ecc) (rt base : G) (off : Imm16)
  /-- SH (R445): Stores a halfword. -/
  | isaSh (c : CoreId) (e : Ecc) (rt base : G) (off : Imm16)
  /-- SW (R445): Stores a word. -/
  | isaSw (c : CoreId) (e : Ecc) (rt base : G) (off : Imm16)
  /-- SWR (R445): Stores a word after every earlier access has completed. -/
  | isaSwr (c : CoreId) (e : Ecc) (rt base : G) (off : Imm16)
  /-- BEQ (R446): Branches if ra = rb. -/
  | isaBeq (c : CoreId) (e : Ecc) (ra rb : G) (off : Imm16)
  /-- BNE (R446): Branches if ra != rb. -/
  | isaBne (c : CoreId) (e : Ecc) (ra rb : G) (off : Imm16)
  /-- BLT (R446): Branches if ra < rb signed. -/
  | isaBlt (c : CoreId) (e : Ecc) (ra rb : G) (off : Imm16)
  /-- BLE (R446): Branches if ra <= rb signed. -/
  | isaBle (c : CoreId) (e : Ecc) (ra rb : G) (off : Imm16)
  /-- BLTU (R446): Branches if ra < rb unsigned. -/
  | isaBltu (c : CoreId) (e : Ecc) (ra rb : G) (off : Imm16)
  /-- BLEU (R446): Branches if ra <= rb unsigned. -/
  | isaBleu (c : CoreId) (e : Ecc) (ra rb : G) (off : Imm16)
  /-- J (R446): Jumps by a word offset. -/
  | isaJ (c : CoreId) (e : Ecc) (off : BitVec 26)
  /-- CALL (R446): Jumps by a word offset and writes pc + 4 to g1. -/
  | isaCall (c : CoreId) (e : Ecc) (off : BitVec 26)
  /-- WADD (R447): Wide add modulo 2^256 with flags. -/
  | isaWadd (c : CoreId) (e : Ecc) (wd wa wb : W) (gr : G)
  /-- WADC (R447): Wide add with carry. -/
  | isaWadc (c : CoreId) (e : Ecc) (wd wa wb : W) (gr : G)
  /-- WSUB (R447): Wide subtract with borrow flag. -/
  | isaWsub (c : CoreId) (e : Ecc) (wd wa wb : W) (gr : G)
  /-- WSBB (R447): Wide subtract with borrow in. -/
  | isaWsbb (c : CoreId) (e : Ecc) (wd wa wb : W) (gr : G)
  /-- WXOR (R447): Wide bitwise XOR. -/
  | isaWxor (c : CoreId) (e : Ecc) (wd wa wb : W) (gr : G)
  /-- WAND (R447): Wide bitwise AND. -/
  | isaWand (c : CoreId) (e : Ecc) (wd wa wb : W) (gr : G)
  /-- WOR (R447): Wide bitwise OR. -/
  | isaWor (c : CoreId) (e : Ecc) (wd wa wb : W) (gr : G)
  /-- WSHL (R447): Wide shift left by g[gr]. -/
  | isaWshl (c : CoreId) (e : Ecc) (wd wa wb : W) (gr : G)
  /-- WSHR (R447): Wide shift right by g[gr]. -/
  | isaWshr (c : CoreId) (e : Ecc) (wd wa wb : W) (gr : G)
  /-- WMUL (R447): Product of the low 128-bit halves. -/
  | isaWmul (c : CoreId) (e : Ecc) (wd wa wb : W) (gr : G)
  /-- WMULH (R447): Product of the high 128-bit halves. -/
  | isaWmulh (c : CoreId) (e : Ecc) (wd wa wb : W) (gr : G)
  /-- WMODMUL (R447): Modular product by w7, or wide-domain exception when w7 is 0. -/
  | isaWmodmul (c : CoreId) (e : Ecc) (wd wa wb : W) (gr : G)
  /-- WCLMUL (R447): Carry-less product of the low 128-bit halves. -/
  | isaWclmul (c : CoreId) (e : Ecc) (wd wa wb : W) (gr : G)
  /-- WGF8MUL (R447): Bytewise GF(2^8) product. -/
  | isaWgf8mul (c : CoreId) (e : Ecc) (wd wa wb : W) (gr : G)
  /-- WCMP (R447): Wide compare setting Z and LT. -/
  | isaWcmp (c : CoreId) (e : Ecc) (wd wa wb : W) (gr : G)
  /-- WLD (R448): Loads 32 bytes into a wide register. -/
  | isaWld (c : CoreId) (e : Ecc) (wd wa wb : W) (gr : G)
  /-- WST (R448): Stores a wide register as 32 bytes. -/
  | isaWst (c : CoreId) (e : Ecc) (wd wa wb : W) (gr : G)
  /-- WGET (R447): g[gr] := one word of a wide register. -/
  | isaWget (c : CoreId) (e : Ecc) (wd wa wb : W) (gr : G)
  /-- WPUT (R447): Writes g[gr] into one word of a wide register. -/
  | isaWput (c : CoreId) (e : Ecc) (wd wa wb : W) (gr : G)
  /-- WIDE_COMMIT (R449): A wide operation commits at the end of its latency, raising an imprecise wide-domain exception if it faulted. -/
  | wideCommit (c : CoreId) (i : Fin 64)
  /-- POSTED_STORE_REFUSED (R473): A posted store is refused by its target or the firewall and an imprecise STORE_FAULT is taken. -/
  | postedStoreRefused (c : CoreId)
  /-- INTERRUPT_ENTRY (R486): At an instruction boundary the highest eligible source is claimed and its level's vector entered. -/
  | interruptEntry (c : CoreId)
  /-- HOLD_OVERRUN (R478): HOLDCNT reaches 0 with the window still open; the overrun is counted and HOLD_OVERRUN raised. -/
  | holdOverrun (c : CoreId)
  /-- SOURCE_ASSERT (R480): An interrupt source is asserted and, for a shared source, enters its coalescing stage. -/
  | sourceAssert (id : Fin 512) (c : CoreId)
  /-- ICU_COAL_TIMER (R480): A shared source's coalescing time expires since its first assertion and it is released as pending. -/
  | icuCoalTimer (n : Fin 480)
  /-- ICU_TAKE_WRITE (R487): A write of ICU_TAKE claims the named source if it is still the one to be taken. -/
  | icuTakeWrite (c : CoreId) (v : BitVec 32)
  /-- ICU_RETIRE_WRITE (R488): A write of ICU_RETIRE ends service of the source claimed at that level. -/
  | icuRetireWrite (c : CoreId) (v : BitVec 32)
  /-- ICU_SWI_WRITE (R484): A write of ICU_SWI asserts software sources once. -/
  | icuSwiWrite (m : Fin 16) (v : BitVec 32)
  /-- ICU_SRC_CFG_WRITE (R482): A write of a shared source's configuration changes enable, level, target or coalescing, moving its pending bit. -/
  | icuSrcCfgWrite (m : Fin 16) (n : Fin 480) (coal : Bool) (v : BitVec 32)
  /-- ICU_PCFG_WRITE (R481): A write of a private source's configuration enables it, setting pending if a level input is asserted. -/
  | icuPcfgWrite (c : CoreId) (i : Fin 32) (v : BitVec 32)
  /-- LOCKSTEP_MISMATCH (R454): The Keeper comparator detects a mismatch, blocks the pair's outputs, raises tamper source 18 and restarts or halts the pair. -/
  | lockstepMismatch (selfTest : Bool)
  /-- KCALL_GO (R457): A write of GO = 1 in a request slot submits a KCALL request as PENDING. -/
  | kcallGo (c : PCore) (k : Fin 4)
  /-- KCALL_DONE (R457): A KCALL service ends, its slot becomes DONE and KCALL_DONE is raised. -/
  | kcallDone (c : PCore) (k : Fin 4)
  /-- SETTING_SET (R459): KCALL service changing a setting as SET_SETTING does. -/
  | settingSet
  /-- SETTING_GET (R459): KCALL service returning a setting value. -/
  | settingGet
  /-- RANDOM (R459): KCALL service writing bytes from DRBG instance 3. -/
  | random
  /-- RANDOM_WAIT_TIMEOUT (R459): A KCALL RANDOM request waits beyond setting 0x9002 and ends with BUSY_RETRY. -/
  | randomWaitTimeout
  /-- TENANT_CREATE (R196): KCALL service creating a tenant with a new key and escrow blob. -/
  | tenantCreate
  /-- TENANT_SET (R196): KCALL service changing a tenant's quotas, open width and rank mask. -/
  | tenantSet
  /-- TENANT_DELETE (R196): KCALL service deleting a tenant holding nothing. -/
  | tenantDelete
  /-- TENANT_QUERY (R196): KCALL service returning a tenant's descriptor, state and use. -/
  | tenantQuery
  /-- KEY_GENERATE (R459): KCALL service creating a policy key in a free slot. -/
  | keyGenerate
  /-- KEY_DELETE (R459): KCALL service deleting a policy key. -/
  | keyDelete
  /-- KEY_SEAL (R459): KCALL service sealing a buffer under a policy key with AES-GCM. -/
  | keySeal
  /-- KEY_OPEN (R459): KCALL service opening a sealed buffer under a policy key. -/
  | keyOpen
  /-- KEY_CMAC (R459): KCALL service computing an AES-CMAC tag. -/
  | keyCmac
  /-- KEY_CMAC_VERIFY (R459): KCALL service verifying an AES-CMAC tag. -/
  | keyCmacVerify
  /-- PK_VERIFY (R459): KCALL service verifying a public-key signature on the PKE. -/
  | pkVerify
  /-- LC_PROVISION (R395): Provisions a BLANK device: fuses F, helper data and IMGKEY digests, and generates its keys. -/
  | lcProvision (fuseFail : Option Nat)
  /-- LC_INSTALL_CERT (R396): Stores a Sirmin or owner certificate of an identity key. -/
  | lcInstallCert (k : CertCheck)
  /-- LC_DEPLOY (R397): Programs the DEPLOYED fuse, draws S and creates tenant 0. -/
  | lcDeploy (fuseFail : Bool)
  /-- LC_RETIRE (R398): Erases keys and the KEK and programs the RETIRED fuse. -/
  | lcRetire (fuseFail : Bool)
  /-- POL_DMA_GO (R463): A write of POL_DMA_CTRL with GO starts a transfer of a policy command's data. -/
  | polDmaGo (m : Fin 16) (c : PCore) (v : BitVec 32)
  /-- POL_DMA_DONE (R463): A policy DMA transfer ends with or without error and POLDMA is raised. -/
  | polDmaDone (c : PCore) (how : LinkEnd) (data : List (BitVec 8))
  /-- POL_CMD_DONE (R464): A write of POL_CMD_DONE posts the completion of a policy command. -/
  | polCmdDone (m : Fin 16) (c : PCore) (v : BitVec 32)
  /-- POL_CORE_RESET (R476): A write of POL_CORE_CTRL.RESET holds or releases a policy core, aborting its policy commands. -/
  | polCoreReset (m : Fin 16) (c : PCore) (v : BitVec 32)
  /-- MPU_CTRL_WRITE (R502): A write of MPU_CTRL enables or disables MPU checking for accesses after the next FENCE. -/
  | mpuCtrlWrite (m : Fin 16) (c : PCore) (v : BitVec 32)
  /-- MPU_RGN_WRITE (R502): A write of a region register is accepted while MPU_CTRL.EN = 0, else ignored with RGN_WR_IGNORED. -/
  | mpuRgnWrite (m : Fin 16) (c : PCore) (r : Fin 16) (k : Fin 3) (v : BitVec 32)
  /-- MPU_TAG_SET (R506): A write of MPU_TAG_SET with GO starts a colour-tag fill. -/
  | mpuTagSet (m : Fin 16) (c : PCore) (v : BitVec 32)
  /-- TAG_FILL_DONE (R506): A tag fill ends its check and set passes, or fails its check with TAG_ERR. -/
  | tagFillDone (c : PCore)
  /-- FWL_COMMIT (R515): FWL_CTRL.COMMIT stalls new requests and starts copying the staged windows. -/
  | fwlCommit (m : Fin 16)
  /-- FWL_COMMIT_DONE (R515): Admitted requests drain, the staged windows become active and stalled requests are checked. -/
  | fwlCommitDone (late : Nat)
  /-- FLASH_PROGRAM (R523): EFL_IF_CMD PROGRAM starts or queues a 256-bit word program. -/
  | flashProgram (m : Fin 16) (b i : Fin 2)
  /-- FLASH_ERASE (R525): EFL_IF_CMD ERASE starts or queues a sector erase bracketed by flags. -/
  | flashErase (m : Fin 16) (b i : Fin 2)
  /-- FLASH_SUSPEND (R528): EFL_IF_CMD SUSPEND suspends a running erase. -/
  | flashSuspend (m : Fin 16) (b i : Fin 2)
  /-- FLASH_RESUME (R527): EFL_IF_CMD RESUME resumes a suspended erase. -/
  | flashResume (m : Fin 16) (b i : Fin 2)
  /-- FLASH_PROGRAM_DONE (R523): A program verifies or fails after its pulses and the bank returns to IDLE or SUSPENDED. -/
  | flashProgramDone (b : Fin 2) (pulses : Fin 25) (ok : Bool)
  /-- FLASH_ERASE_DONE (R525): An erase verifies and programs DONE, or fails after 19 pulses. -/
  | flashEraseDone (b : Fin 2) (pulses : Fin 20) (ok : Bool)
  /-- FLASH_SUSPEND_EFFECT (R528): A pending suspend takes effect at the end of a flag program, pulse stop or verify. -/
  | flashSuspendEffect (b : Fin 2)
  /-- FLASH_REFRESH_WALK (R538): Every refresh cycle / 768 the Keeper refreshes the next runtime sector through scratch. -/
  | flashRefreshWalk (blank : Bool)
  /-- TAMPER_SAMPLE (R545): A Watchman sample drives and reads the sampled sources, confirming or clearing alarms. -/
  | tamperSample (x : Sample)
  /-- ENV_EXCURSION (R545): A continuously watched source's detector trips and its alarm is confirmed. -/
  | envExcursion (src : Fin 20) (detA detB : Bool) (vaon vbat : BitVec 16)
  /-- DETECTOR_DISAGREE (R549): One detector of an environmental source has tripped without the other for 1 ms and a disagreement is logged. -/
  | detectorDisagree (src : Fin 20) (detA detB : Bool)
  /-- STIMULUS_TEST_TIMER (R550): The stimulus test interval expires and every enabled intrusion source is stimulus-tested. -/
  | stimulusTestTimer (failed : BitVec 20)
  /-- TMP_TEST (R550): TMP_CTRL.TEST stimulus-tests every enabled intrusion source now. -/
  | tmpTest (m : Fin 16) (failed : BitVec 20)
  /-- TMP_LATCHED_WRITE (R565): A W1C write of TMP_LATCHED clears bits of sources no longer in alarm. -/
  | tmpLatchedWrite (m : Fin 16) (v : BitVec 32)
  /-- TAMPER_LOG_COPY (R562): The Keeper copies new BBRAM tamper entries to log 0x71. -/
  | tamperLogCopy
  /-- QUORUM_SESSION_TIMEOUT (R556): The session time limit of setting 0x7004 is reached and the session returns to IDLE. -/
  | quorumSessionTimeout
  /-- UNLOCK_OPEN (R556): UNLOCK OPEN starts a quorum session in GATHERING. -/
  | unlockOpen (f : Fn) (q : Q)
  /-- UNLOCK_STATUS (R557): UNLOCK STATUS writes the 64-byte session report. -/
  | unlockStatus (f : Fn) (q : Q)
  /-- UNLOCK_ACT_UNLOCK (R559): ACT UNLOCK clears the LOCK flags, commits the boot firewall table and returns to DEPLOYED. -/
  | unlockActUnlock (f : Fn) (q : Q)
  /-- ROLLBACK_ACCEPT (R218): ACT ROLLBACK_ACCEPT seals open extents, raises KEYGENs, persists and clears ARCHIVE_RO. -/
  | rollbackAccept (f : Fn) (q : Q)
  /-- ROLLBACK_REJECT (R218): ACT ROLLBACK_REJECT keeps the archive read-only. -/
  | rollbackReject (f : Fn) (q : Q)
  /-- RESTORE (R200): ACT RESTORE installs a tenant key from a restore token and releases its pending voids. -/
  | restore (f : Fn) (q : Q) (token : RestoreToken)
  /-- UNLOCK_CLOSE (R556): UNLOCK CLOSE ends the quorum session. -/
  | unlockClose (f : Fn) (q : Q)
  /-- CARD_INSERT (R567): CRD_DET# stays asserted for the debounce time and the card is activated if a session or enrolment needs it. -/
  | cardInsert
  /-- CARD_REMOVE (R569): CRD_DET# deasserts and the card is deactivated at once with CARD_REMOVED. -/
  | cardRemove
  /-- CARD_ACTIVATE (R568): The card is powered at a class, clocked and released from reset. -/
  | cardActivate (ok : Bool)
  /-- ATR_RECEIVED (R570): The card's ATR is received and decoded, or rejected with CARD_ERROR. -/
  | atrReceived (a : AtrRead)
  /-- ATR_TIMEOUT (R568): No TS or next ATR character arrives in time and the next class is tried. -/
  | atrTimeout
  /-- CLASS_CHANGE_WAIT_END (R568): The 10 ms with CRD_VCC off between classes ends and the next class is activated. -/
  | classChangeWaitEnd
  /-- PPS_EXCHANGE (R572): A PPS request is sent and the card's response accepted or the card reactivated. -/
  | ppsExchange (r : List (BitVec 8))
  /-- CARD_SELECT (R577): SELECT of the custodian application and its response. -/
  | cardSelect (a : CardAnswer)
  /-- READ_CERT (R578): READ_CERT returns the 160-byte card certificate, which is verified. -/
  | readCert (a : CardAnswer) (c : CardCert)
  /-- AUTHENTICATE (R579): AUTHENTICATE sends the 64-byte challenge and the card answers 61 40. -/
  | authenticate (a : CardAnswer)
  /-- GET_RESPONSE (R580): GET RESPONSE returns the signature, which is verified and the card counted. -/
  | getResponse (a : CardAnswer) (ok : Bool)
  /-- CARD_WWT_TIMEOUT (R575): No character arrives within WWT and the exchange ends with CARD_ERROR. -/
  | cardWwtTimeout
  /-- CARD_OVERCURRENT (R622): CRD_VCC exceeds 1.5 times its class limit for 1 ms and the card is deactivated with CARD_ERROR. -/
  | cardOvercurrent
  /-- CARD_CLOCK_STOP (R576): 1,860 clock cycles after the last character, the card clock is stopped where permitted. -/
  | cardClockStop
  /-- CRD_DEACT (R569): CRD_CTRL.DEACT deactivates the card now. -/
  | crdDeact (m : Fin 16)
  /-- ENROL (R581): CRD_SET_CTRL ENROL authenticates the card in the slot into a staged entry. -/
  | enrol (m : Fin 16) (idx : BitVec 3)
  /-- REVOKE (R581): CRD_SET_CTRL REVOKE empties a staged entry. -/
  | revoke (m : Fin 16) (idx : BitVec 3)
  /-- CUSTODIAN_COMMIT (R582): CRD_SET_CTRL COMMIT replaces the committed custodian set and k. -/
  | custodianCommit (m : Fin 16) (k : BitVec 3)
  /-- CUSTODIAN_DISCARD (R581): CRD_SET_CTRL DISCARD returns the staged copy to the committed set. -/
  | custodianDiscard (m : Fin 16)
  /-- NFC_FIELD_ON (R587): A reader field appears and powers the tag. -/
  | nfcFieldOn
  /-- NFC_FIELD_LOST (R592): The field is lost and the tag goes to POWER-OFF, ending authentication. -/
  | nfcFieldLost
  /-- REQA (R589): REQA moves an IDLE tag to READY with ATQA. -/
  | reqa
  /-- WUPA (R589): WUPA wakes an IDLE or HALT tag with ATQA. -/
  | wupa
  /-- ANTICOLLISION (R590): ANTICOLLISION returns UID bits at the cascade level. -/
  | anticollision (level2 : Bool) (n : Fin 41) (known : BitVec 40)
  /-- NFC_SELECT (R590): SELECT at a cascade level answers with SAK and moves the tag on. -/
  | nfcSelect (level2 : Bool) (uid : BitVec 40)
  /-- HLTA (R592): HLTA moves the tag to HALT and ends authentication. -/
  | hlta
  /-- NFC_INVALID_FRAME (R592): A frame with parity or CRC error, or not a Sirmin command, returns a selected tag to IDLE or HALT. -/
  | nfcInvalidFrame (how : BadFrame)
  /-- READ16 (R600): Returns 16 bytes of a page's current copy with its version. -/
  | read16 (addr : BitVec 16) (lengthOk : Bool)
  /-- WRITE4 (R601): Writes 4 bytes of the memo in an authenticated session. -/
  | write4 (addr : BitVec 16) (data : BitVec 32) (lengthOk : Bool) (power : TagPower)
  /-- GET_INFO (R600): Returns the tag's 16-byte information block. -/
  | getInfo (lengthOk : Bool) (power : TagPower)
  /-- AUTH1 (R603): Raises CTR and returns CTR and the tag token TT. -/
  | auth1 (rndR : BitVec 64) (lengthOk : Bool) (power : TagPower)
  /-- AUTH2 (R603): Verifies the reader token and authenticates the session or counts a failure. -/
  | auth2 (tr : BitVec 64) (lengthOk : Bool)
  /-- NPL_KUPD (R598): NPL_KUPD GO requests a Keeper update of page 0, 1 or 2 from NPL_KBUF. -/
  | nplKupd (m : Fin 16) (v : BitVec 32)
  /-- NPL_PUPD (R598): NPL_PUPD GO requests an update of page 4 bytes 0-127 from NPL_PBUF. -/
  | nplPupd (m : Fin 16) (v : BitVec 32)
  /-- PAGE_UPDATE (R598): A page update takes the lock once field windows close, writes the other copy and switches the selector. -/
  | pageUpdate (u : PageUpd) (fin : Bool) (us : BitVec 16)
  /-- NPL_RD_CTRL (R605): NPL_RD_CTRL GO copies a page's current copy into NPL_RBUF. -/
  | nplRdCtrl (m : Fin 16) (v : BitVec 32)
  /-- NPL_KEY_SET (R602): NPL_KEY_CTRL.SET stores NPL_KEY as the reader key, or is refused. -/
  | nplKeySet (m : Fin 16)
  /-- NPL_KEY_CLEAR (R602): NPL_KEY_CTRL.CLEAR sets the reader key to zero, or is refused. -/
  | nplKeyClear (m : Fin 16)
  /-- SMB_READ_DEV_ID (R626): SMBus Block Read 0x01 returns DEV_ID. -/
  | smbReadDevId
  /-- SMB_READ_DEV_STATUS (R626): SMBus Block Read 0x02 returns DEV_STATUS. -/
  | smbReadDevStatus
  /-- SMB_READ_SERIAL (R626): SMBus Block Read 0x03 returns the serial number. -/
  | smbReadSerial
  /-- SMB_READ_AON_EVENT (R626): SMBus Block Read 0x04 returns AON_EVENT and AON_ALERT_EN. -/
  | smbReadAonEvent
  /-- SMB_READ_TEMP (R626): SMBus Read Word 0x05 returns the junction temperature. -/
  | smbReadTemp
  /-- SMB_READ_AON_SUPPLY (R626): SMBus Block Read 0x06 returns AON_SUPPLY. -/
  | smbReadAonSupply
  /-- SMB_READ_TAMPER (R626): SMBus Block Read 0x07 returns TMP_ALARM and TMP_LATCHED. -/
  | smbReadTamper
  /-- SMB_READ_CFG_DIGEST (R626): SMBus Block Read 0x08 returns the configuration digest. -/
  | smbReadCfgDigest
  /-- SMB_INVALID (R626): An SMBus write, unlisted code or ARP command is not acknowledged and sets SMB_ERR. -/
  | smbInvalid
  /-- SMB_TIMEOUT (R626): The SMBus clock is held low over 30 ms and the slave releases the bus. -/
  | smbTimeout
  /-- BYPASS (R625): The TAP BYPASS instruction in BLANK. -/
  | bypass
  /-- IDCODE (R625): The TAP IDCODE instruction returns the device IDCODE. -/
  | idcode
  /-- SAMPLE_PRELOAD (R625): The TAP SAMPLE/PRELOAD instruction captures the boundary register. -/
  | samplePreload (balls : List Bool) (preload : List Bool)
  /-- EXTEST (R625): The TAP EXTEST instruction drives the boundary register onto the balls. -/
  | extest
  /-- REG64_HALF_ACCESS (R640): A 32-bit access to half of a 64-bit register latches or combines the other half per master. -/
  | reg64HalfAccess (via : Via) (a : BitVec 32) (write : Bool) (v : BitVec 32)
  /-- REGISTER_WRITE (R10): A write to a register with no row of its own acts on its fields by their access types. -/
  | registerWrite (via : Via) (a : BitVec 32) (v : BitVec 64)
  /-- PERSIST_HOLDOFF_END (R214): A full persist requested less than 10 minutes after the previous root commit (EXT_CTRL.PERSIST, RANK_CONTROL CREATE, a rebuild, or a journal ring short of a zone) starts once 10 minutes have passed. -/
  | persistHoldoffEnd
  /-- BATCH_HOLDOFF_END (R234): 250 us after the previous batch close, the entries that were formed meanwhile and waited outside the batch enter it, and a batch that is due closes. -/
  | batchHoldoffEnd
  /-- ANCHOR_STALE (R247): The time anchor becomes older than setting 0x3005, so STALE is set in the time quality and SCV_EVENT.TQ_CHANGE is raised. -/
  | anchorStale
  /-- UNEXPECTED_COMPLETION (R96): A host port receives a completion for no outstanding request and sets HIF_PORT_ERR.UNEXP_CPL, which asserts shared source HIF_PORT_A or HIF_PORT_B. -/
  | unexpectedCompletion (p : Fin 2)
  deriving DecidableEq, Repr

end Sys2Proof
end

