-- ==== Sys2Proof/Config.lean ====
section
/-!
DEFINITION. Config.lean: what the spec fixes per part, and the FREE VALUES: constants without a body, for every value that the spec
leaves open or that rests on a secret, a random source or a published algorithm this model does not compute. Nothing can be proved
of a free value but that equal arguments give equal values. Each is named in a log entry.
-/

namespace Sys2Proof

/-- The part is a CX4-128-IT (00, R2): true or false by the fuses, so no statement can rest on either. -/
opaque Config.part128 : Bool

/-- The 64-bit serial number in the fuses (10, R386). -/
opaque Config.serial : Nat

/-- The trim word `n` as programmed, and its design default (10, R384, R385). -/
opaque Config.trim : Nat → Nat
opaque Config.trimDefault : Nat → Nat

/-- SHA-384(PUBE ‖ PUBM) of Sirmin manufacturing key `n` in the Keeper ROM (10, R367). -/
opaque Config.romKey : Nat → Nat

/-- The PUF response that the helper data of an enrolment with secret F reconstructs (05, R183; log entry 4). -/
opaque Config.puf : Nat → Nat

/-- The Keeper ROM version (12, R467: "fixed"). -/
opaque Config.keeperRomVersion : Nat

/-- The bytes of the Keeper ROM, 0x0FFC_0000 on (12, R437): the spec does not give them. Log entry 26. -/
opaque Config.romByte : Nat → Nat

/-- The IC manufacturer code of Sirmin, UID0 (18, R590). -/
opaque Config.icCode : Nat

/-- Sirmin's JEDEC manufacturer code (19, R625). -/
opaque Config.jedecCode : Nat

/-- A free number: the n-th value that the spec leaves open (State.fresh counts them). Log entry 3. -/
opaque Config.free : Nat → Nat

/-- SHA-384 of a list of numbers standing for the bytes hashed (06, R229; 05, R208; 10, R378). Log entry 4. -/
opaque Config.sha384 : List Nat → Nat

/-- AES-256-GCM tag of a record under an extent key: key, offset, header and payload standing as numbers (03, R97). Log entry 4. -/
opaque Config.gcmTag : Nat → Nat → List Nat → Nat

/-- AES-CMAC under a key (12, R459; 18, R603; 02, R91). Log entry 4. -/
opaque Config.cmac : Nat → List Nat → Nat

/-- A key derived from a key and a context (05, R190; 02, R91). Log entry 4. -/
opaque Config.kdf : Nat → List Nat → Nat

/-- A signature of a message by a key (06, R236; 06, R257). Log entry 4. -/
opaque Config.sign : Nat → List Nat → Nat

/-- Bits drawn from the device's random number generator: instance and draw number (09, R353). Log entry 5. -/
opaque Config.random : Nat → Nat → Nat

end Sys2Proof
end

