-- ==== Sys2Proof/Machine/Tab.lean ====
section
/-!
DEFINITION. Machine/Tab.lean: sparse data by number. A `Tab` is a list of (key, value) pairs whose keys strictly rise, so that two
equal tables are equal lists. The register file, the extent table, the records in flight and the memories of the model are tables.
-/

namespace Sys2Proof.Machine

/-- Sparse data by number: pairs with strictly rising keys. -/
abbrev Tab (α : Type) := List (Nat × α)

/-- The keys strictly rise. -/
def Tab.wf {α : Type} : Tab α → Bool
  | [] => true
  | [_] => true
  | a :: b :: t => decide (a.1 < b.1) && Tab.wf (b :: t)

/-- The value at key `k`, if the table lists one. -/
def Tab.find {α : Type} (k : Nat) : Tab α → Option α
  | [] => none
  | (j, v) :: t => if k = j then some v else if k < j then none else Tab.find k t

/-- The value at key `k`, or `d`. -/
def Tab.getD {α : Type} (t : Tab α) (k : Nat) (d : α) : α := (Tab.find k t).getD d

/-- Put `v` at key `k`, keeping the keys in order. -/
def Tab.put {α : Type} (k : Nat) (v : α) : Tab α → Tab α
  | [] => [(k, v)]
  | (j, w) :: t => if k = j then (k, v) :: t else if k < j then (k, v) :: (j, w) :: t else (j, w) :: Tab.put k v t

/-- Remove key `k`. -/
def Tab.del {α : Type} (k : Nat) : Tab α → Tab α
  | [] => []
  | (j, w) :: t => if k = j then t else if k < j then (j, w) :: t else (j, w) :: Tab.del k t

/-- Apply `f` to every value, keeping the keys. -/
def Tab.mapVal {α β : Type} (f : Nat → α → β) : Tab α → Tab β
  | [] => []
  | (j, w) :: t => (j, f j w) :: Tab.mapVal f t

/-- Keep the pairs that satisfy `p`. -/
def Tab.keep {α : Type} (p : Nat → α → Bool) : Tab α → Tab α
  | [] => []
  | (j, w) :: t => if p j w then (j, w) :: Tab.keep p t else Tab.keep p t

/-- The keys of the table, rising. -/
def Tab.keys {α : Type} : Tab α → List Nat
  | [] => []
  | (j, _) :: t => j :: Tab.keys t

/-- Put `v` at `k`, or remove the entry where `v` is what an unlisted key reads as. -/
def Tab.store {α : Type} [DecidableEq α] (d : α) (k : Nat) (v : α) (t : Tab α) : Tab α :=
  if v = d then Tab.del k t else Tab.put k v t

end Sys2Proof.Machine
end

