-- ==== Sys2Proof/Machine/Fields.lean ====
section
/-!
DEFINITION. Machine/Fields.lean: the register fields of the spec, by name. Every field of every register table of spec/ is one
`Fld`: its number, its width and the value it has after the reset that the register names (a function of the index).
A reset value the spec takes from flash, fuses, FRAM or a table (written 0 here) is one that no reset changes: type 4 of
`fieldResetTypes`.
-/

namespace Sys2Proof.Machine

/-- A field of a register of the spec: its number in the register file, its width in bits, its reset value by index. -/
structure Fld where
  id : Nat
  width : Nat
  reset : Nat → Nat

/-- Floors of the action sets of the 20 tamper sources (16, R543). -/
def tamperFloor (s : Nat) : Nat :=
  [1, 1, 1, 1, 1, 1, 1, 1, 1, 1, 1, 1, 1, 0x0D, 0x0D, 1, 0x0D, 1, 0x0D, 1].getD s 0

/-- Default action sets of the 20 tamper sources (16, R543). -/
def tamperDefault (s : Nat) : Nat :=
  [0xF, 0xF, 0xF, 0xF, 0xF, 0xF, 0xF, 0xF, 3, 3, 3, 3, 3, 0x1F, 0xF, 0xF, 0xF, 0xF, 0xF, 0xF].getD s 0

/-- 02, R96: FN_SQT.TAIL. -/
def Reg.FN_SQT.TAIL : Fld := ⟨0, 16, fun _ => 0⟩
/-- 02, R96: FN_CQH.HEAD. -/
def Reg.FN_CQH.HEAD : Fld := ⟨1, 16, fun _ => 0⟩
/-- 02, R96: MBX_OUT.DATA. -/
def Reg.MBX_OUT.DATA : Fld := ⟨2, 32, fun _ => 0⟩
/-- 02, R96: MBX_IN.DATA. -/
def Reg.MBX_IN.DATA : Fld := ⟨3, 32, fun _ => 0⟩
/-- 02, R96: MBX_STATUS.OVERRUN. -/
def Reg.MBX_STATUS.OVERRUN : Fld := ⟨4, 1, fun _ => 0⟩
/-- 02, R96: MBX_STATUS.IN_FULL. -/
def Reg.MBX_STATUS.IN_FULL : Fld := ⟨5, 1, fun _ => 0⟩
/-- 02, R96: MBX_STATUS.OUT_FULL. -/
def Reg.MBX_STATUS.OUT_FULL : Fld := ⟨6, 1, fun _ => 0⟩
/-- 02, R96: MBX_CTRL.ACK. -/
def Reg.MBX_CTRL.ACK : Fld := ⟨7, 1, fun _ => 0⟩
/-- 02, R96: MBX_CTRL.POST. -/
def Reg.MBX_CTRL.POST : Fld := ⟨8, 1, fun _ => 0⟩
/-- 02, R96: FN_STATUS.QUOTA. -/
def Reg.FN_STATUS.QUOTA : Fld := ⟨9, 7, fun _ => 0⟩
/-- 02, R96: FN_STATUS.TENANT. -/
def Reg.FN_STATUS.TENANT : Fld := ⟨10, 8, fun _ => 0⟩
/-- 02, R96: FN_STATUS.POWER. -/
def Reg.FN_STATUS.POWER : Fld := ⟨11, 2, fun _ => 0⟩
/-- 02, R96: FN_STATUS.LOCKED. -/
def Reg.FN_STATUS.LOCKED : Fld := ⟨12, 1, fun _ => 0⟩
/-- 02, R96: FN_STATUS.STATE. -/
def Reg.FN_STATUS.STATE : Fld := ⟨13, 3, fun _ => 0⟩
/-- 02, R96: FN_EVENT.VF_RESET. -/
def Reg.FN_EVENT.VF_RESET : Fld := ⟨14, 1, fun _ => 0⟩
/-- 02, R96: FN_EVENT.VF_MBX. -/
def Reg.FN_EVENT.VF_MBX : Fld := ⟨15, 1, fun _ => 0⟩
/-- 02, R96: FN_EVENT.DLOG. -/
def Reg.FN_EVENT.DLOG : Fld := ⟨16, 1, fun _ => 0⟩
/-- 02, R96: FN_EVENT.LOCK. -/
def Reg.FN_EVENT.LOCK : Fld := ⟨17, 1, fun _ => 0⟩
/-- 02, R96: FN_EVENT.POWER. -/
def Reg.FN_EVENT.POWER : Fld := ⟨18, 1, fun _ => 0⟩
/-- 02, R96: FN_EVENT.EPOCH. -/
def Reg.FN_EVENT.EPOCH : Fld := ⟨19, 1, fun _ => 0⟩
/-- 02, R96: FN_EVENT.QIDLE. -/
def Reg.FN_EVENT.QIDLE : Fld := ⟨20, 1, fun _ => 0⟩
/-- 02, R96: FN_EVENT.QFAULT. -/
def Reg.FN_EVENT.QFAULT : Fld := ⟨21, 1, fun _ => 0⟩
/-- 02, R96: FN_EVENT.MBX_ACK. -/
def Reg.FN_EVENT.MBX_ACK : Fld := ⟨22, 1, fun _ => 0⟩
/-- 02, R96: FN_EVENT.MBX_IN. -/
def Reg.FN_EVENT.MBX_IN : Fld := ⟨23, 1, fun _ => 0⟩
/-- 02, R96: FN_EVENT_EN.EN. -/
def Reg.FN_EVENT_EN.EN : Fld := ⟨24, 10, fun _ => 0⟩
/-- 02, R96: FN_QFAULT.Q. -/
def Reg.FN_QFAULT.Q : Fld := ⟨25, 64, fun _ => 0⟩
/-- 02, R96: FN_DLOG_HEAD.HEAD. -/
def Reg.FN_DLOG_HEAD.HEAD : Fld := ⟨26, 20, fun _ => 0⟩
/-- 02, R96: FN_DLOG_STATUS.ACTIVE. -/
def Reg.FN_DLOG_STATUS.ACTIVE : Fld := ⟨27, 1, fun _ => 0⟩
/-- 02, R96: FN_DLOG_STATUS.OVERFLOW. -/
def Reg.FN_DLOG_STATUS.OVERFLOW : Fld := ⟨28, 1, fun _ => 0⟩
/-- 02, R96: FN_DLOG_STATUS.TAIL. -/
def Reg.FN_DLOG_STATUS.TAIL : Fld := ⟨29, 20, fun _ => 0⟩
/-- 02, R96: QSQ_BASE.ADDR. -/
def Reg.QSQ_BASE.ADDR : Fld := ⟨30, 58, fun _ => 0⟩
/-- 02, R96: QCQ_BASE.ADDR. -/
def Reg.QCQ_BASE.ADDR : Fld := ⟨31, 60, fun _ => 0⟩
/-- 02, R96: QSHADOW.ADDR. -/
def Reg.QSHADOW.ADDR : Fld := ⟨32, 61, fun _ => 0⟩
/-- 02, R96: QCTRL.EN. -/
def Reg.QCTRL.EN : Fld := ⟨33, 1, fun _ => 0⟩
/-- 02, R96: QCTRL.RPV. -/
def Reg.QCTRL.RPV : Fld := ⟨34, 1, fun _ => 0⟩
/-- 02, R96: QCTRL.FAULT. -/
def Reg.QCTRL.FAULT : Fld := ⟨35, 3, fun _ => 0⟩
/-- 02, R96: QCTRL.ACTIVE. -/
def Reg.QCTRL.ACTIVE : Fld := ⟨36, 1, fun _ => 0⟩
/-- 02, R96: QCTRL.VEC. -/
def Reg.QCTRL.VEC : Fld := ⟨37, 7, fun _ => 0⟩
/-- 02, R96: QCTRL.DEPTH. -/
def Reg.QCTRL.DEPTH : Fld := ⟨38, 16, fun _ => 0⟩
/-- 02, R96: QCOAL.TIME. -/
def Reg.QCOAL.TIME : Fld := ⟨39, 14, fun _ => 0⟩
/-- 02, R96: QCOAL.COUNT. -/
def Reg.QCOAL.COUNT : Fld := ⟨40, 8, fun _ => 0⟩
/-- 02, R96: QSTATUS.CQTAIL. -/
def Reg.QSTATUS.CQTAIL : Fld := ⟨41, 16, fun _ => 0⟩
/-- 02, R96: QSTATUS.SQHEAD. -/
def Reg.QSTATUS.SQHEAD : Fld := ⟨42, 16, fun _ => 0⟩
/-- 02, R96: HIF_PORT_STATUS.LINK_UP. -/
def Reg.HIF_PORT_STATUS.LINK_UP : Fld := ⟨43, 1, fun _ => 0⟩
/-- 02, R96: HIF_PORT_STATUS.FLIT. -/
def Reg.HIF_PORT_STATUS.FLIT : Fld := ⟨44, 1, fun _ => 0⟩
/-- 02, R96: HIF_PORT_STATUS.RATE. -/
def Reg.HIF_PORT_STATUS.RATE : Fld := ⟨45, 3, fun _ => 0⟩
/-- 02, R96: HIF_PORT_STATUS.WIDTH. -/
def Reg.HIF_PORT_STATUS.WIDTH : Fld := ⟨46, 5, fun _ => 0⟩
/-- 02, R96: HIF_PORT_STATUS.NUMVFS. -/
def Reg.HIF_PORT_STATUS.NUMVFS : Fld := ⟨47, 7, fun _ => 0⟩
/-- 02, R96: HIF_PORT_ERR.UNEXP_CPL. -/
def Reg.HIF_PORT_ERR.UNEXP_CPL : Fld := ⟨48, 1, fun _ => 0⟩
/-- 02, R96: HIF_PORT_ERR.POISONED. -/
def Reg.HIF_PORT_ERR.POISONED : Fld := ⟨49, 1, fun _ => 0⟩
/-- 02, R96: HIF_PORT_ERR.UR_CA. -/
def Reg.HIF_PORT_ERR.UR_CA : Fld := ⟨50, 1, fun _ => 0⟩
/-- 02, R96: HIF_PORT_ERR.CPL_TIMEOUT. -/
def Reg.HIF_PORT_ERR.CPL_TIMEOUT : Fld := ⟨51, 1, fun _ => 0⟩
/-- 02, R96: HIF_PORT_ERR.HOT_RESET. -/
def Reg.HIF_PORT_ERR.HOT_RESET : Fld := ⟨52, 1, fun _ => 0⟩
/-- 02, R96: HIF_PORT_ERR.LINK_DOWN. -/
def Reg.HIF_PORT_ERR.LINK_DOWN : Fld := ⟨53, 1, fun _ => 0⟩
/-- 02, R96: HIF_PORT_LHD.OCC. -/
def Reg.HIF_PORT_LHD.OCC : Fld := ⟨54, 11, fun _ => 0⟩
/-- 02, R96: HIF_PORT_LHD_STALL.STALL. -/
def Reg.HIF_PORT_LHD_STALL.STALL : Fld := ⟨55, 32, fun _ => 0⟩
/-- 02, R96: HIF_PORT_RD_BYTES.BYTES. -/
def Reg.HIF_PORT_RD_BYTES.BYTES : Fld := ⟨56, 64, fun _ => 0⟩
/-- 02, R96: HIF_PORT_WR_BYTES.BYTES. -/
def Reg.HIF_PORT_WR_BYTES.BYTES : Fld := ⟨57, 64, fun _ => 0⟩
/-- 02, R96: HIF_FN_CFG.CONFIGURED. -/
def Reg.HIF_FN_CFG.CONFIGURED : Fld := ⟨58, 1, fun f => if f = 0 ∨ f = 128 then 1 else 0⟩
/-- 02, R96: HIF_FN_CFG.QUOTA. -/
def Reg.HIF_FN_CFG.QUOTA : Fld := ⟨59, 7, fun f => if f = 0 ∨ f = 128 then 64 else 0⟩
/-- 02, R96: HIF_FN_CFG.WEIGHT. -/
def Reg.HIF_FN_CFG.WEIGHT : Fld := ⟨60, 8, fun _ => 16⟩
/-- 02, R96: HIF_FN_CFG.TENANT. -/
def Reg.HIF_FN_CFG.TENANT : Fld := ⟨61, 8, fun _ => 0⟩
/-- 02, R96: HIF_FN_CFG.STATE. -/
def Reg.HIF_FN_CFG.STATE : Fld := ⟨62, 3, fun f => if f = 0 ∨ f = 128 then 1 else 0⟩
/-- 02, R96: HIF_FN_PASID.REQUIRE. -/
def Reg.HIF_FN_PASID.REQUIRE : Fld := ⟨63, 1, fun _ => 0⟩
/-- 02, R96: HIF_FN_PASID.WIDTH. -/
def Reg.HIF_FN_PASID.WIDTH : Fld := ⟨64, 5, fun _ => 0⟩
/-- 02, R96: HIF_FN_PASID.BASE. -/
def Reg.HIF_FN_PASID.BASE : Fld := ⟨65, 20, fun _ => 0⟩
/-- 02, R96: HIF_FN_HQD.POOL. -/
def Reg.HIF_FN_HQD.POOL : Fld := ⟨66, 9, fun _ => 32⟩
/-- 02, R96: HIF_FN_HQD.OCC. -/
def Reg.HIF_FN_HQD.OCC : Fld := ⟨67, 9, fun _ => 0⟩
/-- 02, R96: HIF_FN_HQD_STALL.STALL. -/
def Reg.HIF_FN_HQD_STALL.STALL : Fld := ⟨68, 32, fun _ => 0⟩
/-- 02, R96: DEV_ID.DEVICE. -/
def Reg.DEV_ID.DEVICE : Fld := ⟨69, 16, fun _ => 50180⟩
/-- 02, R96: DEV_ID.REV. -/
def Reg.DEV_ID.REV : Fld := ⟨70, 8, fun _ => 17⟩
/-- 02, R96: DEV_ID.VARIANT. -/
def Reg.DEV_ID.VARIANT : Fld := ⟨71, 8, fun _ => if Config.part128 then 2 else 1⟩
/-- 02, R96: DEV_STATUS.EPOCH_MIXED. -/
def Reg.DEV_STATUS.EPOCH_MIXED : Fld := ⟨72, 1, fun _ => 0⟩
/-- 02, R96: DEV_STATUS.UNIT_STALLED. -/
def Reg.DEV_STATUS.UNIT_STALLED : Fld := ⟨73, 1, fun _ => 0⟩
/-- 02, R96: DEV_STATUS.ARCHIVE_RO. -/
def Reg.DEV_STATUS.ARCHIVE_RO : Fld := ⟨74, 1, fun _ => 0⟩
/-- 02, R96: DEV_STATUS.TIME_DEGRADED. -/
def Reg.DEV_STATUS.TIME_DEGRADED : Fld := ⟨75, 1, fun _ => 0⟩
/-- 02, R96: DEV_STATUS.LIFECYCLE. -/
def Reg.DEV_STATUS.LIFECYCLE : Fld := ⟨76, 3, fun _ => 0⟩
/-- 02, R96: DEV_STATUS.POWER. -/
def Reg.DEV_STATUS.POWER : Fld := ⟨77, 2, fun _ => 0⟩
/-- 02, R96: DEV_STATUS.ADMIN_READY. -/
def Reg.DEV_STATUS.ADMIN_READY : Fld := ⟨78, 1, fun _ => 0⟩
/-- 02, R96: DEV_SETTINGS_EPOCH.EPOCH. -/
def Reg.DEV_SETTINGS_EPOCH.EPOCH : Fld := ⟨79, 32, fun _ => 1⟩
/-- 02, R96: DEV_ARCHIVE_EPOCH.EPOCH. -/
def Reg.DEV_ARCHIVE_EPOCH.EPOCH : Fld := ⟨80, 32, fun _ => 0⟩
/-- 02, R96: DEV_CFG_DIGEST.DIGEST. -/
def Reg.DEV_CFG_DIGEST.DIGEST : Fld := ⟨81, 32, fun _ => 0⟩
/-- 02, R96: DEV_RESET.KEY. -/
def Reg.DEV_RESET.KEY : Fld := ⟨82, 16, fun _ => 0⟩
/-- 02, R96: DEV_RESET.WARM. -/
def Reg.DEV_RESET.WARM : Fld := ⟨83, 1, fun _ => 0⟩
/-- 04, R182: SLA_LANE_STATUS.SPARE. -/
def Reg.SLA_LANE_STATUS.SPARE : Fld := ⟨84, 1, fun n => if n < 256 then 0 else 1⟩
/-- 04, R182: SLA_LANE_STATUS.MAPPED. -/
def Reg.SLA_LANE_STATUS.MAPPED : Fld := ⟨85, 1, fun n => if n < 256 then 1 else 0⟩
/-- 04, R182: SLA_LANE_STATUS.GROUP. -/
def Reg.SLA_LANE_STATUS.GROUP : Fld := ⟨86, 4, fun n => if n < 256 then n / 16 else 0⟩
/-- 04, R182: SLA_LANE_STATUS.SLOT. -/
def Reg.SLA_LANE_STATUS.SLOT : Fld := ⟨87, 4, fun n => if n < 256 then n % 16 else 0⟩
/-- 04, R182: SLA_LANE_STATUS.RCAUSE. -/
def Reg.SLA_LANE_STATUS.RCAUSE : Fld := ⟨88, 3, fun _ => 0⟩
/-- 04, R182: SLA_LANE_STATUS.STATE. -/
def Reg.SLA_LANE_STATUS.STATE : Fld := ⟨89, 3, fun _ => 0⟩
/-- 04, R182: SLA_LANE_EPOCH.EPOCH. -/
def Reg.SLA_LANE_EPOCH.EPOCH : Fld := ⟨90, 32, fun _ => 1⟩
/-- 04, R182: SLA_LANE_CTRL.MODE. -/
def Reg.SLA_LANE_CTRL.MODE : Fld := ⟨91, 1, fun _ => 0⟩
/-- 04, R182: SLA_LANE_CTRL.TEST. -/
def Reg.SLA_LANE_CTRL.TEST : Fld := ⟨92, 1, fun _ => 0⟩
/-- 04, R182: SLA_LANE_CTRL.RESET. -/
def Reg.SLA_LANE_CTRL.RESET : Fld := ⟨93, 1, fun _ => 0⟩
/-- 04, R182: SLA_LANE_RECORDS.COUNT. -/
def Reg.SLA_LANE_RECORDS.COUNT : Fld := ⟨94, 64, fun _ => 0⟩
/-- 04, R182: SLA_LANE_BYTES.BYTES. -/
def Reg.SLA_LANE_BYTES.BYTES : Fld := ⟨95, 64, fun _ => 0⟩
/-- 04, R182: SLA_LANE_ERRS.CORRECTED. -/
def Reg.SLA_LANE_ERRS.CORRECTED : Fld := ⟨96, 16, fun _ => 0⟩
/-- 04, R182: SLA_LANE_ERRS.TAGFAIL. -/
def Reg.SLA_LANE_ERRS.TAGFAIL : Fld := ⟨97, 16, fun _ => 0⟩
/-- 04, R182: SLA_GRP_STATUS.POWERED. -/
def Reg.SLA_GRP_STATUS.POWERED : Fld := ⟨98, 1, fun _ => 0⟩
/-- 04, R182: SLA_GRP_STATUS.TRANSITION. -/
def Reg.SLA_GRP_STATUS.TRANSITION : Fld := ⟨99, 1, fun _ => 0⟩
/-- 04, R182: SLA_GRP_STATUS.FUSED. -/
def Reg.SLA_GRP_STATUS.FUSED : Fld := ⟨100, 1, fun g => if 8 ≤ g ∧ Config.part128 then 1 else 0⟩
/-- 04, R182: SLA_GRP_STATUS.INSERVICE. -/
def Reg.SLA_GRP_STATUS.INSERVICE : Fld := ⟨101, 5, fun _ => 0⟩
/-- 04, R182: SLA_GRP_STATUS.EMPTY. -/
def Reg.SLA_GRP_STATUS.EMPTY : Fld := ⟨102, 16, fun _ => 0⟩
/-- 04, R182: SLA_GRP_CTRL.MODE. -/
def Reg.SLA_GRP_CTRL.MODE : Fld := ⟨103, 1, fun _ => 0⟩
/-- 04, R182: SLA_GRP_CTRL.RESET. -/
def Reg.SLA_GRP_CTRL.RESET : Fld := ⟨104, 1, fun _ => 0⟩
/-- 04, R182: SLA_GRP_MAP.VALID. -/
def Reg.SLA_GRP_MAP.VALID : Fld := ⟨105, 1, fun _ => 1⟩
/-- 04, R182: SLA_GRP_MAP.LANE. -/
def Reg.SLA_GRP_MAP.LANE : Fld := ⟨106, 9, fun i => i⟩
/-- 04, R182: SLA_CTRL.MODE. -/
def Reg.SLA_CTRL.MODE : Fld := ⟨107, 1, fun _ => 0⟩
/-- 04, R182: SLA_CTRL.RESET_ALL. -/
def Reg.SLA_CTRL.RESET_ALL : Fld := ⟨108, 1, fun _ => 0⟩
/-- 04, R182: SLA_SPARE_STATUS.RETIRED. -/
def Reg.SLA_SPARE_STATUS.RETIRED : Fld := ⟨109, 8, fun _ => 0⟩
/-- 04, R182: SLA_SPARE_STATUS.USED. -/
def Reg.SLA_SPARE_STATUS.USED : Fld := ⟨110, 8, fun _ => 0⟩
/-- 04, R182: SLA_SPARE_STATUS.FREE. -/
def Reg.SLA_SPARE_STATUS.FREE : Fld := ⟨111, 8, fun _ => 255⟩
/-- 04, R182: SLA_EVENT.STAGING_UE. -/
def Reg.SLA_EVENT.STAGING_UE : Fld := ⟨112, 1, fun _ => 0⟩
/-- 04, R182: SLA_EVENT.PARITY. -/
def Reg.SLA_EVENT.PARITY : Fld := ⟨113, 1, fun _ => 0⟩
/-- 04, R182: SLA_EVENT.TAG_FAIL. -/
def Reg.SLA_EVENT.TAG_FAIL : Fld := ⟨114, 1, fun _ => 0⟩
/-- 04, R182: SLA_EVENT.GROUP_SHORT. -/
def Reg.SLA_EVENT.GROUP_SHORT : Fld := ⟨115, 1, fun _ => 0⟩
/-- 04, R182: SLA_EVENT.SPARES_EXHAUSTED. -/
def Reg.SLA_EVENT.SPARES_EXHAUSTED : Fld := ⟨116, 1, fun _ => 0⟩
/-- 04, R182: SLA_EVENT.SPARE_USED. -/
def Reg.SLA_EVENT.SPARE_USED : Fld := ⟨117, 1, fun _ => 0⟩
/-- 04, R182: SLA_EVENT.LANE_RETIRED. -/
def Reg.SLA_EVENT.LANE_RETIRED : Fld := ⟨118, 1, fun _ => 0⟩
/-- 04, R182: SLA_EVENT_EN.EN. -/
def Reg.SLA_EVENT_EN.EN : Fld := ⟨119, 7, fun _ => 0⟩
/-- 04, R182: SLA_LSC.POOL. -/
def Reg.SLA_LSC.POOL : Fld := ⟨120, 13, fun _ => 2048⟩
/-- 04, R182: SLA_LSC.OCC. -/
def Reg.SLA_LSC.OCC : Fld := ⟨121, 13, fun _ => 0⟩
/-- 04, R182: SLA_LSC_STALL.STALL. -/
def Reg.SLA_LSC_STALL.STALL : Fld := ⟨122, 32, fun _ => 0⟩
/-- 04, R182: SLA_KAT_PASS.COUNT. -/
def Reg.SLA_KAT_PASS.COUNT : Fld := ⟨123, 32, fun _ => 0⟩
/-- 04, R182: SLA_RETIRED.LANE. -/
def Reg.SLA_RETIRED.LANE : Fld := ⟨124, 32, fun _ => 0⟩
/-- 05, R223: STR_STATUS.RK_VALID. -/
def Reg.STR_STATUS.RK_VALID : Fld := ⟨125, 1, fun _ => 0⟩
/-- 05, R223: STR_STATUS.KEK_VALID. -/
def Reg.STR_STATUS.KEK_VALID : Fld := ⟨126, 1, fun _ => 0⟩
/-- 05, R223: STR_STATUS.KEK_LOST. -/
def Reg.STR_STATUS.KEK_LOST : Fld := ⟨127, 1, fun _ => 0⟩
/-- 05, R223: STR_STATUS.CACHE_ERASED. -/
def Reg.STR_STATUS.CACHE_ERASED : Fld := ⟨128, 1, fun _ => 0⟩
/-- 05, R223: STR_STATUS.TENANTS. -/
def Reg.STR_STATUS.TENANTS : Fld := ⟨129, 9, fun _ => 0⟩
/-- 05, R223: STR_STATUS.POLICY. -/
def Reg.STR_STATUS.POLICY : Fld := ⟨130, 12, fun _ => 0⟩
/-- 05, R223: STR_UCACHE.OCC. -/
def Reg.STR_UCACHE.OCC : Fld := ⟨131, 10, fun _ => 0⟩
/-- 05, R223: STR_UCACHE_EVICT.COUNT. -/
def Reg.STR_UCACHE_EVICT.COUNT : Fld := ⟨132, 32, fun _ => 0⟩
/-- 05, R223: STR_DKC.OCC. -/
def Reg.STR_DKC.OCC : Fld := ⟨133, 15, fun _ => 0⟩
/-- 05, R223: STR_DKC_HIT.COUNT. -/
def Reg.STR_DKC_HIT.COUNT : Fld := ⟨134, 64, fun _ => 0⟩
/-- 05, R223: STR_DKC_MISS.COUNT. -/
def Reg.STR_DKC_MISS.COUNT : Fld := ⟨135, 64, fun _ => 0⟩
/-- 05, R223: STR_DERIVE_STALL.NS. -/
def Reg.STR_DERIVE_STALL.NS : Fld := ⟨136, 32, fun _ => 0⟩
/-- 05, R223: STR_EVENT.TENANT_CHANGE. -/
def Reg.STR_EVENT.TENANT_CHANGE : Fld := ⟨137, 1, fun _ => 0⟩
/-- 05, R223: STR_EVENT.SLOT_UPDATE_FAIL. -/
def Reg.STR_EVENT.SLOT_UPDATE_FAIL : Fld := ⟨138, 1, fun _ => 0⟩
/-- 05, R223: STR_EVENT.CACHE_ERASED. -/
def Reg.STR_EVENT.CACHE_ERASED : Fld := ⟨139, 1, fun _ => 0⟩
/-- 05, R223: STR_EVENT.UNWRAP_FAIL. -/
def Reg.STR_EVENT.UNWRAP_FAIL : Fld := ⟨140, 1, fun _ => 0⟩
/-- 05, R223: STR_EVENT.KEK_LOST. -/
def Reg.STR_EVENT.KEK_LOST : Fld := ⟨141, 1, fun _ => 0⟩
/-- 05, R223: STR_EVENT_EN.EN. -/
def Reg.STR_EVENT_EN.EN : Fld := ⟨142, 5, fun _ => 0⟩
/-- 05, R223: STR_CTRL.DKC_FLUSH. -/
def Reg.STR_CTRL.DKC_FLUSH : Fld := ⟨143, 1, fun _ => 0⟩
/-- 05, R223: STR_CTRL.ERASE_CACHE. -/
def Reg.STR_CTRL.ERASE_CACHE : Fld := ⟨144, 1, fun _ => 0⟩
/-- 05, R223: STR_TENANT.STATE. -/
def Reg.STR_TENANT.STATE : Fld := ⟨145, 2, fun _ => 0⟩
/-- 05, R223: STR_TENANT.CACHED. -/
def Reg.STR_TENANT.CACHED : Fld := ⟨146, 1, fun _ => 0⟩
/-- 05, R224: EXT_STATUS.TABLE_VALID. -/
def Reg.EXT_STATUS.TABLE_VALID : Fld := ⟨147, 1, fun _ => 0⟩
/-- 05, R224: EXT_STATUS.READ_ONLY. -/
def Reg.EXT_STATUS.READ_ONLY : Fld := ⟨148, 1, fun _ => 0⟩
/-- 05, R224: EXT_STATUS.PERSIST_BUSY. -/
def Reg.EXT_STATUS.PERSIST_BUSY : Fld := ⟨149, 1, fun _ => 0⟩
/-- 05, R224: EXT_STATUS.UNANCHORED. -/
def Reg.EXT_STATUS.UNANCHORED : Fld := ⟨150, 1, fun _ => 0⟩
/-- 05, R224: EXT_STATUS.RECOVERY. -/
def Reg.EXT_STATUS.RECOVERY : Fld := ⟨151, 2, fun _ => 0⟩
/-- 05, R224: EXT_STATUS.GEN. -/
def Reg.EXT_STATUS.GEN : Fld := ⟨152, 1, fun _ => 0⟩
/-- 05, R224: EXT_FREE.COUNT. -/
def Reg.EXT_FREE.COUNT : Fld := ⟨153, 23, fun _ => 0⟩
/-- 05, R224: EXT_RETIRED.COUNT. -/
def Reg.EXT_RETIRED.COUNT : Fld := ⟨154, 23, fun _ => 0⟩
/-- 05, R224: EXT_RESERVE.COUNT. -/
def Reg.EXT_RESERVE.COUNT : Fld := ⟨155, 5, fun _ => 0⟩
/-- 05, R224: EXT_ROOT_SEQ.SEQ. -/
def Reg.EXT_ROOT_SEQ.SEQ : Fld := ⟨156, 32, fun _ => 0⟩
/-- 05, R224: EXT_ROOTLOG.SECTOR. -/
def Reg.EXT_ROOTLOG.SECTOR : Fld := ⟨157, 2, fun _ => 0⟩
/-- 05, R224: EXT_ROOTLOG.USED. -/
def Reg.EXT_ROOTLOG.USED : Fld := ⟨158, 9, fun _ => 0⟩
/-- 05, R224: EXT_JSEQ.JSEQ. -/
def Reg.EXT_JSEQ.JSEQ : Fld := ⟨159, 64, fun _ => 0⟩
/-- 05, R224: EXT_PERSIST_TIME.US. -/
def Reg.EXT_PERSIST_TIME.US : Fld := ⟨160, 32, fun _ => 0⟩
/-- 05, R224: EXT_ROOT.ROOT. -/
def Reg.EXT_ROOT.ROOT : Fld := ⟨161, 32, fun _ => 0⟩
/-- 05, R224: EXT_CTRL.JCOMMIT. -/
def Reg.EXT_CTRL.JCOMMIT : Fld := ⟨162, 1, fun _ => 0⟩
/-- 05, R224: EXT_CTRL.PERSIST. -/
def Reg.EXT_CTRL.PERSIST : Fld := ⟨163, 1, fun _ => 0⟩
/-- 05, R224: EXT_EVENT.PERSIST_DONE. -/
def Reg.EXT_EVENT.PERSIST_DONE : Fld := ⟨164, 1, fun _ => 0⟩
/-- 05, R224: EXT_EVENT.LEAF_REPAIRED. -/
def Reg.EXT_EVENT.LEAF_REPAIRED : Fld := ⟨165, 1, fun _ => 0⟩
/-- 05, R224: EXT_EVENT.EXTENT_RETIRED. -/
def Reg.EXT_EVENT.EXTENT_RETIRED : Fld := ⟨166, 1, fun _ => 0⟩
/-- 05, R224: EXT_EVENT.RESERVE_USED. -/
def Reg.EXT_EVENT.RESERVE_USED : Fld := ⟨167, 1, fun _ => 0⟩
/-- 05, R224: EXT_EVENT.QUOTA_HIT. -/
def Reg.EXT_EVENT.QUOTA_HIT : Fld := ⟨168, 1, fun _ => 0⟩
/-- 05, R224: EXT_EVENT.COPY_REPAIRED. -/
def Reg.EXT_EVENT.COPY_REPAIRED : Fld := ⟨169, 1, fun _ => 0⟩
/-- 05, R224: EXT_EVENT.JOURNAL_FAIL. -/
def Reg.EXT_EVENT.JOURNAL_FAIL : Fld := ⟨170, 1, fun _ => 0⟩
/-- 05, R224: EXT_EVENT.ROLLBACK. -/
def Reg.EXT_EVENT.ROLLBACK : Fld := ⟨171, 1, fun _ => 0⟩
/-- 05, R224: EXT_EVENT_EN.EN. -/
def Reg.EXT_EVENT_EN.EN : Fld := ⟨172, 8, fun _ => 0⟩
/-- 05, R224: EXT_TENANT_USED.OVER. -/
def Reg.EXT_TENANT_USED.OVER : Fld := ⟨173, 1, fun _ => 0⟩
/-- 05, R224: EXT_TENANT_USED.USED. -/
def Reg.EXT_TENANT_USED.USED : Fld := ⟨174, 23, fun _ => 0⟩
/-- 05, R224: EXT_TENANT_QUOTA.QUOTA. -/
def Reg.EXT_TENANT_QUOTA.QUOTA : Fld := ⟨175, 23, fun _ => 0⟩
/-- 05, R224: EXT_TENANT_OPEN.OPEN. -/
def Reg.EXT_TENANT_OPEN.OPEN : Fld := ⟨176, 6, fun _ => 0⟩
/-- 05, R224: EXT_TENANT_OPEN.OPENW. -/
def Reg.EXT_TENANT_OPEN.OPENW : Fld := ⟨177, 6, fun _ => 0⟩
/-- 05, R224: EXT_TENANT_RANKS.MASK. -/
def Reg.EXT_TENANT_RANKS.MASK : Fld := ⟨178, 32, fun _ => 0⟩
/-- 06, R261: SCV_STATUS.INSERVICE. -/
def Reg.SCV_STATUS.INSERVICE : Fld := ⟨179, 16, fun _ => 65535⟩
/-- 06, R261: SCV_STATUS.UNSIGNED. -/
def Reg.SCV_STATUS.UNSIGNED : Fld := ⟨180, 1, fun _ => 0⟩
/-- 06, R261: SCV_STATUS.TQ. -/
def Reg.SCV_STATUS.TQ : Fld := ⟨181, 4, fun _ => 0⟩
/-- 06, R261: SCV_SCO.POOL. -/
def Reg.SCV_SCO.POOL : Fld := ⟨182, 13, fun _ => 2048⟩
/-- 06, R261: SCV_SCO.OCC. -/
def Reg.SCV_SCO.OCC : Fld := ⟨183, 13, fun _ => 0⟩
/-- 06, R261: SCV_SCO_STALL.STALL. -/
def Reg.SCV_SCO_STALL.STALL : Fld := ⟨184, 32, fun _ => 0⟩
/-- 06, R261: SCV_BATCH_OPEN.OPEN. -/
def Reg.SCV_BATCH_OPEN.OPEN : Fld := ⟨185, 1, fun _ => 0⟩
/-- 06, R261: SCV_BATCH_OPEN.ENTRIES. -/
def Reg.SCV_BATCH_OPEN.ENTRIES : Fld := ⟨186, 13, fun _ => 0⟩
/-- 06, R261: SCV_BATCH_SEQ.BATCH. -/
def Reg.SCV_BATCH_SEQ.BATCH : Fld := ⟨187, 64, fun _ => 0⟩
/-- 06, R261: SCV_BATCH_LAT.US. -/
def Reg.SCV_BATCH_LAT.US : Fld := ⟨188, 32, fun _ => 0⟩
/-- 06, R261: SCV_CKPT_COUNT.COUNT. -/
def Reg.SCV_CKPT_COUNT.COUNT : Fld := ⟨189, 64, fun _ => 0⟩
/-- 06, R261: SCV_CHAIN_COUNT.COUNT. -/
def Reg.SCV_CHAIN_COUNT.COUNT : Fld := ⟨190, 64, fun _ => 0⟩
/-- 06, R261: SCV_VOID_COUNT.COUNT. -/
def Reg.SCV_VOID_COUNT.COUNT : Fld := ⟨191, 64, fun _ => 0⟩
/-- 06, R261: SCV_ORPHANS.COUNT. -/
def Reg.SCV_ORPHANS.COUNT : Fld := ⟨192, 18, fun _ => 0⟩
/-- 06, R261: SCV_ANCHOR_ID.ID. -/
def Reg.SCV_ANCHOR_ID.ID : Fld := ⟨193, 32, fun _ => 0⟩
/-- 06, R261: SCV_ANCHOR_TICKS.TICKS. -/
def Reg.SCV_ANCHOR_TICKS.TICKS : Fld := ⟨194, 48, fun _ => 0⟩
/-- 06, R261: SCV_ANCHOR_UTC.MS. -/
def Reg.SCV_ANCHOR_UTC.MS : Fld := ⟨195, 64, fun _ => 0⟩
/-- 06, R261: SCV_DRIFT.DRIFT. -/
def Reg.SCV_DRIFT.DRIFT : Fld := ⟨196, 32, fun _ => 0⟩
/-- 06, R261: SCV_EVENT.CORE_OUT. -/
def Reg.SCV_EVENT.CORE_OUT : Fld := ⟨197, 1, fun _ => 0⟩
/-- 06, R261: SCV_EVENT.ORPHAN_LOST. -/
def Reg.SCV_EVENT.ORPHAN_LOST : Fld := ⟨198, 1, fun _ => 0⟩
/-- 06, R261: SCV_EVENT.TQ_CHANGE. -/
def Reg.SCV_EVENT.TQ_CHANGE : Fld := ⟨199, 1, fun _ => 0⟩
/-- 06, R261: SCV_EVENT.ANCHOR. -/
def Reg.SCV_EVENT.ANCHOR : Fld := ⟨200, 1, fun _ => 0⟩
/-- 06, R261: SCV_EVENT.RECOVERED. -/
def Reg.SCV_EVENT.RECOVERED : Fld := ⟨201, 1, fun _ => 0⟩
/-- 06, R261: SCV_EVENT.BATCH. -/
def Reg.SCV_EVENT.BATCH : Fld := ⟨202, 1, fun _ => 0⟩
/-- 06, R261: SCV_EVENT_EN.EN. -/
def Reg.SCV_EVENT_EN.EN : Fld := ⟨203, 6, fun _ => 0⟩
/-- 06, R261: SCV_CORE_EPOCH.EPOCH. -/
def Reg.SCV_CORE_EPOCH.EPOCH : Fld := ⟨204, 32, fun _ => 1⟩
/-- 06, R261: SCV_BATCH_ROOT.ROOT. -/
def Reg.SCV_BATCH_ROOT.ROOT : Fld := ⟨205, 32, fun _ => 0⟩
/-- 06, R262: PKE_STATUS.INSERVICE. -/
def Reg.PKE_STATUS.INSERVICE : Fld := ⟨206, 4, fun _ => 15⟩
/-- 06, R262: PKE_STATUS.BUSY. -/
def Reg.PKE_STATUS.BUSY : Fld := ⟨207, 4, fun _ => 0⟩
/-- 06, R262: PKE_STATUS.OUT. -/
def Reg.PKE_STATUS.OUT : Fld := ⟨208, 4, fun _ => 0⟩
/-- 06, R262: PKE_STATUS.MCVER. -/
def Reg.PKE_STATUS.MCVER : Fld := ⟨209, 16, fun _ => 0⟩
/-- 06, R262: PKE_QUEUE.BATCH. -/
def Reg.PKE_QUEUE.BATCH : Fld := ⟨210, 6, fun _ => 0⟩
/-- 06, R262: PKE_QUEUE.KEEPER. -/
def Reg.PKE_QUEUE.KEEPER : Fld := ⟨211, 6, fun _ => 0⟩
/-- 06, R262: PKE_QUEUE.KCALL. -/
def Reg.PKE_QUEUE.KCALL : Fld := ⟨212, 6, fun _ => 0⟩
/-- 06, R262: PKE_MLDSA_LONG.COUNT. -/
def Reg.PKE_MLDSA_LONG.COUNT : Fld := ⟨213, 32, fun _ => 0⟩
/-- 06, R262: PKE_INV_FAIL.COUNT. -/
def Reg.PKE_INV_FAIL.COUNT : Fld := ⟨214, 32, fun _ => 0⟩
/-- 06, R262: PKE_MC_STATUS.ROM. -/
def Reg.PKE_MC_STATUS.ROM : Fld := ⟨215, 1, fun _ => 0⟩
/-- 06, R262: PKE_MC_STATUS.REJECTED. -/
def Reg.PKE_MC_STATUS.REJECTED : Fld := ⟨216, 1, fun _ => 0⟩
/-- 06, R262: PKE_MC_STATUS.MINVER. -/
def Reg.PKE_MC_STATUS.MINVER : Fld := ⟨217, 16, fun _ => 0⟩
/-- 06, R262: PKE_EVENT.MC_REJECT. -/
def Reg.PKE_EVENT.MC_REJECT : Fld := ⟨218, 1, fun _ => 0⟩
/-- 06, R262: PKE_EVENT.LONG. -/
def Reg.PKE_EVENT.LONG : Fld := ⟨219, 1, fun _ => 0⟩
/-- 06, R262: PKE_EVENT.UNIT_OUT. -/
def Reg.PKE_EVENT.UNIT_OUT : Fld := ⟨220, 1, fun _ => 0⟩
/-- 06, R262: PKE_EVENT.INVARIANT. -/
def Reg.PKE_EVENT.INVARIANT : Fld := ⟨221, 1, fun _ => 0⟩
/-- 06, R262: PKE_EVENT_EN.EN. -/
def Reg.PKE_EVENT_EN.EN : Fld := ⟨222, 4, fun _ => 0⟩
/-- 06, R262: PKE_UNIT_JOBS.COUNT. -/
def Reg.PKE_UNIT_JOBS.COUNT : Fld := ⟨223, 64, fun _ => 0⟩
/-- 06, R262: PKE_UNIT_OP.CLASS. -/
def Reg.PKE_UNIT_OP.CLASS : Fld := ⟨224, 2, fun _ => 0⟩
/-- 06, R262: PKE_UNIT_OP.OP. -/
def Reg.PKE_UNIT_OP.OP : Fld := ⟨225, 8, fun _ => 0⟩
/-- 06, R262: PKE_UNIT_OP.NTTOP. -/
def Reg.PKE_UNIT_OP.NTTOP : Fld := ⟨226, 8, fun _ => 0⟩
/-- 06, R262: PKE_MLDSA_ATT.MAX. -/
def Reg.PKE_MLDSA_ATT.MAX : Fld := ⟨227, 16, fun _ => 0⟩
/-- 06, R262: PKE_MLDSA_ATT.LAST. -/
def Reg.PKE_MLDSA_ATT.LAST : Fld := ⟨228, 16, fun _ => 0⟩
/-- 07, R306: MPX_PORT_STATUS.LINK_UP. -/
def Reg.MPX_PORT_STATUS.LINK_UP : Fld := ⟨229, 1, fun _ => 0⟩
/-- 07, R306: MPX_PORT_STATUS.PRESENT. -/
def Reg.MPX_PORT_STATUS.PRESENT : Fld := ⟨230, 1, fun _ => 0⟩
/-- 07, R306: MPX_PORT_STATUS.RATE. -/
def Reg.MPX_PORT_STATUS.RATE : Fld := ⟨231, 3, fun _ => 0⟩
/-- 07, R306: MPX_PORT_STATUS.FOREIGN. -/
def Reg.MPX_PORT_STATUS.FOREIGN : Fld := ⟨232, 1, fun _ => 0⟩
/-- 07, R306: MPX_PORT_STATUS.RECOVER. -/
def Reg.MPX_PORT_STATUS.RECOVER : Fld := ⟨233, 1, fun _ => 0⟩
/-- 07, R306: MPX_PORT_STATUS.SLOT. -/
def Reg.MPX_PORT_STATUS.SLOT : Fld := ⟨234, 5, fun _ => 0⟩
/-- 07, R306: MPX_PORT_STATUS.RANK. -/
def Reg.MPX_PORT_STATUS.RANK : Fld := ⟨235, 5, fun _ => 0⟩
/-- 07, R306: MPX_PORT_STATUS.STATE. -/
def Reg.MPX_PORT_STATUS.STATE : Fld := ⟨236, 4, fun _ => 0⟩
/-- 07, R306: MPX_PORT_CTRL.LOCATE. -/
def Reg.MPX_PORT_CTRL.LOCATE : Fld := ⟨237, 1, fun _ => 0⟩
/-- 07, R306: MPX_PORT_CTRL.RESET. -/
def Reg.MPX_PORT_CTRL.RESET : Fld := ⟨238, 1, fun _ => 0⟩
/-- 07, R306: MPX_PORT_NGUID.NGUID. -/
def Reg.MPX_PORT_NGUID.NGUID : Fld := ⟨239, 32, fun _ => 0⟩
/-- 07, R306: MPX_PORT_GEOM.ZCAPMIB. -/
def Reg.MPX_PORT_GEOM.ZCAPMIB : Fld := ⟨240, 13, fun _ => 0⟩
/-- 07, R306: MPX_PORT_GEOM.MAR. -/
def Reg.MPX_PORT_GEOM.MAR : Fld := ⟨241, 8, fun _ => 0⟩
/-- 07, R306: MPX_PORT_GEOM.ZASL. -/
def Reg.MPX_PORT_GEOM.ZASL : Fld := ⟨242, 8, fun _ => 0⟩
/-- 07, R306: MPX_PORT_ZONES.COUNT. -/
def Reg.MPX_PORT_ZONES.COUNT : Fld := ⟨243, 32, fun _ => 0⟩
/-- 07, R306: MPX_PORT_EPOCH.EPOCH. -/
def Reg.MPX_PORT_EPOCH.EPOCH : Fld := ⟨244, 32, fun _ => 1⟩
/-- 07, R306: MPX_PORT_ERRS.TIMEOUTS. -/
def Reg.MPX_PORT_ERRS.TIMEOUTS : Fld := ⟨245, 16, fun _ => 0⟩
/-- 07, R306: MPX_PORT_ERRS.IOERRS. -/
def Reg.MPX_PORT_ERRS.IOERRS : Fld := ⟨246, 16, fun _ => 0⟩
/-- 07, R306: MPX_PORT_DISPLACED.COUNT. -/
def Reg.MPX_PORT_DISPLACED.COUNT : Fld := ⟨247, 32, fun _ => 0⟩
/-- 07, R306: MPX_PORT_LGEN.MEMBGEN. -/
def Reg.MPX_PORT_LGEN.MEMBGEN : Fld := ⟨248, 32, fun _ => 0⟩
/-- 07, R306: MPX_PORT_CMDS.COUNT. -/
def Reg.MPX_PORT_CMDS.COUNT : Fld := ⟨249, 64, fun _ => 0⟩
/-- 07, R306: MPX_PORT_LAT.US. -/
def Reg.MPX_PORT_LAT.US : Fld := ⟨250, 32, fun _ => 0⟩
/-- 07, R306: MPX_EVENT.OVERRUN. -/
def Reg.MPX_EVENT.OVERRUN : Fld := ⟨251, 1, fun _ => 0⟩
/-- 07, R306: MPX_EVENT.HEALTH. -/
def Reg.MPX_EVENT.HEALTH : Fld := ⟨252, 1, fun _ => 0⟩
/-- 07, R306: MPX_EVENT.APPEND_ERR. -/
def Reg.MPX_EVENT.APPEND_ERR : Fld := ⟨253, 1, fun _ => 0⟩
/-- 07, R306: MPX_EVENT.REJECTED. -/
def Reg.MPX_EVENT.REJECTED : Fld := ⟨254, 1, fun _ => 0⟩
/-- 07, R306: MPX_EVENT.QUARANTINE. -/
def Reg.MPX_EVENT.QUARANTINE : Fld := ⟨255, 1, fun _ => 0⟩
/-- 07, R306: MPX_EVENT.PORT_UP. -/
def Reg.MPX_EVENT.PORT_UP : Fld := ⟨256, 1, fun _ => 0⟩
/-- 07, R306: MPX_EVENT.PORT_DOWN. -/
def Reg.MPX_EVENT.PORT_DOWN : Fld := ⟨257, 1, fun _ => 0⟩
/-- 07, R306: MPX_EVENT_EN.EN. -/
def Reg.MPX_EVENT_EN.EN : Fld := ⟨258, 7, fun _ => 0⟩
/-- 07, R306: MPX_PRESENT.PRESENT. -/
def Reg.MPX_PRESENT.PRESENT : Fld := ⟨259, 32, fun _ => 0⟩
/-- 07, R307: CPR_EPOCH.EPOCH. -/
def Reg.CPR_EPOCH.EPOCH : Fld := ⟨260, 32, fun _ => 1⟩
/-- 07, R307: CPR_BUILDERS.POOL. -/
def Reg.CPR_BUILDERS.POOL : Fld := ⟨261, 7, fun _ => 32⟩
/-- 07, R307: CPR_BUILDERS.OCC. -/
def Reg.CPR_BUILDERS.OCC : Fld := ⟨262, 7, fun _ => 0⟩
/-- 07, R307: CPR_BUILDERS_STALL.STALL. -/
def Reg.CPR_BUILDERS_STALL.STALL : Fld := ⟨263, 32, fun _ => 0⟩
/-- 07, R307: CPR_MCR.ASSAY. -/
def Reg.CPR_MCR.ASSAY : Fld := ⟨264, 11, fun _ => 0⟩
/-- 07, R307: CPR_MCR.READ. -/
def Reg.CPR_MCR.READ : Fld := ⟨265, 11, fun _ => 0⟩
/-- 07, R307: CPR_MCR_STALL.STALL. -/
def Reg.CPR_MCR_STALL.STALL : Fld := ⟨266, 32, fun _ => 0⟩
/-- 07, R307: CPR_RECON.KIB. -/
def Reg.CPR_RECON.KIB : Fld := ⟨267, 14, fun _ => 0⟩
/-- 07, R307: CPR_RECON_STALL.STALL. -/
def Reg.CPR_RECON_STALL.STALL : Fld := ⟨268, 32, fun _ => 0⟩
/-- 07, R307: CPR_ENC_BYTES.BYTES. -/
def Reg.CPR_ENC_BYTES.BYTES : Fld := ⟨269, 64, fun _ => 0⟩
/-- 07, R307: CPR_REC_BYTES.BYTES. -/
def Reg.CPR_REC_BYTES.BYTES : Fld := ⟨270, 64, fun _ => 0⟩
/-- 07, R307: CPR_EVENT.JOURNAL_FULL. -/
def Reg.CPR_EVENT.JOURNAL_FULL : Fld := ⟨271, 1, fun _ => 0⟩
/-- 07, R307: CPR_EVENT.CROSSCHECK. -/
def Reg.CPR_EVENT.CROSSCHECK : Fld := ⟨272, 1, fun _ => 0⟩
/-- 07, R307: CPR_EVENT.RECON. -/
def Reg.CPR_EVENT.RECON : Fld := ⟨273, 1, fun _ => 0⟩
/-- 07, R307: CPR_EVENT.STRIPE_LOST. -/
def Reg.CPR_EVENT.STRIPE_LOST : Fld := ⟨274, 1, fun _ => 0⟩
/-- 07, R307: CPR_EVENT.REBUILD_DONE. -/
def Reg.CPR_EVENT.REBUILD_DONE : Fld := ⟨275, 1, fun _ => 0⟩
/-- 07, R307: CPR_EVENT.RANK_STATE. -/
def Reg.CPR_EVENT.RANK_STATE : Fld := ⟨276, 1, fun _ => 0⟩
/-- 07, R307: CPR_EVENT_EN.EN. -/
def Reg.CPR_EVENT_EN.EN : Fld := ⟨277, 6, fun _ => 0⟩
/-- 07, R307: CPR_CLR.ASSAY. -/
def Reg.CPR_CLR.ASSAY : Fld := ⟨278, 8, fun _ => 0⟩
/-- 07, R307: CPR_CLR.READ. -/
def Reg.CPR_CLR.READ : Fld := ⟨279, 8, fun _ => 0⟩
/-- 07, R307: CPR_CLR_STALL.STALL. -/
def Reg.CPR_CLR_STALL.STALL : Fld := ⟨280, 32, fun _ => 0⟩
/-- 07, R307: CPR_COM.ASSAY. -/
def Reg.CPR_COM.ASSAY : Fld := ⟨281, 8, fun _ => 0⟩
/-- 07, R307: CPR_COM.READ. -/
def Reg.CPR_COM.READ : Fld := ⟨282, 8, fun _ => 0⟩
/-- 07, R307: CPR_COM.WRITE. -/
def Reg.CPR_COM.WRITE : Fld := ⟨283, 8, fun _ => 0⟩
/-- 07, R307: CPR_COM_STALL.STALL. -/
def Reg.CPR_COM_STALL.STALL : Fld := ⟨284, 32, fun _ => 0⟩
/-- 07, R307: CPR_RANK_STATUS.STATE. -/
def Reg.CPR_RANK_STATUS.STATE : Fld := ⟨285, 3, fun _ => 0⟩
/-- 07, R307: CPR_RANK_STATUS.UNIT. -/
def Reg.CPR_RANK_STATUS.UNIT : Fld := ⟨286, 1, fun _ => 0⟩
/-- 07, R307: CPR_RANK_STATUS.OUT. -/
def Reg.CPR_RANK_STATUS.OUT : Fld := ⟨287, 5, fun _ => 0⟩
/-- 07, R307: CPR_RANK_STATUS.M. -/
def Reg.CPR_RANK_STATUS.M : Fld := ⟨288, 3, fun _ => 0⟩
/-- 07, R307: CPR_RANK_STATUS.K. -/
def Reg.CPR_RANK_STATUS.K : Fld := ⟨289, 5, fun _ => 0⟩
/-- 07, R307: CPR_RANK_GEN.G. -/
def Reg.CPR_RANK_GEN.G : Fld := ⟨290, 32, fun _ => 0⟩
/-- 07, R307: CPR_RANK_BAYS.BAYS. -/
def Reg.CPR_RANK_BAYS.BAYS : Fld := ⟨291, 24, fun _ => 0⟩
/-- 07, R307: CPR_RANK_FREE.FREE. -/
def Reg.CPR_RANK_FREE.FREE : Fld := ⟨292, 24, fun _ => 0⟩
/-- 07, R307: CPR_RANK_LOG.LOGBAYS. -/
def Reg.CPR_RANK_LOG.LOGBAYS : Fld := ⟨293, 16, fun _ => 0⟩
/-- 07, R307: CPR_RANK_SLOT.STATE. -/
def Reg.CPR_RANK_SLOT.STATE : Fld := ⟨294, 2, fun _ => 0⟩
/-- 07, R307: CPR_RANK_SLOT.PORT. -/
def Reg.CPR_RANK_SLOT.PORT : Fld := ⟨295, 7, fun _ => 0⟩
/-- 07, R307: CPR_RANK_RBLD.DONE. -/
def Reg.CPR_RANK_RBLD.DONE : Fld := ⟨296, 24, fun _ => 0⟩
/-- 08, R342: ASY_STATUS.ASSAY. -/
def Reg.ASY_STATUS.ASSAY : Fld := ⟨297, 2, fun _ => 0⟩
/-- 08, R342: ASY_STATUS.PATROL. -/
def Reg.ASY_STATUS.PATROL : Fld := ⟨298, 1, fun _ => 0⟩
/-- 08, R342: ASY_STATUS.OVERDUE. -/
def Reg.ASY_STATUS.OVERDUE : Fld := ⟨299, 1, fun _ => 0⟩
/-- 08, R342: ASY_STATUS.WEAR_WATCH. -/
def Reg.ASY_STATUS.WEAR_WATCH : Fld := ⟨300, 1, fun _ => 0⟩
/-- 08, R342: ASY_STATUS.WEAR_LIMIT. -/
def Reg.ASY_STATUS.WEAR_LIMIT : Fld := ⟨301, 1, fun _ => 0⟩
/-- 08, R342: ASY_STATUS.MIGRATING. -/
def Reg.ASY_STATUS.MIGRATING : Fld := ⟨302, 6, fun _ => 0⟩
/-- 08, R342: ASY_CTRL.MIG_PAUSE. -/
def Reg.ASY_CTRL.MIG_PAUSE : Fld := ⟨303, 1, fun _ => 0⟩
/-- 08, R342: ASY_CTRL.PATROL_PAUSE. -/
def Reg.ASY_CTRL.PATROL_PAUSE : Fld := ⟨304, 1, fun _ => 0⟩
/-- 08, R342: ASY_ATTN.COUNT. -/
def Reg.ASY_ATTN.COUNT : Fld := ⟨305, 17, fun _ => 0⟩
/-- 08, R342: ASY_MIG_DONE.COUNT. -/
def Reg.ASY_MIG_DONE.COUNT : Fld := ⟨306, 64, fun _ => 0⟩
/-- 08, R342: ASY_MIG_ABANDON.COUNT. -/
def Reg.ASY_MIG_ABANDON.COUNT : Fld := ⟨307, 32, fun _ => 0⟩
/-- 08, R342: ASY_PATROL_PASS.PASS. -/
def Reg.ASY_PATROL_PASS.PASS : Fld := ⟨308, 32, fun _ => 0⟩
/-- 08, R342: ASY_PATROL_POS.EXTENT. -/
def Reg.ASY_PATROL_POS.EXTENT : Fld := ⟨309, 22, fun _ => 0⟩
/-- 08, R342: ASY_PATROL_START.TICKS. -/
def Reg.ASY_PATROL_START.TICKS : Fld := ⟨310, 48, fun _ => 0⟩
/-- 08, R342: ASY_DEADLINE.TICKS. -/
def Reg.ASY_DEADLINE.TICKS : Fld := ⟨311, 48, fun _ => 0⟩
/-- 08, R342: ASY_ASSAY_RUN.RUN. -/
def Reg.ASY_ASSAY_RUN.RUN : Fld := ⟨312, 32, fun _ => 0⟩
/-- 08, R342: ASY_ASSAY_EXT.DONE. -/
def Reg.ASY_ASSAY_EXT.DONE : Fld := ⟨313, 23, fun _ => 0⟩
/-- 08, R342: ASY_ASSAY_BYTES.BYTES. -/
def Reg.ASY_ASSAY_BYTES.BYTES : Fld := ⟨314, 64, fun _ => 0⟩
/-- 08, R342: ASY_ASSAY_FIND.COUNT. -/
def Reg.ASY_ASSAY_FIND.COUNT : Fld := ⟨315, 32, fun _ => 0⟩
/-- 08, R342: ASY_ASSAY_RATE.MBPS. -/
def Reg.ASY_ASSAY_RATE.MBPS : Fld := ⟨316, 32, fun _ => 0⟩
/-- 08, R342: ASY_EVENT.PATROL_PASS. -/
def Reg.ASY_EVENT.PATROL_PASS : Fld := ⟨317, 1, fun _ => 0⟩
/-- 08, R342: ASY_EVENT.LEDGER_FREED. -/
def Reg.ASY_EVENT.LEDGER_FREED : Fld := ⟨318, 1, fun _ => 0⟩
/-- 08, R342: ASY_EVENT.PLACEGEN_MAX. -/
def Reg.ASY_EVENT.PLACEGEN_MAX : Fld := ⟨319, 1, fun _ => 0⟩
/-- 08, R342: ASY_EVENT.OVERDUE. -/
def Reg.ASY_EVENT.OVERDUE : Fld := ⟨320, 1, fun _ => 0⟩
/-- 08, R342: ASY_EVENT.TREND. -/
def Reg.ASY_EVENT.TREND : Fld := ⟨321, 1, fun _ => 0⟩
/-- 08, R342: ASY_EVENT.WEAR_LIMIT. -/
def Reg.ASY_EVENT.WEAR_LIMIT : Fld := ⟨322, 1, fun _ => 0⟩
/-- 08, R342: ASY_EVENT.WEAR_WATCH. -/
def Reg.ASY_EVENT.WEAR_WATCH : Fld := ⟨323, 1, fun _ => 0⟩
/-- 08, R342: ASY_EVENT.NO_TARGET. -/
def Reg.ASY_EVENT.NO_TARGET : Fld := ⟨324, 1, fun _ => 0⟩
/-- 08, R342: ASY_EVENT.MIG_ABANDON. -/
def Reg.ASY_EVENT.MIG_ABANDON : Fld := ⟨325, 1, fun _ => 0⟩
/-- 08, R342: ASY_EVENT.MIG_DONE. -/
def Reg.ASY_EVENT.MIG_DONE : Fld := ⟨326, 1, fun _ => 0⟩
/-- 08, R342: ASY_EVENT.FINDING. -/
def Reg.ASY_EVENT.FINDING : Fld := ⟨327, 1, fun _ => 0⟩
/-- 08, R342: ASY_EVENT.ASSAY_DONE. -/
def Reg.ASY_EVENT.ASSAY_DONE : Fld := ⟨328, 1, fun _ => 0⟩
/-- 08, R342: ASY_EVENT_EN.EN. -/
def Reg.ASY_EVENT_EN.EN : Fld := ⟨329, 12, fun _ => 0⟩
/-- 08, R342: ASY_DRIVE.WATCH. -/
def Reg.ASY_DRIVE.WATCH : Fld := ⟨330, 1, fun _ => 0⟩
/-- 08, R342: ASY_DRIVE.LIMIT. -/
def Reg.ASY_DRIVE.LIMIT : Fld := ⟨331, 1, fun _ => 0⟩
/-- 08, R342: ASY_DRIVE.TREND. -/
def Reg.ASY_DRIVE.TREND : Fld := ⟨332, 1, fun _ => 0⟩
/-- 08, R342: ASY_DRIVE.SOFT_HIGH. -/
def Reg.ASY_DRIVE.SOFT_HIGH : Fld := ⟨333, 1, fun _ => 0⟩
/-- 08, R342: ASY_DRIVE.PCTUSED. -/
def Reg.ASY_DRIVE.PCTUSED : Fld := ⟨334, 8, fun _ => 0⟩
/-- 08, R342: ASY_DRIVE_SOFT.COUNT. -/
def Reg.ASY_DRIVE_SOFT.COUNT : Fld := ⟨335, 32, fun _ => 0⟩
/-- 08, R342: ASY_DRIVE_HARD.COUNT. -/
def Reg.ASY_DRIVE_HARD.COUNT : Fld := ⟨336, 32, fun _ => 0⟩
/-- 08, R342: ASY_DRIVE_LAT.BASE. -/
def Reg.ASY_DRIVE_LAT.BASE : Fld := ⟨337, 16, fun _ => 0⟩
/-- 08, R342: ASY_DRIVE_LAT.AVG. -/
def Reg.ASY_DRIVE_LAT.AVG : Fld := ⟨338, 16, fun _ => 0⟩
/-- 09, R361: RNG_STATUS.PERMANENT. -/
def Reg.RNG_STATUS.PERMANENT : Fld := ⟨339, 1, fun _ => 0⟩
/-- 09, R361: RNG_STATUS.POOL. -/
def Reg.RNG_STATUS.POOL : Fld := ⟨340, 5, fun _ => 0⟩
/-- 09, R361: RNG_STATUS.LIVE. -/
def Reg.RNG_STATUS.LIVE : Fld := ⟨341, 4, fun _ => 0⟩
/-- 09, R361: RNG_STATUS.INST. -/
def Reg.RNG_STATUS.INST : Fld := ⟨342, 4, fun _ => 0⟩
/-- 09, R361: RNG_STATUS.STATE. -/
def Reg.RNG_STATUS.STATE : Fld := ⟨343, 3, fun _ => 0⟩
/-- 09, R361: RNG_CTRL.RESEED. -/
def Reg.RNG_CTRL.RESEED : Fld := ⟨344, 4, fun _ => 0⟩
/-- 09, R361: RNG_SRC_STATUS.APT. -/
def Reg.RNG_SRC_STATUS.APT : Fld := ⟨345, 1, fun _ => 0⟩
/-- 09, R361: RNG_SRC_STATUS.RCT. -/
def Reg.RNG_SRC_STATUS.RCT : Fld := ⟨346, 1, fun _ => 0⟩
/-- 09, R361: RNG_SRC_STATUS.STATE. -/
def Reg.RNG_SRC_STATUS.STATE : Fld := ⟨347, 3, fun _ => 0⟩
/-- 09, R361: RNG_SRC_FAILS.COUNT. -/
def Reg.RNG_SRC_FAILS.COUNT : Fld := ⟨348, 2, fun _ => 0⟩
/-- 09, R361: RNG_INST.READY. -/
def Reg.RNG_INST.READY : Fld := ⟨349, 1, fun _ => 0⟩
/-- 09, R361: RNG_INST.WAITING. -/
def Reg.RNG_INST.WAITING : Fld := ⟨350, 1, fun _ => 0⟩
/-- 09, R361: RNG_INST.COUNTER. -/
def Reg.RNG_INST.COUNTER : Fld := ⟨351, 17, fun _ => 0⟩
/-- 09, R361: RNG_INST_RESEEDS.COUNT. -/
def Reg.RNG_INST_RESEEDS.COUNT : Fld := ⟨352, 64, fun _ => 0⟩
/-- 09, R361: RNG_BYTES.BYTES. -/
def Reg.RNG_BYTES.BYTES : Fld := ⟨353, 64, fun _ => 0⟩
/-- 09, R361: RNG_EVENT.RECOVERED. -/
def Reg.RNG_EVENT.RECOVERED : Fld := ⟨354, 1, fun _ => 0⟩
/-- 09, R361: RNG_EVENT.ERROR. -/
def Reg.RNG_EVENT.ERROR : Fld := ⟨355, 1, fun _ => 0⟩
/-- 09, R361: RNG_EVENT.SRC_DEAD. -/
def Reg.RNG_EVENT.SRC_DEAD : Fld := ⟨356, 1, fun _ => 0⟩
/-- 09, R361: RNG_EVENT.SRC_FAIL. -/
def Reg.RNG_EVENT.SRC_FAIL : Fld := ⟨357, 1, fun _ => 0⟩
/-- 09, R361: RNG_EVENT_EN.EN. -/
def Reg.RNG_EVENT_EN.EN : Fld := ⟨358, 4, fun _ => 0⟩
/-- 09, R361: RNG_RAW_CTRL.EN. -/
def Reg.RNG_RAW_CTRL.EN : Fld := ⟨359, 1, fun _ => 0⟩
/-- 09, R361: RNG_RAW_CTRL.SEL. -/
def Reg.RNG_RAW_CTRL.SEL : Fld := ⟨360, 2, fun _ => 0⟩
/-- 09, R361: RNG_RAW_CTRL.SRC. -/
def Reg.RNG_RAW_CTRL.SRC : Fld := ⟨361, 4, fun _ => 0⟩
/-- 09, R361: RNG_RAW_STATUS.REFUSED. -/
def Reg.RNG_RAW_STATUS.REFUSED : Fld := ⟨362, 1, fun _ => 0⟩
/-- 09, R361: RNG_RAW_STATUS.LEVEL. -/
def Reg.RNG_RAW_STATUS.LEVEL : Fld := ⟨363, 11, fun _ => 0⟩
/-- 09, R361: RNG_RAW_STATUS.DROPPED. -/
def Reg.RNG_RAW_STATUS.DROPPED : Fld := ⟨364, 16, fun _ => 0⟩
/-- 09, R361: RNG_RAW_DATA.DATA. -/
def Reg.RNG_RAW_DATA.DATA : Fld := ⟨365, 32, fun _ => 0⟩
/-- 10, R401: PTR_STATUS.MODE. -/
def Reg.PTR_STATUS.MODE : Fld := ⟨366, 2, fun _ => 0⟩
/-- 10, R401: PTR_STATUS.COPY. -/
def Reg.PTR_STATUS.COPY : Fld := ⟨367, 1, fun _ => 0⟩
/-- 10, R401: PTR_STATUS.A_OK. -/
def Reg.PTR_STATUS.A_OK : Fld := ⟨368, 1, fun _ => 0⟩
/-- 10, R401: PTR_STATUS.B_OK. -/
def Reg.PTR_STATUS.B_OK : Fld := ⟨369, 1, fun _ => 0⟩
/-- 10, R401: PTR_STATUS.DIVERGED. -/
def Reg.PTR_STATUS.DIVERGED : Fld := ⟨370, 1, fun _ => 0⟩
/-- 10, R401: PTR_STATUS.SLOW. -/
def Reg.PTR_STATUS.SLOW : Fld := ⟨371, 1, fun _ => 0⟩
/-- 10, R401: PTR_STATUS.SESSION. -/
def Reg.PTR_STATUS.SESSION : Fld := ⟨372, 1, fun _ => 0⟩
/-- 10, R401: PTR_STATUS.B_WRITTEN. -/
def Reg.PTR_STATUS.B_WRITTEN : Fld := ⟨373, 1, fun _ => 0⟩
/-- 10, R401: PTR_STATUS.A_WRITTEN. -/
def Reg.PTR_STATUS.A_WRITTEN : Fld := ⟨374, 1, fun _ => 0⟩
/-- 10, R401: PTR_STATUS.AREASON. -/
def Reg.PTR_STATUS.AREASON : Fld := ⟨375, 4, fun _ => 0⟩
/-- 10, R401: PTR_STATUS.BREASON. -/
def Reg.PTR_STATUS.BREASON : Fld := ⟨376, 4, fun _ => 0⟩
/-- 10, R401: PTR_STATUS.HALT. -/
def Reg.PTR_STATUS.HALT : Fld := ⟨377, 4, fun _ => 0⟩
/-- 10, R401: PTR_STATUS.STAGE. -/
def Reg.PTR_STATUS.STAGE : Fld := ⟨378, 4, fun _ => 0⟩
/-- 10, R401: PTR_BOOT_TIME.US. -/
def Reg.PTR_BOOT_TIME.US : Fld := ⟨379, 32, fun _ => 0⟩
/-- 10, R401: PTR_SEQ_A.SEQ. -/
def Reg.PTR_SEQ_A.SEQ : Fld := ⟨380, 64, fun _ => 0⟩
/-- 10, R401: PTR_SEQ_B.SEQ. -/
def Reg.PTR_SEQ_B.SEQ : Fld := ⟨381, 64, fun _ => 0⟩
/-- 10, R401: PTR_FLOOR.FLOOR. -/
def Reg.PTR_FLOOR.FLOOR : Fld := ⟨382, 64, fun _ => 0⟩
/-- 10, R401: PTR_SESSION.OPEN. -/
def Reg.PTR_SESSION.OPEN : Fld := ⟨383, 1, fun _ => 0⟩
/-- 10, R401: PTR_SESSION.TARGET. -/
def Reg.PTR_SESSION.TARGET : Fld := ⟨384, 1, fun _ => 0⟩
/-- 10, R401: PTR_SESSION.HDR. -/
def Reg.PTR_SESSION.HDR : Fld := ⟨385, 1, fun _ => 0⟩
/-- 10, R401: PTR_SESSION.TOTAL. -/
def Reg.PTR_SESSION.TOTAL : Fld := ⟨386, 13, fun _ => 0⟩
/-- 10, R401: PTR_SESSION.WRITTEN. -/
def Reg.PTR_SESSION.WRITTEN : Fld := ⟨387, 13, fun _ => 0⟩
/-- 10, R401: PTR_EVENT.WRITE_FAIL. -/
def Reg.PTR_EVENT.WRITE_FAIL : Fld := ⟨388, 1, fun _ => 0⟩
/-- 10, R401: PTR_EVENT.WRITE_DONE. -/
def Reg.PTR_EVENT.WRITE_DONE : Fld := ⟨389, 1, fun _ => 0⟩
/-- 10, R401: PTR_EVENT.INSTALL_FAIL. -/
def Reg.PTR_EVENT.INSTALL_FAIL : Fld := ⟨390, 1, fun _ => 0⟩
/-- 10, R401: PTR_EVENT.INSTALLED. -/
def Reg.PTR_EVENT.INSTALLED : Fld := ⟨391, 1, fun _ => 0⟩
/-- 10, R401: PTR_EVENT.COPY_INVALID. -/
def Reg.PTR_EVENT.COPY_INVALID : Fld := ⟨392, 1, fun _ => 0⟩
/-- 10, R401: PTR_EVENT.DIVERGED. -/
def Reg.PTR_EVENT.DIVERGED : Fld := ⟨393, 1, fun _ => 0⟩
/-- 10, R401: PTR_EVENT_EN.EN. -/
def Reg.PTR_EVENT_EN.EN : Fld := ⟨394, 6, fun _ => 0⟩
/-- 10, R401: PTR_IMG_DIGEST.DIGEST. -/
def Reg.PTR_IMG_DIGEST.DIGEST : Fld := ⟨395, 32, fun _ => 0⟩
/-- 10, R401: PTR_CHIP.JEDEC. -/
def Reg.PTR_CHIP.JEDEC : Fld := ⟨396, 24, fun _ => 0⟩
/-- 10, R401: PTR_CHIP.SIZELOG. -/
def Reg.PTR_CHIP.SIZELOG : Fld := ⟨397, 5, fun _ => 0⟩
/-- 10, R402: OTP_STATUS.READ_DONE. -/
def Reg.OTP_STATUS.READ_DONE : Fld := ⟨398, 1, fun _ => 0⟩
/-- 10, R402: OTP_STATUS.MARGINAL. -/
def Reg.OTP_STATUS.MARGINAL : Fld := ⟨399, 1, fun _ => 0⟩
/-- 10, R402: OTP_STATUS.DRIFT. -/
def Reg.OTP_STATUS.DRIFT : Fld := ⟨400, 1, fun _ => 0⟩
/-- 10, R402: OTP_STATUS.MCOUNT. -/
def Reg.OTP_STATUS.MCOUNT : Fld := ⟨401, 10, fun _ => 0⟩
/-- 10, R402: OTP_STATUS.LC. -/
def Reg.OTP_STATUS.LC : Fld := ⟨402, 3, fun _ => 0⟩
/-- 10, R402: OTP_SERIAL.SERIAL. -/
def Reg.OTP_SERIAL.SERIAL : Fld := ⟨403, 64, fun _ => Config.serial⟩
/-- 10, R402: OTP_MARGINAL.WORD. -/
def Reg.OTP_MARGINAL.WORD : Fld := ⟨404, 32, fun _ => 0⟩
/-- 10, R402: OTP_LAST_READ.TICKS. -/
def Reg.OTP_LAST_READ.TICKS : Fld := ⟨405, 48, fun _ => 0⟩
/-- 10, R402: OTP_CTRL.REREAD. -/
def Reg.OTP_CTRL.REREAD : Fld := ⟨406, 1, fun _ => 0⟩
/-- 10, R402: OTP_EVENT.REREAD_DONE. -/
def Reg.OTP_EVENT.REREAD_DONE : Fld := ⟨407, 1, fun _ => 0⟩
/-- 10, R402: OTP_EVENT.DRIFT. -/
def Reg.OTP_EVENT.DRIFT : Fld := ⟨408, 1, fun _ => 0⟩
/-- 10, R402: OTP_EVENT.MARGINAL. -/
def Reg.OTP_EVENT.MARGINAL : Fld := ⟨409, 1, fun _ => 0⟩
/-- 10, R402: OTP_EVENT_EN.EN. -/
def Reg.OTP_EVENT_EN.EN : Fld := ⟨410, 3, fun _ => 0⟩
/-- 10, R402: OTP_WORD.VALUE. -/
def Reg.OTP_WORD.VALUE : Fld := ⟨411, 32, fun _ => 0⟩
/-- 11, R435: AON_STATUS.SOURCE. -/
def Reg.AON_STATUS.SOURCE : Fld := ⟨412, 1, fun _ => 0⟩
/-- 11, R435: AON_STATUS.DWELL. -/
def Reg.AON_STATUS.DWELL : Fld := ⟨413, 1, fun _ => 0⟩
/-- 11, R435: AON_STATUS.QUALIFY. -/
def Reg.AON_STATUS.QUALIFY : Fld := ⟨414, 1, fun _ => 0⟩
/-- 11, R435: AON_STATUS.RC_ACTIVE. -/
def Reg.AON_STATUS.RC_ACTIVE : Fld := ⟨415, 1, fun _ => 0⟩
/-- 11, R435: AON_STATUS.XTAL32_OK. -/
def Reg.AON_STATUS.XTAL32_OK : Fld := ⟨416, 1, fun _ => 1⟩
/-- 11, R435: AON_STATUS.BBRAM_BAD. -/
def Reg.AON_STATUS.BBRAM_BAD : Fld := ⟨417, 1, fun _ => 0⟩
/-- 11, R435: AON_STATUS.AONPOR. -/
def Reg.AON_STATUS.AONPOR : Fld := ⟨418, 1, fun _ => 1⟩
/-- 11, R435: AON_STATUS.PWR_FAIL. -/
def Reg.AON_STATUS.PWR_FAIL : Fld := ⟨419, 1, fun _ => 0⟩
/-- 11, R435: AON_STATUS.WAKE_IN. -/
def Reg.AON_STATUS.WAKE_IN : Fld := ⟨420, 1, fun _ => 0⟩
/-- 11, R435: AON_STATUS.WAKE_DRIVE. -/
def Reg.AON_STATUS.WAKE_DRIVE : Fld := ⟨421, 1, fun _ => 0⟩
/-- 11, R435: AON_STATUS.ALERT. -/
def Reg.AON_STATUS.ALERT : Fld := ⟨422, 1, fun _ => 0⟩
/-- 11, R435: AON_TICKS.TICKS. -/
def Reg.AON_TICKS.TICKS : Fld := ⟨423, 48, fun _ => 0⟩
/-- 11, R435: AON_SUPPLY.VAON. -/
def Reg.AON_SUPPLY.VAON : Fld := ⟨424, 16, fun _ => 0⟩
/-- 11, R435: AON_SUPPLY.VBAT. -/
def Reg.AON_SUPPLY.VBAT : Fld := ⟨425, 16, fun _ => 0⟩
/-- 11, R435: AON_SWITCH.COUNT. -/
def Reg.AON_SWITCH.COUNT : Fld := ⟨426, 32, fun _ => 0⟩
/-- 11, R435: AON_WAKE_STATUS.ATTEMPTS. -/
def Reg.AON_WAKE_STATUS.ATTEMPTS : Fld := ⟨427, 4, fun _ => 0⟩
/-- 11, R435: AON_WAKE_STATUS.CAUSE. -/
def Reg.AON_WAKE_STATUS.CAUSE : Fld := ⟨428, 4, fun _ => 0⟩
/-- 11, R435: AON_WAKE_STATUS.RESULT. -/
def Reg.AON_WAKE_STATUS.RESULT : Fld := ⟨429, 4, fun _ => 0⟩
/-- 11, R435: AON_WAKE_FAILS.PWR. -/
def Reg.AON_WAKE_FAILS.PWR : Fld := ⟨430, 8, fun _ => 0⟩
/-- 11, R435: AON_WAKE_FAILS.XTAL. -/
def Reg.AON_WAKE_FAILS.XTAL : Fld := ⟨431, 8, fun _ => 0⟩
/-- 11, R435: AON_WAKE_FAILS.PLL. -/
def Reg.AON_WAKE_FAILS.PLL : Fld := ⟨432, 8, fun _ => 0⟩
/-- 11, R435: AON_WAKE_FAILS.XTAL32. -/
def Reg.AON_WAKE_FAILS.XTAL32 : Fld := ⟨433, 8, fun _ => 0⟩
/-- 11, R435: AON_CAL.ARMED. -/
def Reg.AON_CAL.ARMED : Fld := ⟨434, 1, fun _ => 0⟩
/-- 11, R435: AON_CAL.DEADLINE. -/
def Reg.AON_CAL.DEADLINE : Fld := ⟨435, 48, fun _ => 0⟩
/-- 11, R435: AON_EVENT.WAKE. -/
def Reg.AON_EVENT.WAKE : Fld := ⟨436, 1, fun _ => 0⟩
/-- 11, R435: AON_EVENT.OVERRUN. -/
def Reg.AON_EVENT.OVERRUN : Fld := ⟨437, 1, fun _ => 0⟩
/-- 11, R435: AON_EVENT.PWR_FAIL. -/
def Reg.AON_EVENT.PWR_FAIL : Fld := ⟨438, 1, fun _ => 0⟩
/-- 11, R435: AON_EVENT.AONPOR. -/
def Reg.AON_EVENT.AONPOR : Fld := ⟨439, 1, fun _ => 1⟩
/-- 11, R435: AON_EVENT.VBAT_WARN. -/
def Reg.AON_EVENT.VBAT_WARN : Fld := ⟨440, 1, fun _ => 0⟩
/-- 11, R435: AON_EVENT.TO_VAON. -/
def Reg.AON_EVENT.TO_VAON : Fld := ⟨441, 1, fun _ => 0⟩
/-- 11, R435: AON_EVENT.TO_VBAT. -/
def Reg.AON_EVENT.TO_VBAT : Fld := ⟨442, 1, fun _ => 0⟩
/-- 11, R435: AON_EVENT.XTAL32_FAIL. -/
def Reg.AON_EVENT.XTAL32_FAIL : Fld := ⟨443, 1, fun _ => 0⟩
/-- 11, R435: AON_EVENT.PLL_TIMEOUT. -/
def Reg.AON_EVENT.PLL_TIMEOUT : Fld := ⟨444, 1, fun _ => 0⟩
/-- 11, R435: AON_EVENT.XTAL_TIMEOUT. -/
def Reg.AON_EVENT.XTAL_TIMEOUT : Fld := ⟨445, 1, fun _ => 0⟩
/-- 11, R435: AON_EVENT.PWR_TIMEOUT. -/
def Reg.AON_EVENT.PWR_TIMEOUT : Fld := ⟨446, 1, fun _ => 0⟩
/-- 11, R435: AON_EVENT.REFRESH_DUE. -/
def Reg.AON_EVENT.REFRESH_DUE : Fld := ⟨447, 1, fun _ => 0⟩
/-- 11, R435: AON_ALERT_EN.EN. -/
def Reg.AON_ALERT_EN.EN : Fld := ⟨448, 12, fun _ => 159⟩
/-- 11, R435: AON_EVENT_EN.EN. -/
def Reg.AON_EVENT_EN.EN : Fld := ⟨449, 12, fun _ => 0⟩
/-- 11, R435: AON_CTRL.CLEAR_FAILS. -/
def Reg.AON_CTRL.CLEAR_FAILS : Fld := ⟨450, 1, fun _ => 0⟩
/-- 11, R435: AON_CTRL.XTAL32_RETRY. -/
def Reg.AON_CTRL.XTAL32_RETRY : Fld := ⟨451, 1, fun _ => 0⟩
/-- 11, R435: AON_CDC_OVR.SVC. -/
def Reg.AON_CDC_OVR.SVC : Fld := ⟨452, 1, fun _ => 0⟩
/-- 11, R435: AON_CDC_OVR.TO_AON. -/
def Reg.AON_CDC_OVR.TO_AON : Fld := ⟨453, 1, fun _ => 0⟩
/-- 11, R435: AON_CDC_OVR.FROM_AON. -/
def Reg.AON_CDC_OVR.FROM_AON : Fld := ⟨454, 1, fun _ => 0⟩
/-- 11, R435: AON_CDC_OVR.MEDIA. -/
def Reg.AON_CDC_OVR.MEDIA : Fld := ⟨455, 1, fun _ => 0⟩
/-- 11, R435: AON_CDC_OVR.HOST. -/
def Reg.AON_CDC_OVR.HOST : Fld := ⟨456, 1, fun _ => 0⟩
/-- 11, R435: AON_CLK_STATUS.XTAL25_OK. -/
def Reg.AON_CLK_STATUS.XTAL25_OK : Fld := ⟨457, 1, fun _ => 0⟩
/-- 11, R435: AON_CLK_STATUS.SYSPLL_LOCK. -/
def Reg.AON_CLK_STATUS.SYSPLL_LOCK : Fld := ⟨458, 1, fun _ => 0⟩
/-- 11, R435: AON_CLK_STATUS.MPLL_LOCK. -/
def Reg.AON_CLK_STATUS.MPLL_LOCK : Fld := ⟨459, 1, fun _ => 0⟩
/-- 11, R435: AON_CLK_STATUS.HREF_A. -/
def Reg.AON_CLK_STATUS.HREF_A : Fld := ⟨460, 1, fun _ => 0⟩
/-- 11, R435: AON_CLK_STATUS.HREF_B. -/
def Reg.AON_CLK_STATUS.HREF_B : Fld := ⟨461, 1, fun _ => 0⟩
/-- 11, R435: AON_CLK_STATUS.EVCLK_ON. -/
def Reg.AON_CLK_STATUS.EVCLK_ON : Fld := ⟨462, 1, fun _ => 0⟩
/-- 11, R435: AON_CLK_STATUS.RC_PPM. -/
def Reg.AON_CLK_STATUS.RC_PPM : Fld := ⟨463, 16, fun _ => 0⟩
/-- 11, R435: AON_BBRAM.DATA. -/
def Reg.AON_BBRAM.DATA : Fld := ⟨464, 32, fun _ => 0⟩
/-- 12, R466: POL_CORE_CTRL.RESET. -/
def Reg.POL_CORE_CTRL.RESET : Fld := ⟨465, 1, fun _ => 1⟩
/-- 12, R466: POL_CORE_STATUS.STATE. -/
def Reg.POL_CORE_STATUS.STATE : Fld := ⟨466, 2, fun _ => 0⟩
/-- 12, R466: POL_CORE_STATUS.PAM. -/
def Reg.POL_CORE_STATUS.PAM : Fld := ⟨467, 1, fun _ => 0⟩
/-- 12, R466: POL_CORE_STATUS.DF. -/
def Reg.POL_CORE_STATUS.DF : Fld := ⟨468, 1, fun _ => 0⟩
/-- 12, R466: POL_CORE_STATUS.CMDOUT. -/
def Reg.POL_CORE_STATUS.CMDOUT : Fld := ⟨469, 9, fun _ => 0⟩
/-- 12, R466: POL_CORE_PC.PC. -/
def Reg.POL_CORE_PC.PC : Fld := ⟨470, 32, fun _ => 0⟩
/-- 12, R466: POL_CORE_EPOCH.EPOCH. -/
def Reg.POL_CORE_EPOCH.EPOCH : Fld := ⟨471, 32, fun _ => 1⟩
/-- 12, R466: POL_CMDQ_BASE.ADDR. -/
def Reg.POL_CMDQ_BASE.ADDR : Fld := ⟨472, 17, fun _ => 8192⟩
/-- 12, R466: POL_CMDQ_PTR.TAIL. -/
def Reg.POL_CMDQ_PTR.TAIL : Fld := ⟨473, 8, fun _ => 0⟩
/-- 12, R466: POL_CMDQ_PTR.HEAD. -/
def Reg.POL_CMDQ_PTR.HEAD : Fld := ⟨474, 8, fun _ => 0⟩
/-- 12, R466: POL_DMA_LOCAL.ADDR. -/
def Reg.POL_DMA_LOCAL.ADDR : Fld := ⟨475, 32, fun _ => 0⟩
/-- 12, R466: POL_DMA_OFFSET.OFFSET. -/
def Reg.POL_DMA_OFFSET.OFFSET : Fld := ⟨476, 21, fun _ => 0⟩
/-- 12, R466: POL_DMA_LEN.LEN. -/
def Reg.POL_DMA_LEN.LEN : Fld := ⟨477, 21, fun _ => 0⟩
/-- 12, R466: POL_DMA_CTRL.TAG. -/
def Reg.POL_DMA_CTRL.TAG : Fld := ⟨478, 16, fun _ => 0⟩
/-- 12, R466: POL_DMA_CTRL.DIR. -/
def Reg.POL_DMA_CTRL.DIR : Fld := ⟨479, 1, fun _ => 0⟩
/-- 12, R466: POL_DMA_CTRL.GO. -/
def Reg.POL_DMA_CTRL.GO : Fld := ⟨480, 1, fun _ => 0⟩
/-- 12, R466: POL_DMA_STATUS.BUSY. -/
def Reg.POL_DMA_STATUS.BUSY : Fld := ⟨481, 1, fun _ => 0⟩
/-- 12, R466: POL_DMA_STATUS.ERR. -/
def Reg.POL_DMA_STATUS.ERR : Fld := ⟨482, 2, fun _ => 0⟩
/-- 12, R466: POL_CMD_RES0.RES0. -/
def Reg.POL_CMD_RES0.RES0 : Fld := ⟨483, 64, fun _ => 0⟩
/-- 12, R466: POL_CMD_RES1.RES1. -/
def Reg.POL_CMD_RES1.RES1 : Fld := ⟨484, 32, fun _ => 0⟩
/-- 12, R466: POL_CMD_DONE.STATUS. -/
def Reg.POL_CMD_DONE.STATUS : Fld := ⟨485, 16, fun _ => 0⟩
/-- 12, R466: POL_CMD_DONE.TAG. -/
def Reg.POL_CMD_DONE.TAG : Fld := ⟨486, 16, fun _ => 0⟩
/-- 12, R466: POL_EVENT.RING_FULL. -/
def Reg.POL_EVENT.RING_FULL : Fld := ⟨487, 1, fun _ => 0⟩
/-- 12, R466: POL_EVENT.CANCELLED. -/
def Reg.POL_EVENT.CANCELLED : Fld := ⟨488, 1, fun _ => 0⟩
/-- 12, R466: POL_EVENT.BAD_STATUS. -/
def Reg.POL_EVENT.BAD_STATUS : Fld := ⟨489, 1, fun _ => 0⟩
/-- 12, R466: POL_EVENT.BAD_TAG. -/
def Reg.POL_EVENT.BAD_TAG : Fld := ⟨490, 1, fun _ => 0⟩
/-- 12, R466: POL_EVENT_EN.EN. -/
def Reg.POL_EVENT_EN.EN : Fld := ⟨491, 4, fun _ => 0⟩
/-- 12, R466: POL_ROUTE.MASK. -/
def Reg.POL_ROUTE.MASK : Fld := ⟨492, 64, fun _ => 0⟩
/-- 12, R467: KPR_STATUS.RUNNING. -/
def Reg.KPR_STATUS.RUNNING : Fld := ⟨493, 1, fun _ => 0⟩
/-- 12, R467: KPR_STATUS.HALTED. -/
def Reg.KPR_STATUS.HALTED : Fld := ⟨494, 1, fun _ => 0⟩
/-- 12, R467: KPR_STATUS.RESTARTS. -/
def Reg.KPR_STATUS.RESTARTS : Fld := ⟨495, 8, fun _ => 0⟩
/-- 12, R467: KPR_STATUS.PENDING. -/
def Reg.KPR_STATUS.PENDING : Fld := ⟨496, 4, fun _ => 0⟩
/-- 12, R467: KPR_KCALL_COUNT.COUNT. -/
def Reg.KPR_KCALL_COUNT.COUNT : Fld := ⟨497, 64, fun _ => 0⟩
/-- 12, R467: KPR_MISMATCH.COUNT. -/
def Reg.KPR_MISMATCH.COUNT : Fld := ⟨498, 32, fun _ => 0⟩
/-- 12, R467: KPR_VERSION.ROM. -/
def Reg.KPR_VERSION.ROM : Fld := ⟨499, 16, fun _ => Config.keeperRomVersion % 65536⟩
/-- 12, R467: KPR_VERSION.FW. -/
def Reg.KPR_VERSION.FW : Fld := ⟨500, 16, fun _ => 0⟩
/-- 13, R493: ICU_PCFG.EN. -/
def Reg.ICU_PCFG.EN : Fld := ⟨501, 1, fun _ => 0⟩
/-- 13, R493: ICU_PCFG.PEND. -/
def Reg.ICU_PCFG.PEND : Fld := ⟨502, 1, fun _ => 0⟩
/-- 13, R493: ICU_PCFG.INSVC. -/
def Reg.ICU_PCFG.INSVC : Fld := ⟨503, 1, fun _ => 0⟩
/-- 13, R493: ICU_PCFG.LEVEL. -/
def Reg.ICU_PCFG.LEVEL : Fld := ⟨504, 4, fun _ => 0⟩
/-- 13, R493: ICU_THRESH.THRESH. -/
def Reg.ICU_THRESH.THRESH : Fld := ⟨505, 4, fun _ => 0⟩
/-- 13, R493: ICU_NEST.NEST. -/
def Reg.ICU_NEST.NEST : Fld := ⟨506, 16, fun _ => 0⟩
/-- 13, R493: ICU_PEEK.VALID. -/
def Reg.ICU_PEEK.VALID : Fld := ⟨507, 1, fun _ => 0⟩
/-- 13, R493: ICU_PEEK.LEVEL. -/
def Reg.ICU_PEEK.LEVEL : Fld := ⟨508, 4, fun _ => 0⟩
/-- 13, R493: ICU_PEEK.ID. -/
def Reg.ICU_PEEK.ID : Fld := ⟨509, 9, fun _ => 0⟩
/-- 13, R493: ICU_TAKE.ID. -/
def Reg.ICU_TAKE.ID : Fld := ⟨510, 9, fun _ => 0⟩
/-- 13, R493: ICU_RETIRE.LEVEL. -/
def Reg.ICU_RETIRE.LEVEL : Fld := ⟨511, 4, fun _ => 0⟩
/-- 13, R493: ICU_PSTAT.STALE_TAKE. -/
def Reg.ICU_PSTAT.STALE_TAKE : Fld := ⟨512, 1, fun _ => 0⟩
/-- 13, R493: ICU_PSTAT.BAD_RETIRE. -/
def Reg.ICU_PSTAT.BAD_RETIRE : Fld := ⟨513, 1, fun _ => 0⟩
/-- 13, R493: ICU_TCMP.CMP. -/
def Reg.ICU_TCMP.CMP : Fld := ⟨514, 64, fun _ => 18446744073709551615⟩
/-- 13, R493: ICU_HOLDOVR.COUNT. -/
def Reg.ICU_HOLDOVR.COUNT : Fld := ⟨515, 16, fun _ => 0⟩
/-- 13, R493: ICU_HOLDPC.PC. -/
def Reg.ICU_HOLDPC.PC : Fld := ⟨516, 32, fun _ => 0⟩
/-- 13, R494: ICU_SRC_CFG.EN. -/
def Reg.ICU_SRC_CFG.EN : Fld := ⟨517, 1, fun _ => 0⟩
/-- 13, R494: ICU_SRC_CFG.LOCK. -/
def Reg.ICU_SRC_CFG.LOCK : Fld := ⟨518, 1, fun n => if n = 18 ∨ n = 19 ∨ n = 22 ∨ n = 25 ∨ n = 26 then 1 else 0⟩
/-- 13, R494: ICU_SRC_CFG.TARGET. -/
def Reg.ICU_SRC_CFG.TARGET : Fld := ⟨519, 2, fun n => if n = 18 ∨ n = 19 ∨ n = 22 ∨ n = 25 ∨ n = 26 then 2 else if n = 23 then 1 else 0⟩
/-- 13, R494: ICU_SRC_CFG.LEVEL. -/
def Reg.ICU_SRC_CFG.LEVEL : Fld := ⟨520, 4, fun _ => 0⟩
/-- 13, R494: ICU_SRC_CFG.COUNT. -/
def Reg.ICU_SRC_CFG.COUNT : Fld := ⟨521, 8, fun _ => 1⟩
/-- 13, R494: ICU_SRC_COAL.TIME. -/
def Reg.ICU_SRC_COAL.TIME : Fld := ⟨522, 14, fun _ => 1⟩
/-- 13, R494: ICU_PENDING.PEND. -/
def Reg.ICU_PENDING.PEND : Fld := ⟨523, 32, fun _ => 0⟩
/-- 13, R494: ICU_INSERVICE.INSVC. -/
def Reg.ICU_INSERVICE.INSVC : Fld := ⟨524, 32, fun _ => 0⟩
/-- 13, R494: ICU_SWI.SWI. -/
def Reg.ICU_SWI.SWI : Fld := ⟨525, 32, fun _ => 0⟩
/-- 13, R494: ICU_CORE_LEVEL.THRESH. -/
def Reg.ICU_CORE_LEVEL.THRESH : Fld := ⟨526, 4, fun _ => 0⟩
/-- 13, R494: ICU_CORE_LEVEL.NEST. -/
def Reg.ICU_CORE_LEVEL.NEST : Fld := ⟨527, 16, fun _ => 0⟩
/-- 13, R494: ICU_LOCKUP_PC.PC. -/
def Reg.ICU_LOCKUP_PC.PC : Fld := ⟨528, 32, fun _ => 0⟩
/-- 14, R516: MPU_CTRL.PRIVDEF. -/
def Reg.MPU_CTRL.PRIVDEF : Fld := ⟨529, 1, fun _ => 0⟩
/-- 14, R516: MPU_CTRL.EN. -/
def Reg.MPU_CTRL.EN : Fld := ⟨530, 1, fun _ => 0⟩
/-- 14, R516: MPU_STATUS.TAG_BUSY. -/
def Reg.MPU_STATUS.TAG_BUSY : Fld := ⟨531, 1, fun _ => 0⟩
/-- 14, R516: MPU_STATUS.TAG_ERR. -/
def Reg.MPU_STATUS.TAG_ERR : Fld := ⟨532, 1, fun _ => 0⟩
/-- 14, R516: MPU_STATUS.RGN_WR_IGNORED. -/
def Reg.MPU_STATUS.RGN_WR_IGNORED : Fld := ⟨533, 1, fun _ => 0⟩
/-- 14, R516: MPU_STATUS.ENABLED. -/
def Reg.MPU_STATUS.ENABLED : Fld := ⟨534, 5, fun _ => 0⟩
/-- 14, R516: MPU_FAULT.VALID. -/
def Reg.MPU_FAULT.VALID : Fld := ⟨535, 1, fun _ => 0⟩
/-- 14, R516: MPU_FAULT.OVER. -/
def Reg.MPU_FAULT.OVER : Fld := ⟨536, 1, fun _ => 0⟩
/-- 14, R516: MPU_FAULT.REGION2. -/
def Reg.MPU_FAULT.REGION2 : Fld := ⟨537, 4, fun _ => 0⟩
/-- 14, R516: MPU_FAULT.REGION. -/
def Reg.MPU_FAULT.REGION : Fld := ⟨538, 4, fun _ => 0⟩
/-- 14, R516: MPU_FAULT.CAUSE. -/
def Reg.MPU_FAULT.CAUSE : Fld := ⟨539, 4, fun _ => 0⟩
/-- 14, R516: MPU_FAULT.ACCESS. -/
def Reg.MPU_FAULT.ACCESS : Fld := ⟨540, 2, fun _ => 0⟩
/-- 14, R516: MPU_FAULT.PRIV. -/
def Reg.MPU_FAULT.PRIV : Fld := ⟨541, 1, fun _ => 0⟩
/-- 14, R516: MPU_FAULT_ADDR.ADDR. -/
def Reg.MPU_FAULT_ADDR.ADDR : Fld := ⟨542, 32, fun _ => 0⟩
/-- 14, R516: MPU_TAG_ADDR.ADDR. -/
def Reg.MPU_TAG_ADDR.ADDR : Fld := ⟨543, 26, fun _ => 0⟩
/-- 14, R516: MPU_TAG_SET.GO. -/
def Reg.MPU_TAG_SET.GO : Fld := ⟨544, 1, fun _ => 0⟩
/-- 14, R516: MPU_TAG_SET.COLOUR. -/
def Reg.MPU_TAG_SET.COLOUR : Fld := ⟨545, 4, fun _ => 0⟩
/-- 14, R516: MPU_TAG_SET.COUNT. -/
def Reg.MPU_TAG_SET.COUNT : Fld := ⟨546, 13, fun _ => 0⟩
/-- 14, R516: MPU_TAG_GET.COLOUR. -/
def Reg.MPU_TAG_GET.COLOUR : Fld := ⟨547, 4, fun _ => 0⟩
/-- 14, R516: MPU_RGN_BASE.ADDR. -/
def Reg.MPU_RGN_BASE.ADDR : Fld := ⟨548, 26, fun _ => 0⟩
/-- 14, R516: MPU_RGN_LIMIT.ADDR. -/
def Reg.MPU_RGN_LIMIT.ADDR : Fld := ⟨549, 26, fun _ => 0⟩
/-- 14, R516: MPU_RGN_ATTR.EN. -/
def Reg.MPU_RGN_ATTR.EN : Fld := ⟨550, 1, fun _ => 0⟩
/-- 14, R516: MPU_RGN_ATTR.COLOUR. -/
def Reg.MPU_RGN_ATTR.COLOUR : Fld := ⟨551, 4, fun _ => 0⟩
/-- 14, R516: MPU_RGN_ATTR.SX. -/
def Reg.MPU_RGN_ATTR.SX : Fld := ⟨552, 1, fun _ => 0⟩
/-- 14, R516: MPU_RGN_ATTR.SW. -/
def Reg.MPU_RGN_ATTR.SW : Fld := ⟨553, 1, fun _ => 0⟩
/-- 14, R516: MPU_RGN_ATTR.SR. -/
def Reg.MPU_RGN_ATTR.SR : Fld := ⟨554, 1, fun _ => 0⟩
/-- 14, R516: MPU_RGN_ATTR.UX. -/
def Reg.MPU_RGN_ATTR.UX : Fld := ⟨555, 1, fun _ => 0⟩
/-- 14, R516: MPU_RGN_ATTR.UW. -/
def Reg.MPU_RGN_ATTR.UW : Fld := ⟨556, 1, fun _ => 0⟩
/-- 14, R516: MPU_RGN_ATTR.UR. -/
def Reg.MPU_RGN_ATTR.UR : Fld := ⟨557, 1, fun _ => 0⟩
/-- 14, R517: FWL_CTRL.COMMIT. -/
def Reg.FWL_CTRL.COMMIT : Fld := ⟨558, 1, fun _ => 0⟩
/-- 14, R517: FWL_STATUS.BUSY. -/
def Reg.FWL_STATUS.BUSY : Fld := ⟨559, 1, fun _ => 0⟩
/-- 14, R517: FWL_STATUS.LATE. -/
def Reg.FWL_STATUS.LATE : Fld := ⟨560, 8, fun _ => 0⟩
/-- 14, R517: FWL_STATUS.COMMITS. -/
def Reg.FWL_STATUS.COMMITS : Fld := ⟨561, 16, fun _ => 0⟩
/-- 14, R517: FWL_STG_LOW.ADDR. -/
def Reg.FWL_STG_LOW.ADDR : Fld := ⟨562, 12, fun _ => 576⟩
/-- 14, R517: FWL_EVENT.LATE. -/
def Reg.FWL_EVENT.LATE : Fld := ⟨563, 1, fun _ => 0⟩
/-- 14, R517: FWL_EVENT.COMMIT. -/
def Reg.FWL_EVENT.COMMIT : Fld := ⟨564, 1, fun _ => 0⟩
/-- 14, R517: FWL_EVENT.DENY. -/
def Reg.FWL_EVENT.DENY : Fld := ⟨565, 1, fun _ => 0⟩
/-- 14, R517: FWL_EVENT_EN.EN. -/
def Reg.FWL_EVENT_EN.EN : Fld := ⟨566, 3, fun _ => 0⟩
/-- 14, R517: FWL_DENY_COUNT.COUNT. -/
def Reg.FWL_DENY_COUNT.COUNT : Fld := ⟨567, 32, fun _ => 0⟩
/-- 14, R517: FWL_DENY_HEAD.NEXT. -/
def Reg.FWL_DENY_HEAD.NEXT : Fld := ⟨568, 4, fun _ => 0⟩
/-- 14, R517: FWL_DENY_ADDR.ADDR. -/
def Reg.FWL_DENY_ADDR.ADDR : Fld := ⟨569, 32, fun _ => 0⟩
/-- 14, R517: FWL_DENY_INFO.TICKS. -/
def Reg.FWL_DENY_INFO.TICKS : Fld := ⟨570, 16, fun _ => 0⟩
/-- 14, R517: FWL_DENY_INFO.RULE. -/
def Reg.FWL_DENY_INFO.RULE : Fld := ⟨571, 8, fun _ => 0⟩
/-- 14, R517: FWL_DENY_INFO.WRITE. -/
def Reg.FWL_DENY_INFO.WRITE : Fld := ⟨572, 1, fun _ => 0⟩
/-- 14, R517: FWL_DENY_INFO.MASTER. -/
def Reg.FWL_DENY_INFO.MASTER : Fld := ⟨573, 4, fun _ => 0⟩
/-- 14, R517: FWL_SWIN_BASE.PAGE. -/
def Reg.FWL_SWIN_BASE.PAGE : Fld := ⟨574, 20, fun _ => 0⟩
/-- 14, R517: FWL_SWIN_BASE.EN. -/
def Reg.FWL_SWIN_BASE.EN : Fld := ⟨575, 1, fun _ => 0⟩
/-- 14, R517: FWL_SWIN_LIMIT.PAGE. -/
def Reg.FWL_SWIN_LIMIT.PAGE : Fld := ⟨576, 20, fun _ => 0⟩
/-- 14, R517: FWL_SWIN_PERM.RMASK. -/
def Reg.FWL_SWIN_PERM.RMASK : Fld := ⟨577, 16, fun _ => 0⟩
/-- 14, R517: FWL_SWIN_PERM.WMASK. -/
def Reg.FWL_SWIN_PERM.WMASK : Fld := ⟨578, 16, fun _ => 0⟩
/-- 15, R542: EFL_IF_STATUS.BUSY. -/
def Reg.EFL_IF_STATUS.BUSY : Fld := ⟨579, 1, fun _ => 0⟩
/-- 15, R542: EFL_IF_STATUS.WAIT. -/
def Reg.EFL_IF_STATUS.WAIT : Fld := ⟨580, 1, fun _ => 0⟩
/-- 15, R542: EFL_IF_STATUS.LASTOP. -/
def Reg.EFL_IF_STATUS.LASTOP : Fld := ⟨581, 3, fun _ => 0⟩
/-- 15, R542: EFL_IF_STATUS.ERR. -/
def Reg.EFL_IF_STATUS.ERR : Fld := ⟨582, 4, fun _ => 0⟩
/-- 15, R542: EFL_IF_CMD.OP. -/
def Reg.EFL_IF_CMD.OP : Fld := ⟨583, 3, fun _ => 0⟩
/-- 15, R542: EFL_IF_ADDR.ADDR. -/
def Reg.EFL_IF_ADDR.ADDR : Fld := ⟨584, 23, fun _ => 0⟩
/-- 15, R542: EFL_IF_WDATA.DATA. -/
def Reg.EFL_IF_WDATA.DATA : Fld := ⟨585, 32, fun _ => 0⟩
/-- 15, R542: EFL_BANK_STATUS.STATE. -/
def Reg.EFL_BANK_STATUS.STATE : Fld := ⟨586, 3, fun _ => 0⟩
/-- 15, R542: EFL_BANK_STATUS.SUSIF. -/
def Reg.EFL_BANK_STATUS.SUSIF : Fld := ⟨587, 1, fun _ => 0⟩
/-- 15, R542: EFL_BANK_STATUS.EPULSES. -/
def Reg.EFL_BANK_STATUS.EPULSES : Fld := ⟨588, 5, fun _ => 0⟩
/-- 15, R542: EFL_BANK_STATUS.PULSES. -/
def Reg.EFL_BANK_STATUS.PULSES : Fld := ⟨589, 5, fun _ => 0⟩
/-- 15, R542: EFL_BANK_ECC.CORR. -/
def Reg.EFL_BANK_ECC.CORR : Fld := ⟨590, 16, fun _ => 0⟩
/-- 15, R542: EFL_BANK_ECC.UNCORR. -/
def Reg.EFL_BANK_ECC.UNCORR : Fld := ⟨591, 16, fun _ => 0⟩
/-- 15, R542: EFL_BANK_SUSADDR.ADDR. -/
def Reg.EFL_BANK_SUSADDR.ADDR : Fld := ⟨592, 23, fun _ => 0⟩
/-- 15, R542: EFL_EVENT.UNCORR. -/
def Reg.EFL_EVENT.UNCORR : Fld := ⟨593, 1, fun _ => 0⟩
/-- 15, R542: EFL_EVENT.REFRESH_BLOCKED. -/
def Reg.EFL_EVENT.REFRESH_BLOCKED : Fld := ⟨594, 1, fun _ => 0⟩
/-- 15, R542: EFL_EVENT.INCOMPLETE. -/
def Reg.EFL_EVENT.INCOMPLETE : Fld := ⟨595, 1, fun _ => 0⟩
/-- 15, R542: EFL_EVENT.ERASE_SLOW. -/
def Reg.EFL_EVENT.ERASE_SLOW : Fld := ⟨596, 1, fun _ => 0⟩
/-- 15, R542: EFL_EVENT.PULSE_HIGH. -/
def Reg.EFL_EVENT.PULSE_HIGH : Fld := ⟨597, 1, fun _ => 0⟩
/-- 15, R542: EFL_EVENT.FAIL. -/
def Reg.EFL_EVENT.FAIL : Fld := ⟨598, 1, fun _ => 0⟩
/-- 15, R542: EFL_EVENT.DONE. -/
def Reg.EFL_EVENT.DONE : Fld := ⟨599, 4, fun _ => 0⟩
/-- 15, R542: EFL_EVENT_EN.EN. -/
def Reg.EFL_EVENT_EN.EN : Fld := ⟨600, 11, fun _ => 0⟩
/-- 15, R542: EFL_WEAR.ADDR. -/
def Reg.EFL_WEAR.ADDR : Fld := ⟨601, 23, fun _ => 0⟩
/-- 15, R542: EFL_REFRESH.BLOCKED. -/
def Reg.EFL_REFRESH.BLOCKED : Fld := ⟨602, 11, fun _ => 0⟩
/-- 15, R542: EFL_REFRESH.NEXT. -/
def Reg.EFL_REFRESH.NEXT : Fld := ⟨603, 11, fun _ => 0⟩
/-- 15, R542: EFL_WP.WP. -/
def Reg.EFL_WP.WP : Fld := ⟨604, 32, fun _ => 0⟩
/-- 15, R542: EFL_INCOMPLETE.SECTOR. -/
def Reg.EFL_INCOMPLETE.SECTOR : Fld := ⟨605, 32, fun _ => 0⟩
/-- 16, R565: TMP_STATUS.SESSION. -/
def Reg.TMP_STATUS.SESSION : Fld := ⟨606, 2, fun _ => 0⟩
/-- 16, R565: TMP_STATUS.LOCK_FLAG. -/
def Reg.TMP_STATUS.LOCK_FLAG : Fld := ⟨607, 1, fun _ => 0⟩
/-- 16, R565: TMP_STATUS.TESTING. -/
def Reg.TMP_STATUS.TESTING : Fld := ⟨608, 1, fun _ => 0⟩
/-- 16, R565: TMP_STATUS.K. -/
def Reg.TMP_STATUS.K : Fld := ⟨609, 4, fun _ => 0⟩
/-- 16, R565: TMP_STATUS.N. -/
def Reg.TMP_STATUS.N : Fld := ⟨610, 4, fun _ => 0⟩
/-- 16, R565: TMP_STATUS.COUNTED. -/
def Reg.TMP_STATUS.COUNTED : Fld := ⟨611, 4, fun _ => 0⟩
/-- 16, R565: TMP_ALARM.ALARM. -/
def Reg.TMP_ALARM.ALARM : Fld := ⟨612, 20, fun _ => 0⟩
/-- 16, R565: TMP_LATCHED.LATCHED. -/
def Reg.TMP_LATCHED.LATCHED : Fld := ⟨613, 20, fun _ => 0⟩
/-- 16, R565: TMP_DISAGREE.SRC. -/
def Reg.TMP_DISAGREE.SRC : Fld := ⟨614, 20, fun _ => 0⟩
/-- 16, R565: TMP_TESTFAIL.SRC. -/
def Reg.TMP_TESTFAIL.SRC : Fld := ⟨615, 20, fun _ => 0⟩
/-- 16, R565: TMP_CTRL.TEST. -/
def Reg.TMP_CTRL.TEST : Fld := ⟨616, 1, fun _ => 0⟩
/-- 16, R565: TMP_PERIOD.TICKS. -/
def Reg.TMP_PERIOD.TICKS : Fld := ⟨617, 17, fun _ => 8192⟩
/-- 16, R565: TMP_TEMP.A. -/
def Reg.TMP_TEMP.A : Fld := ⟨618, 16, fun _ => 0⟩
/-- 16, R565: TMP_TEMP.B. -/
def Reg.TMP_TEMP.B : Fld := ⟨619, 16, fun _ => 0⟩
/-- 16, R565: TMP_COUNT.COUNT. -/
def Reg.TMP_COUNT.COUNT : Fld := ⟨620, 32, fun _ => 0⟩
/-- 16, R565: TMP_SESSION_LEFT.SECONDS. -/
def Reg.TMP_SESSION_LEFT.SECONDS : Fld := ⟨621, 12, fun _ => 0⟩
/-- 16, R565: TMP_LOG_HEAD.LOST. -/
def Reg.TMP_LOG_HEAD.LOST : Fld := ⟨622, 8, fun _ => 0⟩
/-- 16, R565: TMP_LOG_HEAD.NEXT. -/
def Reg.TMP_LOG_HEAD.NEXT : Fld := ⟨623, 8, fun _ => 0⟩
/-- 16, R565: TMP_EVENT.SESSION. -/
def Reg.TMP_EVENT.SESSION : Fld := ⟨624, 1, fun _ => 0⟩
/-- 16, R565: TMP_EVENT.TESTFAIL. -/
def Reg.TMP_EVENT.TESTFAIL : Fld := ⟨625, 1, fun _ => 0⟩
/-- 16, R565: TMP_EVENT.DISAGREE. -/
def Reg.TMP_EVENT.DISAGREE : Fld := ⟨626, 1, fun _ => 0⟩
/-- 16, R565: TMP_EVENT.LOCK. -/
def Reg.TMP_EVENT.LOCK : Fld := ⟨627, 1, fun _ => 0⟩
/-- 16, R565: TMP_EVENT.ALARM. -/
def Reg.TMP_EVENT.ALARM : Fld := ⟨628, 1, fun _ => 0⟩
/-- 16, R565: TMP_EVENT_EN.EN. -/
def Reg.TMP_EVENT_EN.EN : Fld := ⟨629, 5, fun _ => 0⟩
/-- 16, R565: TMP_ACTIONS.FLOOR. -/
def Reg.TMP_ACTIONS.FLOOR : Fld := ⟨630, 5, fun s => tamperFloor s⟩
/-- 16, R565: TMP_ACTIONS.SET. -/
def Reg.TMP_ACTIONS.SET : Fld := ⟨631, 5, fun s => tamperDefault s⟩
/-- 16, R565: TMP_LOOP.SENT. -/
def Reg.TMP_LOOP.SENT : Fld := ⟨632, 8, fun _ => 0⟩
/-- 16, R565: TMP_LOOP.SEEN. -/
def Reg.TMP_LOOP.SEEN : Fld := ⟨633, 8, fun _ => 0⟩
/-- 17, R586: CRD_STATUS.PRESENT. -/
def Reg.CRD_STATUS.PRESENT : Fld := ⟨634, 1, fun _ => 0⟩
/-- 17, R586: CRD_STATUS.ACTIVE. -/
def Reg.CRD_STATUS.ACTIVE : Fld := ⟨635, 1, fun _ => 0⟩
/-- 17, R586: CRD_STATUS.CLASS. -/
def Reg.CRD_STATUS.CLASS : Fld := ⟨636, 2, fun _ => 0⟩
/-- 17, R586: CRD_STATUS.CLKSTOP. -/
def Reg.CRD_STATUS.CLKSTOP : Fld := ⟨637, 1, fun _ => 0⟩
/-- 17, R586: CRD_STATUS.STOPOK. -/
def Reg.CRD_STATUS.STOPOK : Fld := ⟨638, 1, fun _ => 0⟩
/-- 17, R586: CRD_STATUS.PURPOSE. -/
def Reg.CRD_STATUS.PURPOSE : Fld := ⟨639, 2, fun _ => 0⟩
/-- 17, R586: CRD_STATUS.PPS1. -/
def Reg.CRD_STATUS.PPS1 : Fld := ⟨640, 8, fun _ => 0⟩
/-- 17, R586: CRD_STATUS.ATRLEN. -/
def Reg.CRD_STATUS.ATRLEN : Fld := ⟨641, 6, fun _ => 0⟩
/-- 17, R586: CRD_STATUS.DIV. -/
def Reg.CRD_STATUS.DIV : Fld := ⟨642, 8, fun _ => 28⟩
/-- 17, R586: CRD_CTRL.DEACT. -/
def Reg.CRD_CTRL.DEACT : Fld := ⟨643, 1, fun _ => 0⟩
/-- 17, R586: CRD_SET_CTRL.K. -/
def Reg.CRD_SET_CTRL.K : Fld := ⟨644, 3, fun _ => 0⟩
/-- 17, R586: CRD_SET_CTRL.IDX. -/
def Reg.CRD_SET_CTRL.IDX : Fld := ⟨645, 3, fun _ => 0⟩
/-- 17, R586: CRD_SET_CTRL.OP. -/
def Reg.CRD_SET_CTRL.OP : Fld := ⟨646, 2, fun _ => 0⟩
/-- 17, R586: CRD_SET_STATUS.BUSY. -/
def Reg.CRD_SET_STATUS.BUSY : Fld := ⟨647, 1, fun _ => 0⟩
/-- 17, R586: CRD_SET_STATUS.SN. -/
def Reg.CRD_SET_STATUS.SN : Fld := ⟨648, 4, fun _ => 0⟩
/-- 17, R586: CRD_SET_STATUS.STAGED. -/
def Reg.CRD_SET_STATUS.STAGED : Fld := ⟨649, 8, fun _ => 0⟩
/-- 17, R586: CRD_SET_STATUS.RESULT. -/
def Reg.CRD_SET_STATUS.RESULT : Fld := ⟨650, 16, fun _ => 0⟩
/-- 17, R586: CRD_RESULT.COUNTED. -/
def Reg.CRD_RESULT.COUNTED : Fld := ⟨651, 1, fun _ => 0⟩
/-- 17, R586: CRD_RESULT.FAILED. -/
def Reg.CRD_RESULT.FAILED : Fld := ⟨652, 1, fun _ => 0⟩
/-- 17, R586: CRD_RESULT.INDEX. -/
def Reg.CRD_RESULT.INDEX : Fld := ⟨653, 8, fun _ => 255⟩
/-- 17, R586: CRD_RESULT.STATUS. -/
def Reg.CRD_RESULT.STATUS : Fld := ⟨654, 16, fun _ => 0⟩
/-- 17, R586: CRD_ERRS.FRAMING. -/
def Reg.CRD_ERRS.FRAMING : Fld := ⟨655, 16, fun _ => 0⟩
/-- 17, R586: CRD_ERRS.REPEATS. -/
def Reg.CRD_ERRS.REPEATS : Fld := ⟨656, 16, fun _ => 0⟩
/-- 17, R586: CRD_ATR.DATA. -/
def Reg.CRD_ATR.DATA : Fld := ⟨657, 32, fun _ => 0⟩
/-- 17, R586: CRD_EVENT.SET_DONE. -/
def Reg.CRD_EVENT.SET_DONE : Fld := ⟨658, 1, fun _ => 0⟩
/-- 17, R586: CRD_EVENT.ERROR. -/
def Reg.CRD_EVENT.ERROR : Fld := ⟨659, 1, fun _ => 0⟩
/-- 17, R586: CRD_EVENT.REMOVED. -/
def Reg.CRD_EVENT.REMOVED : Fld := ⟨660, 1, fun _ => 0⟩
/-- 17, R586: CRD_EVENT.EXCHANGE. -/
def Reg.CRD_EVENT.EXCHANGE : Fld := ⟨661, 1, fun _ => 0⟩
/-- 17, R586: CRD_EVENT.INSERTED. -/
def Reg.CRD_EVENT.INSERTED : Fld := ⟨662, 1, fun _ => 0⟩
/-- 17, R586: CRD_EVENT_EN.EN. -/
def Reg.CRD_EVENT_EN.EN : Fld := ⟨663, 5, fun _ => 0⟩
/-- 17, R586: CRD_CARD.CARDID. -/
def Reg.CRD_CARD.CARDID : Fld := ⟨664, 64, fun _ => 0⟩
/-- 17, R586: CRD_CARD_INFO.VALID. -/
def Reg.CRD_CARD_INFO.VALID : Fld := ⟨665, 1, fun _ => 0⟩
/-- 18, R605: NPL_STATUS.FIELD. -/
def Reg.NPL_STATUS.FIELD : Fld := ⟨666, 1, fun _ => 0⟩
/-- 18, R605: NPL_STATUS.SELECTED. -/
def Reg.NPL_STATUS.SELECTED : Fld := ⟨667, 1, fun _ => 0⟩
/-- 18, R605: NPL_STATUS.AUTH. -/
def Reg.NPL_STATUS.AUTH : Fld := ⟨668, 1, fun _ => 0⟩
/-- 18, R605: NPL_STATUS.KEYSET. -/
def Reg.NPL_STATUS.KEYSET : Fld := ⟨669, 1, fun _ => 0⟩
/-- 18, R605: NPL_STATUS.LOCKED_PAGE. -/
def Reg.NPL_STATUS.LOCKED_PAGE : Fld := ⟨670, 1, fun _ => 0⟩
/-- 18, R605: NPL_STATUS.PAGE. -/
def Reg.NPL_STATUS.PAGE : Fld := ⟨671, 4, fun _ => 0⟩
/-- 18, R605: NPL_UID.UID. -/
def Reg.NPL_UID.UID : Fld := ⟨672, 56, fun _ => Config.icCode % 256 + Config.serial % 2 ^ 48 * 256⟩
/-- 18, R605: NPL_KUPD.GO. -/
def Reg.NPL_KUPD.GO : Fld := ⟨673, 1, fun _ => 0⟩
/-- 18, R605: NPL_KUPD.PAGE. -/
def Reg.NPL_KUPD.PAGE : Fld := ⟨674, 2, fun _ => 0⟩
/-- 18, R605: NPL_PUPD.GO. -/
def Reg.NPL_PUPD.GO : Fld := ⟨675, 1, fun _ => 0⟩
/-- 18, R605: NPL_UPD_STATUS.KBUSY. -/
def Reg.NPL_UPD_STATUS.KBUSY : Fld := ⟨676, 1, fun _ => 0⟩
/-- 18, R605: NPL_UPD_STATUS.PBUSY. -/
def Reg.NPL_UPD_STATUS.PBUSY : Fld := ⟨677, 1, fun _ => 0⟩
/-- 18, R605: NPL_UPD_STATUS.ABUSY. -/
def Reg.NPL_UPD_STATUS.ABUSY : Fld := ⟨678, 1, fun _ => 0⟩
/-- 18, R605: NPL_UPD_STATUS.RBUSY. -/
def Reg.NPL_UPD_STATUS.RBUSY : Fld := ⟨679, 1, fun _ => 0⟩
/-- 18, R605: NPL_UPD_STATUS.LOCKMAX. -/
def Reg.NPL_UPD_STATUS.LOCKMAX : Fld := ⟨680, 16, fun _ => 0⟩
/-- 18, R605: NPL_KEY.KEY. -/
def Reg.NPL_KEY.KEY : Fld := ⟨681, 32, fun _ => 0⟩
/-- 18, R605: NPL_KEY_CTRL.CLEAR. -/
def Reg.NPL_KEY_CTRL.CLEAR : Fld := ⟨682, 1, fun _ => 0⟩
/-- 18, R605: NPL_KEY_CTRL.SET. -/
def Reg.NPL_KEY_CTRL.SET : Fld := ⟨683, 1, fun _ => 0⟩
/-- 18, R605: NPL_VER.COPY. -/
def Reg.NPL_VER.COPY : Fld := ⟨684, 1, fun _ => 0⟩
/-- 18, R605: NPL_VER.VER. -/
def Reg.NPL_VER.VER : Fld := ⟨685, 16, fun _ => 0⟩
/-- 18, R605: NPL_AUTH_CTR.CTR. -/
def Reg.NPL_AUTH_CTR.CTR : Fld := ⟨686, 32, fun _ => 0⟩
/-- 18, R605: NPL_AUTH_FAIL.COUNT. -/
def Reg.NPL_AUTH_FAIL.COUNT : Fld := ⟨687, 32, fun _ => 0⟩
/-- 18, R605: NPL_MEMO_WRITES.COUNT. -/
def Reg.NPL_MEMO_WRITES.COUNT : Fld := ⟨688, 32, fun _ => 0⟩
/-- 18, R605: NPL_EVENT.UPDATE_DONE. -/
def Reg.NPL_EVENT.UPDATE_DONE : Fld := ⟨689, 1, fun _ => 0⟩
/-- 18, R605: NPL_EVENT.KEY_REFUSED. -/
def Reg.NPL_EVENT.KEY_REFUSED : Fld := ⟨690, 1, fun _ => 0⟩
/-- 18, R605: NPL_EVENT.MEMO_WRITTEN. -/
def Reg.NPL_EVENT.MEMO_WRITTEN : Fld := ⟨691, 1, fun _ => 0⟩
/-- 18, R605: NPL_EVENT.AUTH_FAIL. -/
def Reg.NPL_EVENT.AUTH_FAIL : Fld := ⟨692, 1, fun _ => 0⟩
/-- 18, R605: NPL_EVENT.AUTH_OK. -/
def Reg.NPL_EVENT.AUTH_OK : Fld := ⟨693, 1, fun _ => 0⟩
/-- 18, R605: NPL_EVENT.FIELD_ON. -/
def Reg.NPL_EVENT.FIELD_ON : Fld := ⟨694, 1, fun _ => 0⟩
/-- 18, R605: NPL_EVENT_EN.EN. -/
def Reg.NPL_EVENT_EN.EN : Fld := ⟨695, 6, fun _ => 0⟩
/-- 18, R605: NPL_RD_CTRL.GO. -/
def Reg.NPL_RD_CTRL.GO : Fld := ⟨696, 1, fun _ => 0⟩
/-- 18, R605: NPL_RD_CTRL.PAGE. -/
def Reg.NPL_RD_CTRL.PAGE : Fld := ⟨697, 4, fun _ => 0⟩
/-- 18, R605: NPL_KBUF.DATA. -/
def Reg.NPL_KBUF.DATA : Fld := ⟨698, 32, fun _ => 0⟩
/-- 18, R605: NPL_PBUF.DATA. -/
def Reg.NPL_PBUF.DATA : Fld := ⟨699, 32, fun _ => 0⟩
/-- 18, R605: NPL_RBUF.DATA. -/
def Reg.NPL_RBUF.DATA : Fld := ⟨700, 32, fun _ => 0⟩
/-- 19, R629: SBD_STATUS.SMB_ON. -/
def Reg.SBD_STATUS.SMB_ON : Fld := ⟨701, 1, fun _ => 0⟩
/-- 19, R629: SBD_STATUS.PERST_A. -/
def Reg.SBD_STATUS.PERST_A : Fld := ⟨702, 1, fun _ => 0⟩
/-- 19, R629: SBD_STATUS.PERST_B. -/
def Reg.SBD_STATUS.PERST_B : Fld := ⟨703, 1, fun _ => 0⟩
/-- 19, R629: SBD_STATUS.PWR_GOOD. -/
def Reg.SBD_STATUS.PWR_GOOD : Fld := ⟨704, 1, fun _ => 0⟩
/-- 19, R629: SBD_STATUS.UART_ON. -/
def Reg.SBD_STATUS.UART_ON : Fld := ⟨705, 1, fun _ => 0⟩
/-- 19, R629: SBD_STATUS.TAP_ON. -/
def Reg.SBD_STATUS.TAP_ON : Fld := ⟨706, 1, fun _ => 0⟩
/-- 19, R629: SBD_STATUS.ADDR. -/
def Reg.SBD_STATUS.ADDR : Fld := ⟨707, 7, fun _ => 92⟩
/-- 19, R629: SBD_EVENT.PERST_B. -/
def Reg.SBD_EVENT.PERST_B : Fld := ⟨708, 1, fun _ => 0⟩
/-- 19, R629: SBD_EVENT.PERST_A. -/
def Reg.SBD_EVENT.PERST_A : Fld := ⟨709, 1, fun _ => 0⟩
/-- 19, R629: SBD_EVENT.SMB_TIMEOUT. -/
def Reg.SBD_EVENT.SMB_TIMEOUT : Fld := ⟨710, 1, fun _ => 0⟩
/-- 19, R629: SBD_EVENT.SMB_ERR. -/
def Reg.SBD_EVENT.SMB_ERR : Fld := ⟨711, 1, fun _ => 0⟩
/-- 19, R629: SBD_EVENT_EN.EN. -/
def Reg.SBD_EVENT_EN.EN : Fld := ⟨712, 4, fun _ => 0⟩
/-- 19, R629: SBD_SMB_READS.COUNT. -/
def Reg.SBD_SMB_READS.COUNT : Fld := ⟨713, 32, fun _ => 0⟩
/-- 21, R641: QMS_DLG.ASSAY. -/
def Reg.QMS_DLG.ASSAY : Fld := ⟨714, 8, fun _ => 0⟩
/-- 21, R641: QMS_DLG.READ. -/
def Reg.QMS_DLG.READ : Fld := ⟨715, 8, fun _ => 0⟩
/-- 21, R641: QMS_DLG.WRITE. -/
def Reg.QMS_DLG.WRITE : Fld := ⟨716, 8, fun _ => 0⟩
/-- 21, R641: QMS_DLG_STALL.STALL. -/
def Reg.QMS_DLG_STALL.STALL : Fld := ⟨717, 32, fun _ => 0⟩
/-- 21, R641: QMS_POOL.SIZE. -/
def Reg.QMS_POOL.SIZE : Fld := ⟨718, 8, fun c => if c = 0 then 58 else if c = 1 then 4 else 2⟩
/-- 21, R641: QMS_POOL.OCC. -/
def Reg.QMS_POOL.OCC : Fld := ⟨719, 17, fun _ => 0⟩
/-- 21, R641: QMS_POOL_STALL.STALL. -/
def Reg.QMS_POOL_STALL.STALL : Fld := ⟨720, 32, fun _ => 0⟩
/-- 21, R641: QMS_POOL_LENT.ASSAY. -/
def Reg.QMS_POOL_LENT.ASSAY : Fld := ⟨721, 16, fun _ => 0⟩
/-- 21, R641: QMS_POOL_LENT.READ. -/
def Reg.QMS_POOL_LENT.READ : Fld := ⟨722, 16, fun _ => 0⟩
/-- 14, R517: FWL_AWIN_BASE.PAGE. -/
def Reg.FWL_AWIN_BASE.PAGE : Fld := ⟨723, 20, fun _ => 0⟩
/-- 14, R517: FWL_AWIN_BASE.EN. -/
def Reg.FWL_AWIN_BASE.EN : Fld := ⟨724, 1, fun _ => 0⟩
/-- 14, R517: FWL_AWIN_LIMIT.PAGE. -/
def Reg.FWL_AWIN_LIMIT.PAGE : Fld := ⟨725, 20, fun _ => 0⟩
/-- 14, R517: FWL_AWIN_PERM.RMASK. -/
def Reg.FWL_AWIN_PERM.RMASK : Fld := ⟨726, 16, fun _ => 0⟩
/-- 14, R517: FWL_AWIN_PERM.WMASK. -/
def Reg.FWL_AWIN_PERM.WMASK : Fld := ⟨727, 16, fun _ => 0⟩
/-- 02, R96: PEER_STATUS.OVERRUN. -/
def Reg.PEER_STATUS.OVERRUN : Fld := ⟨728, 1, fun _ => 0⟩
/-- 02, R96: PEER_CTRL.ACK. -/
def Reg.PEER_CTRL.ACK : Fld := ⟨729, 1, fun _ => 0⟩
/-- 02, R96: PEER_CTRL.POST. -/
def Reg.PEER_CTRL.POST : Fld := ⟨730, 1, fun _ => 0⟩

/-- The fields that a function reset returns to their reset values, with how many indices each has per function. -/
def functionFields : List (Nat × Nat) := [
  (0, 64), (1, 64), (2, 16), (3, 16), (4, 1), (5, 1), (6, 1), (7, 1), (8, 1), (9, 1), (10, 1), (11, 1), (12, 1), (13, 1), (14, 1), (15, 1),
  (16, 1), (17, 1), (18, 1), (19, 1), (20, 1), (21, 1), (22, 1), (23, 1), (24, 1), (25, 1), (26, 8), (27, 8), (28, 8), (29, 8), (30, 64), (31, 64),
  (32, 64), (33, 64), (34, 64), (35, 64), (36, 64), (37, 64), (38, 64), (39, 64), (40, 64), (41, 64), (42, 64), (728, 1), (729, 1), (730, 1)]

/-- The reset type of each field by its number: 0 function, 1 warm, 2 cold, 3 AON, 4 kept through every reset (R13). -/
def fieldResetTypes : List Nat := [
  0, 0, 0, 0, 0, 0, 0, 0, 0, 0, 0, 0, 0, 0, 0, 0, 0, 0, 0, 0, 0, 0, 0, 0, 0, 0, 0, 0, 0, 0, 0, 0, 0, 0, 0, 0, 0, 0, 0, 0,
  0, 0, 0, 1, 1, 1, 1, 1, 1, 1, 1, 1, 1, 1, 1, 1, 1, 1, 1, 1, 1, 1, 1, 1, 1, 1, 1, 1, 1, 2, 2, 4, 1, 1, 1, 1, 4, 1, 1, 1,
  4, 4, 2, 2, 2, 2, 2, 2, 2, 2, 1, 1, 1, 1, 1, 1, 1, 1, 1, 1, 4, 1, 1, 1, 1, 2, 2, 1, 1, 2, 2, 2, 1, 1, 1, 1, 1, 1, 1, 1,
  1, 1, 1, 2, 2, 2, 2, 2, 2, 2, 2, 1, 1, 1, 1, 1, 1, 1, 1, 1, 1, 1, 1, 1, 1, 4, 2, 2, 2, 2, 2, 2, 2, 2, 2, 2, 4, 4, 4, 4,
  2, 4, 1, 1, 1, 1, 1, 1, 1, 1, 1, 1, 1, 2, 4, 4, 2, 4, 4, 1, 1, 1, 1, 1, 1, 1, 1, 4, 1, 1, 1, 1, 1, 4, 4, 4, 2, 1, 1, 1,
  1, 1, 1, 1, 1, 4, 2, 2, 2, 2, 1, 1, 1, 2, 2, 1, 1, 4, 1, 1, 1, 1, 1, 2, 1, 1, 1, 1, 1, 1, 1, 1, 1, 1, 1, 1, 1, 1, 1, 1,
  1, 1, 1, 1, 1, 1, 1, 1, 1, 1, 1, 1, 1, 1, 1, 1, 1, 1, 1, 1, 1, 1, 1, 1, 1, 1, 1, 1, 1, 1, 1, 1, 1, 1, 1, 1, 1, 1, 1, 1,
  1, 1, 1, 1, 1, 4, 4, 4, 4, 4, 4, 4, 4, 4, 4, 4, 2, 1, 1, 1, 1, 1, 1, 1, 1, 1, 2, 2, 4, 4, 4, 1, 4, 1, 1, 1, 1, 1, 1, 1,
  1, 1, 1, 1, 1, 1, 1, 1, 1, 1, 1, 1, 1, 1, 1, 1, 1, 1, 1, 1, 1, 1, 1, 1, 1, 2, 2, 2, 2, 1, 1, 1, 1, 1, 1, 1, 1, 1, 1, 1,
  1, 1, 1, 1, 1, 1, 1, 1, 1, 1, 1, 1, 1, 1, 1, 1, 1, 1, 1, 1, 1, 1, 4, 1, 1, 1, 1, 1, 1, 1, 1, 1, 1, 1, 1, 1, 1, 1, 2, 2,
  2, 2, 2, 4, 2, 2, 2, 2, 2, 2, 2, 4, 3, 3, 3, 3, 3, 3, 3, 3, 3, 3, 3, 3, 3, 3, 3, 3, 3, 3, 3, 3, 3, 3, 3, 3, 3, 3, 3, 3,
  3, 3, 3, 3, 3, 3, 3, 3, 3, 1, 1, 1, 1, 1, 1, 1, 1, 2, 2, 2, 2, 2, 2, 2, 3, 1, 1, 1, 1, 1, 1, 1, 1, 1, 1, 1, 1, 1, 1, 1,
  1, 1, 1, 1, 1, 1, 1, 1, 1, 1, 1, 1, 4, 2, 2, 2, 2, 2, 2, 4, 4, 1, 1, 1, 1, 1, 1, 1, 1, 1, 1, 1, 1, 1, 1, 1, 1, 1, 1, 1,
  1, 1, 1, 1, 1, 1, 1, 1, 1, 1, 1, 1, 1, 1, 1, 1, 1, 1, 1, 1, 1, 1, 1, 1, 1, 1, 1, 1, 1, 1, 1, 1, 1, 1, 1, 1, 1, 1, 1, 1,
  1, 1, 1, 1, 1, 1, 1, 1, 1, 1, 1, 1, 1, 1, 1, 1, 1, 1, 1, 1, 1, 1, 1, 1, 1, 1, 1, 1, 1, 1, 1, 1, 1, 1, 1, 1, 1, 1, 1, 1,
  1, 1, 1, 4, 2, 4, 3, 3, 3, 3, 3, 3, 3, 3, 3, 3, 1, 3, 3, 3, 4, 1, 3, 3, 1, 1, 1, 1, 1, 1, 3, 3, 3, 3, 1, 1, 1, 1, 1, 1,
  1, 1, 1, 1, 1, 1, 1, 1, 1, 1, 1, 1, 1, 1, 1, 1, 1, 1, 1, 1, 1, 1, 1, 1, 4, 4, 1, 1, 1, 4, 1, 1, 4, 1, 1, 1, 1, 1, 1, 1,
  1, 1, 1, 1, 4, 4, 4, 4, 4, 1, 1, 1, 1, 1, 1, 1, 1, 1, 1, 1, 1, 1, 1, 1, 1, 1, 1, 1, 1, 1, 1, 1, 1, 1, 1, 1, 1, 1, 1, 1,
  1, 1, 1, 1, 1, 1, 1, 1, 0, 0, 0]

end Sys2Proof.Machine
end

