-- ==== Sys2Proof/Machine/RegisterMap.lean ====
section
/-!
DEFINITION. Machine/RegisterMap.lean: where each register stands (21, R638, R639): address, array strides, width, reset type, and
the place and access type of each of its fields. Function windows stand at 0x1_0000_0000 + function x 0x1_0000 and the private
ICU banks at 0x2_0000_0000 + core x 0x1_0000 (model addresses: the spec gives each its own space).
-/

namespace Sys2Proof.Machine

/-- Access types of R10 (`rwz`: a write of 0 clears the field and other writes are ignored, R32). -/
inductive Acc where
  | ro | rw | w1c | wo | rws | rwz
  deriving DecidableEq, Repr, Inhabited

/-- The reset types of R13 that a register can name. -/
inductive RstType where
  | fn | warm | cold | aon
  deriving DecidableEq, Repr, Inhabited

/-- A field in its register: which field, its lowest bit, its access type. -/
structure RegField where
  fld : Fld
  lo : Nat
  acc : Acc

/-- A register of the spec (an array of registers, where `dims` lists count and stride). -/
structure RegDef where
  name : String
  base : Nat
  dims : List (Nat × Nat)
  width : Nat
  rst : RstType
  fields : List RegField
  deriving Inhabited

/-- Registers of spec file 02, part 1. -/
def regs02_0 : List RegDef := [
  ⟨"FN_SQT", 0x100000000, [(256, 0x10000), (64, 0x8)], 32, .fn, [⟨Reg.FN_SQT.TAIL, 0, .wo⟩]⟩,
  ⟨"FN_CQH", 0x100000004, [(256, 0x10000), (64, 0x8)], 32, .fn, [⟨Reg.FN_CQH.HEAD, 0, .wo⟩]⟩,
  ⟨"MBX_OUT", 0x100001000, [(256, 0x10000), (16, 0x4)], 32, .fn, [⟨Reg.MBX_OUT.DATA, 0, .rw⟩]⟩,
  ⟨"MBX_IN", 0x100001040, [(256, 0x10000), (16, 0x4)], 32, .fn, [⟨Reg.MBX_IN.DATA, 0, .ro⟩]⟩,
  ⟨"MBX_STATUS", 0x100001080, [(256, 0x10000)], 32, .fn, [⟨Reg.MBX_STATUS.OVERRUN, 2, .w1c⟩, ⟨Reg.MBX_STATUS.IN_FULL, 1, .ro⟩, ⟨Reg.MBX_STATUS.OUT_FULL, 0, .ro⟩]⟩,
  ⟨"MBX_CTRL", 0x100001084, [(256, 0x10000)], 32, .fn, [⟨Reg.MBX_CTRL.ACK, 1, .wo⟩, ⟨Reg.MBX_CTRL.POST, 0, .wo⟩]⟩,
  ⟨"FN_STATUS", 0x100002000, [(256, 0x10000)], 32, .fn, [⟨Reg.HIF_FN_CFG.QUOTA, 16, .ro⟩, ⟨Reg.HIF_FN_CFG.TENANT, 8, .ro⟩, ⟨Reg.FN_STATUS.POWER, 4, .ro⟩, ⟨Reg.FN_STATUS.LOCKED, 3, .ro⟩, ⟨Reg.HIF_FN_CFG.STATE, 0, .ro⟩]⟩,
  ⟨"FN_EVENT", 0x100002004, [(256, 0x10000)], 32, .fn, [⟨Reg.FN_EVENT.VF_RESET, 9, .w1c⟩, ⟨Reg.FN_EVENT.VF_MBX, 8, .w1c⟩, ⟨Reg.FN_EVENT.DLOG, 7, .w1c⟩, ⟨Reg.FN_EVENT.LOCK, 6, .w1c⟩, ⟨Reg.FN_EVENT.POWER, 5, .w1c⟩, ⟨Reg.FN_EVENT.EPOCH, 4, .w1c⟩, ⟨Reg.FN_EVENT.QIDLE, 3, .w1c⟩, ⟨Reg.FN_EVENT.QFAULT, 2, .w1c⟩, ⟨Reg.FN_EVENT.MBX_ACK, 1, .w1c⟩, ⟨Reg.FN_EVENT.MBX_IN, 0, .w1c⟩]⟩,
  ⟨"FN_EVENT_EN", 0x100002008, [(256, 0x10000)], 32, .fn, [⟨Reg.FN_EVENT_EN.EN, 0, .rw⟩]⟩,
  ⟨"FN_QFAULT", 0x100002010, [(256, 0x10000)], 64, .fn, [⟨Reg.FN_QFAULT.Q, 0, .ro⟩]⟩,
  ⟨"FN_DLOG_HEAD", 0x100002100, [(256, 0x10000), (8, 0x8)], 32, .fn, [⟨Reg.FN_DLOG_HEAD.HEAD, 0, .rw⟩]⟩,
  ⟨"FN_DLOG_STATUS", 0x100002104, [(256, 0x10000), (8, 0x8)], 32, .fn, [⟨Reg.FN_DLOG_STATUS.ACTIVE, 31, .ro⟩, ⟨Reg.FN_DLOG_STATUS.OVERFLOW, 30, .w1c⟩, ⟨Reg.FN_DLOG_STATUS.TAIL, 0, .ro⟩]⟩]

/-- Registers of spec file 02, part 2. -/
def regs02_1 : List RegDef := [
  ⟨"QSQ_BASE", 0x100003000, [(256, 0x10000), (64, 0x40)], 64, .fn, [⟨Reg.QSQ_BASE.ADDR, 6, .rw⟩]⟩,
  ⟨"QCQ_BASE", 0x100003008, [(256, 0x10000), (64, 0x40)], 64, .fn, [⟨Reg.QCQ_BASE.ADDR, 4, .rw⟩]⟩,
  ⟨"QSHADOW", 0x100003010, [(256, 0x10000), (64, 0x40)], 64, .fn, [⟨Reg.QSHADOW.ADDR, 3, .rw⟩]⟩,
  ⟨"QCTRL", 0x100003018, [(256, 0x10000), (64, 0x40)], 32, .fn, [⟨Reg.QCTRL.EN, 31, .rw⟩, ⟨Reg.QCTRL.RPV, 30, .rw⟩, ⟨Reg.QCTRL.FAULT, 27, .ro⟩, ⟨Reg.QCTRL.ACTIVE, 26, .ro⟩, ⟨Reg.QCTRL.VEC, 16, .rw⟩, ⟨Reg.QCTRL.DEPTH, 0, .rw⟩]⟩,
  ⟨"QCOAL", 0x10000301c, [(256, 0x10000), (64, 0x40)], 32, .fn, [⟨Reg.QCOAL.TIME, 16, .rw⟩, ⟨Reg.QCOAL.COUNT, 0, .rw⟩]⟩,
  ⟨"QSTATUS", 0x100003020, [(256, 0x10000), (64, 0x40)], 32, .fn, [⟨Reg.QSTATUS.CQTAIL, 16, .ro⟩, ⟨Reg.QSTATUS.SQHEAD, 0, .ro⟩]⟩,
  ⟨"HIF_PORT_STATUS", 0x40020000, [(2, 0x100)], 32, .warm, [⟨Reg.HIF_PORT_STATUS.LINK_UP, 31, .ro⟩, ⟨Reg.HIF_PORT_STATUS.FLIT, 30, .ro⟩, ⟨Reg.HIF_PORT_STATUS.RATE, 27, .ro⟩, ⟨Reg.HIF_PORT_STATUS.WIDTH, 16, .ro⟩, ⟨Reg.HIF_PORT_STATUS.NUMVFS, 0, .ro⟩]⟩,
  ⟨"HIF_PORT_ERR", 0x40020004, [(2, 0x100)], 32, .warm, [⟨Reg.HIF_PORT_ERR.UNEXP_CPL, 5, .w1c⟩, ⟨Reg.HIF_PORT_ERR.POISONED, 4, .w1c⟩, ⟨Reg.HIF_PORT_ERR.UR_CA, 3, .w1c⟩, ⟨Reg.HIF_PORT_ERR.CPL_TIMEOUT, 2, .w1c⟩, ⟨Reg.HIF_PORT_ERR.HOT_RESET, 1, .w1c⟩, ⟨Reg.HIF_PORT_ERR.LINK_DOWN, 0, .w1c⟩]⟩,
  ⟨"HIF_PORT_LHD", 0x40020008, [(2, 0x100)], 32, .warm, [⟨Reg.HIF_PORT_LHD.OCC, 0, .ro⟩]⟩,
  ⟨"HIF_PORT_LHD_STALL", 0x4002000c, [(2, 0x100)], 32, .warm, [⟨Reg.HIF_PORT_LHD_STALL.STALL, 0, .rwz⟩]⟩,
  ⟨"HIF_PORT_RD_BYTES", 0x40020010, [(2, 0x100)], 64, .warm, [⟨Reg.HIF_PORT_RD_BYTES.BYTES, 0, .ro⟩]⟩,
  ⟨"HIF_PORT_WR_BYTES", 0x40020018, [(2, 0x100)], 64, .warm, [⟨Reg.HIF_PORT_WR_BYTES.BYTES, 0, .ro⟩]⟩]

/-- Registers of spec file 02, part 3. -/
def regs02_2 : List RegDef := [
  ⟨"HIF_FN_CFG", 0x40030000, [(256, 0x40)], 32, .warm, [⟨Reg.HIF_FN_CFG.CONFIGURED, 31, .ro⟩, ⟨Reg.HIF_FN_CFG.QUOTA, 24, .ro⟩, ⟨Reg.HIF_FN_CFG.WEIGHT, 16, .ro⟩, ⟨Reg.HIF_FN_CFG.TENANT, 8, .ro⟩, ⟨Reg.HIF_FN_CFG.STATE, 0, .ro⟩]⟩,
  ⟨"HIF_FN_PASID", 0x40030004, [(256, 0x40)], 32, .warm, [⟨Reg.HIF_FN_PASID.REQUIRE, 31, .ro⟩, ⟨Reg.HIF_FN_PASID.WIDTH, 20, .ro⟩, ⟨Reg.HIF_FN_PASID.BASE, 0, .ro⟩]⟩,
  ⟨"HIF_FN_HQD", 0x40030008, [(256, 0x40)], 32, .warm, [⟨Reg.HIF_FN_HQD.POOL, 16, .ro⟩, ⟨Reg.HIF_FN_HQD.OCC, 0, .ro⟩]⟩,
  ⟨"HIF_FN_HQD_STALL", 0x4003000c, [(256, 0x40)], 32, .warm, [⟨Reg.HIF_FN_HQD_STALL.STALL, 0, .rwz⟩]⟩,
  ⟨"DEV_ID", 0x40080000, [], 32, .cold, [⟨Reg.DEV_ID.DEVICE, 16, .ro⟩, ⟨Reg.DEV_ID.REV, 8, .ro⟩, ⟨Reg.DEV_ID.VARIANT, 0, .ro⟩]⟩,
  ⟨"DEV_STATUS", 0x40080004, [], 32, .warm, [⟨Reg.DEV_STATUS.EPOCH_MIXED, 31, .ro⟩, ⟨Reg.DEV_STATUS.UNIT_STALLED, 30, .ro⟩, ⟨Reg.DEV_STATUS.ARCHIVE_RO, 29, .ro⟩, ⟨Reg.DEV_STATUS.TIME_DEGRADED, 28, .ro⟩, ⟨Reg.DEV_STATUS.LIFECYCLE, 13, .ro⟩, ⟨Reg.DEV_STATUS.POWER, 9, .ro⟩, ⟨Reg.DEV_STATUS.ADMIN_READY, 8, .ro⟩]⟩,
  ⟨"DEV_SETTINGS_EPOCH", 0x40080008, [], 32, .warm, [⟨Reg.DEV_SETTINGS_EPOCH.EPOCH, 0, .ro⟩]⟩,
  ⟨"DEV_ARCHIVE_EPOCH", 0x4008000c, [], 32, .cold, [⟨Reg.DEV_ARCHIVE_EPOCH.EPOCH, 0, .ro⟩]⟩,
  ⟨"DEV_CFG_DIGEST", 0x40080040, [(12, 0x4)], 32, .warm, [⟨Reg.DEV_CFG_DIGEST.DIGEST, 0, .ro⟩]⟩,
  ⟨"DEV_RESET", 0x40080080, [], 32, .cold, [⟨Reg.DEV_RESET.KEY, 16, .wo⟩, ⟨Reg.DEV_RESET.WARM, 0, .wo⟩]⟩,
  ⟨"PEER_IN", 0x40040000, [(256, 0x100), (16, 0x4)], 32, .fn, [⟨Reg.MBX_OUT.DATA, 0, .ro⟩]⟩,
  ⟨"PEER_OUT", 0x40040040, [(256, 0x100), (16, 0x4)], 32, .fn, [⟨Reg.MBX_IN.DATA, 0, .rw⟩]⟩]

/-- Registers of spec file 02, part 4. -/
def regs02_3 : List RegDef := [
  ⟨"PEER_STATUS", 0x40040080, [(256, 0x100)], 32, .fn, [⟨Reg.PEER_STATUS.OVERRUN, 2, .w1c⟩, ⟨Reg.MBX_STATUS.OUT_FULL, 1, .ro⟩, ⟨Reg.MBX_STATUS.IN_FULL, 0, .ro⟩]⟩,
  ⟨"PEER_CTRL", 0x40040084, [(256, 0x100)], 32, .fn, [⟨Reg.PEER_CTRL.ACK, 1, .wo⟩, ⟨Reg.PEER_CTRL.POST, 0, .wo⟩]⟩]

/-- Registers of spec file 04, part 1. -/
def regs04_0 : List RegDef := [
  ⟨"SLA_LANE_STATUS", 0x40200000, [(264, 0x100)], 32, .cold, [⟨Reg.SLA_LANE_STATUS.SPARE, 31, .ro⟩, ⟨Reg.SLA_LANE_STATUS.MAPPED, 30, .ro⟩, ⟨Reg.SLA_LANE_STATUS.GROUP, 26, .ro⟩, ⟨Reg.SLA_LANE_STATUS.SLOT, 22, .ro⟩, ⟨Reg.SLA_LANE_STATUS.RCAUSE, 19, .ro⟩, ⟨Reg.SLA_LANE_STATUS.STATE, 0, .ro⟩]⟩,
  ⟨"SLA_LANE_EPOCH", 0x40200004, [(264, 0x100)], 32, .warm, [⟨Reg.SLA_LANE_EPOCH.EPOCH, 0, .ro⟩]⟩,
  ⟨"SLA_LANE_CTRL", 0x40200008, [(264, 0x100)], 32, .warm, [⟨Reg.SLA_LANE_CTRL.MODE, 2, .wo⟩, ⟨Reg.SLA_LANE_CTRL.TEST, 1, .wo⟩, ⟨Reg.SLA_LANE_CTRL.RESET, 0, .wo⟩]⟩,
  ⟨"SLA_LANE_RECORDS", 0x40200010, [(264, 0x100)], 64, .warm, [⟨Reg.SLA_LANE_RECORDS.COUNT, 0, .ro⟩]⟩,
  ⟨"SLA_LANE_BYTES", 0x40200018, [(264, 0x100)], 64, .warm, [⟨Reg.SLA_LANE_BYTES.BYTES, 0, .ro⟩]⟩,
  ⟨"SLA_LANE_ERRS", 0x40200020, [(264, 0x100)], 32, .warm, [⟨Reg.SLA_LANE_ERRS.CORRECTED, 16, .ro⟩, ⟨Reg.SLA_LANE_ERRS.TAGFAIL, 0, .ro⟩]⟩,
  ⟨"SLA_GRP_STATUS", 0x40220000, [(16, 0x100)], 32, .warm, [⟨Reg.SLA_GRP_STATUS.POWERED, 31, .ro⟩, ⟨Reg.SLA_GRP_STATUS.TRANSITION, 30, .ro⟩, ⟨Reg.SLA_GRP_STATUS.FUSED, 29, .ro⟩, ⟨Reg.SLA_GRP_STATUS.INSERVICE, 16, .ro⟩, ⟨Reg.SLA_GRP_STATUS.EMPTY, 0, .ro⟩]⟩,
  ⟨"SLA_GRP_CTRL", 0x40220004, [(16, 0x100)], 32, .warm, [⟨Reg.SLA_GRP_CTRL.MODE, 1, .wo⟩, ⟨Reg.SLA_GRP_CTRL.RESET, 0, .wo⟩]⟩,
  ⟨"SLA_GRP_MAP", 0x40220040, [(16, 0x100), (16, 0x4)], 32, .cold, [⟨Reg.SLA_GRP_MAP.VALID, 31, .ro⟩, ⟨Reg.SLA_GRP_MAP.LANE, 0, .ro⟩]⟩,
  ⟨"SLA_CTRL", 0x40230000, [], 32, .warm, [⟨Reg.SLA_CTRL.MODE, 1, .wo⟩, ⟨Reg.SLA_CTRL.RESET_ALL, 0, .wo⟩]⟩,
  ⟨"SLA_SPARE_STATUS", 0x40230004, [], 32, .cold, [⟨Reg.SLA_SPARE_STATUS.RETIRED, 16, .ro⟩, ⟨Reg.SLA_SPARE_STATUS.USED, 8, .ro⟩, ⟨Reg.SLA_SPARE_STATUS.FREE, 0, .ro⟩]⟩,
  ⟨"SLA_EVENT", 0x40230008, [], 32, .warm, [⟨Reg.SLA_EVENT.STAGING_UE, 6, .w1c⟩, ⟨Reg.SLA_EVENT.PARITY, 5, .w1c⟩, ⟨Reg.SLA_EVENT.TAG_FAIL, 4, .w1c⟩, ⟨Reg.SLA_EVENT.GROUP_SHORT, 3, .w1c⟩, ⟨Reg.SLA_EVENT.SPARES_EXHAUSTED, 2, .w1c⟩, ⟨Reg.SLA_EVENT.SPARE_USED, 1, .w1c⟩, ⟨Reg.SLA_EVENT.LANE_RETIRED, 0, .w1c⟩]⟩]

/-- Registers of spec file 04, part 2. -/
def regs04_1 : List RegDef := [
  ⟨"SLA_EVENT_EN", 0x4023000c, [], 32, .warm, [⟨Reg.SLA_EVENT_EN.EN, 0, .rw⟩]⟩,
  ⟨"SLA_LSC", 0x40230010, [], 32, .warm, [⟨Reg.SLA_LSC.POOL, 16, .ro⟩, ⟨Reg.SLA_LSC.OCC, 0, .ro⟩]⟩,
  ⟨"SLA_LSC_STALL", 0x40230014, [], 32, .warm, [⟨Reg.SLA_LSC_STALL.STALL, 0, .rwz⟩]⟩,
  ⟨"SLA_KAT_PASS", 0x40230018, [], 32, .cold, [⟨Reg.SLA_KAT_PASS.COUNT, 0, .ro⟩]⟩,
  ⟨"SLA_RETIRED", 0x40230020, [(9, 0x4)], 32, .cold, [⟨Reg.SLA_RETIRED.LANE, 0, .rws⟩]⟩]

/-- Registers of spec file 05, part 1. -/
def regs05_0 : List RegDef := [
  ⟨"STR_STATUS", 0x40300000, [], 32, .cold, [⟨Reg.STR_STATUS.RK_VALID, 31, .ro⟩, ⟨Reg.STR_STATUS.KEK_VALID, 30, .ro⟩, ⟨Reg.STR_STATUS.KEK_LOST, 29, .ro⟩, ⟨Reg.STR_STATUS.CACHE_ERASED, 28, .ro⟩, ⟨Reg.STR_STATUS.TENANTS, 16, .ro⟩, ⟨Reg.STR_STATUS.POLICY, 0, .ro⟩]⟩,
  ⟨"STR_UCACHE", 0x40300004, [], 32, .warm, [⟨Reg.STR_UCACHE.OCC, 0, .ro⟩]⟩,
  ⟨"STR_UCACHE_EVICT", 0x40300008, [], 32, .warm, [⟨Reg.STR_UCACHE_EVICT.COUNT, 0, .ro⟩]⟩,
  ⟨"STR_DKC", 0x4030000c, [], 32, .warm, [⟨Reg.STR_DKC.OCC, 0, .ro⟩]⟩,
  ⟨"STR_DKC_HIT", 0x40300010, [], 64, .warm, [⟨Reg.STR_DKC_HIT.COUNT, 0, .ro⟩]⟩,
  ⟨"STR_DKC_MISS", 0x40300018, [], 64, .warm, [⟨Reg.STR_DKC_MISS.COUNT, 0, .ro⟩]⟩,
  ⟨"STR_DERIVE_STALL", 0x40300020, [], 32, .warm, [⟨Reg.STR_DERIVE_STALL.NS, 0, .rwz⟩]⟩,
  ⟨"STR_EVENT", 0x40300030, [], 32, .warm, [⟨Reg.STR_EVENT.TENANT_CHANGE, 4, .w1c⟩, ⟨Reg.STR_EVENT.SLOT_UPDATE_FAIL, 3, .w1c⟩, ⟨Reg.STR_EVENT.CACHE_ERASED, 2, .w1c⟩, ⟨Reg.STR_EVENT.UNWRAP_FAIL, 1, .w1c⟩, ⟨Reg.STR_EVENT.KEK_LOST, 0, .w1c⟩]⟩,
  ⟨"STR_EVENT_EN", 0x40300034, [], 32, .warm, [⟨Reg.STR_EVENT_EN.EN, 0, .rw⟩]⟩,
  ⟨"STR_CTRL", 0x40300040, [], 32, .warm, [⟨Reg.STR_CTRL.DKC_FLUSH, 1, .wo⟩, ⟨Reg.STR_CTRL.ERASE_CACHE, 0, .wo⟩]⟩,
  ⟨"STR_TENANT", 0x40301000, [(256, 0x4)], 32, .cold, [⟨Reg.STR_TENANT.STATE, 30, .ro⟩, ⟨Reg.STR_TENANT.CACHED, 29, .ro⟩]⟩,
  ⟨"EXT_STATUS", 0x40500000, [], 32, .cold, [⟨Reg.EXT_STATUS.TABLE_VALID, 31, .ro⟩, ⟨Reg.EXT_STATUS.READ_ONLY, 30, .ro⟩, ⟨Reg.EXT_STATUS.PERSIST_BUSY, 29, .ro⟩, ⟨Reg.EXT_STATUS.UNANCHORED, 28, .ro⟩, ⟨Reg.EXT_STATUS.RECOVERY, 26, .ro⟩, ⟨Reg.EXT_STATUS.GEN, 0, .ro⟩]⟩]

/-- Registers of spec file 05, part 2. -/
def regs05_1 : List RegDef := [
  ⟨"EXT_FREE", 0x40500004, [], 32, .cold, [⟨Reg.EXT_FREE.COUNT, 0, .ro⟩]⟩,
  ⟨"EXT_RETIRED", 0x40500008, [], 32, .cold, [⟨Reg.EXT_RETIRED.COUNT, 0, .ro⟩]⟩,
  ⟨"EXT_RESERVE", 0x4050000c, [], 32, .cold, [⟨Reg.EXT_RESERVE.COUNT, 0, .ro⟩]⟩,
  ⟨"EXT_ROOT_SEQ", 0x40500010, [], 32, .cold, [⟨Reg.EXT_ROOT_SEQ.SEQ, 0, .ro⟩]⟩,
  ⟨"EXT_ROOTLOG", 0x40500014, [], 32, .cold, [⟨Reg.EXT_ROOTLOG.SECTOR, 16, .ro⟩, ⟨Reg.EXT_ROOTLOG.USED, 0, .ro⟩]⟩,
  ⟨"EXT_JSEQ", 0x40500018, [], 64, .cold, [⟨Reg.EXT_JSEQ.JSEQ, 0, .ro⟩]⟩,
  ⟨"EXT_PERSIST_TIME", 0x40500020, [], 32, .cold, [⟨Reg.EXT_PERSIST_TIME.US, 0, .ro⟩]⟩,
  ⟨"EXT_ROOT", 0x40500040, [(6, 0x4)], 32, .cold, [⟨Reg.EXT_ROOT.ROOT, 0, .ro⟩]⟩,
  ⟨"EXT_CTRL", 0x40500060, [], 32, .warm, [⟨Reg.EXT_CTRL.JCOMMIT, 1, .wo⟩, ⟨Reg.EXT_CTRL.PERSIST, 0, .wo⟩]⟩,
  ⟨"EXT_EVENT", 0x40500070, [], 32, .warm, [⟨Reg.EXT_EVENT.PERSIST_DONE, 7, .w1c⟩, ⟨Reg.EXT_EVENT.LEAF_REPAIRED, 6, .w1c⟩, ⟨Reg.EXT_EVENT.EXTENT_RETIRED, 5, .w1c⟩, ⟨Reg.EXT_EVENT.RESERVE_USED, 4, .w1c⟩, ⟨Reg.EXT_EVENT.QUOTA_HIT, 3, .w1c⟩, ⟨Reg.EXT_EVENT.COPY_REPAIRED, 2, .w1c⟩, ⟨Reg.EXT_EVENT.JOURNAL_FAIL, 1, .w1c⟩, ⟨Reg.EXT_EVENT.ROLLBACK, 0, .w1c⟩]⟩,
  ⟨"EXT_EVENT_EN", 0x40500074, [], 32, .warm, [⟨Reg.EXT_EVENT_EN.EN, 0, .rw⟩]⟩,
  ⟨"EXT_TENANT_USED", 0x40501000, [(256, 0x10)], 32, .cold, [⟨Reg.EXT_TENANT_USED.OVER, 31, .ro⟩, ⟨Reg.EXT_TENANT_USED.USED, 0, .ro⟩]⟩]

/-- Registers of spec file 05, part 3. -/
def regs05_2 : List RegDef := [
  ⟨"EXT_TENANT_QUOTA", 0x40501004, [(256, 0x10)], 32, .cold, [⟨Reg.EXT_TENANT_QUOTA.QUOTA, 0, .ro⟩]⟩,
  ⟨"EXT_TENANT_OPEN", 0x40501008, [(256, 0x10)], 32, .cold, [⟨Reg.EXT_TENANT_OPEN.OPEN, 8, .ro⟩, ⟨Reg.EXT_TENANT_OPEN.OPENW, 0, .ro⟩]⟩,
  ⟨"EXT_TENANT_RANKS", 0x4050100c, [(256, 0x10)], 32, .cold, [⟨Reg.EXT_TENANT_RANKS.MASK, 0, .ro⟩]⟩]

/-- Registers of spec file 06, part 1. -/
def regs06_0 : List RegDef := [
  ⟨"SCV_STATUS", 0x40400000, [], 32, .warm, [⟨Reg.SCV_STATUS.INSERVICE, 16, .ro⟩, ⟨Reg.SCV_STATUS.UNSIGNED, 4, .ro⟩, ⟨Reg.SCV_STATUS.TQ, 0, .ro⟩]⟩,
  ⟨"SCV_SCO", 0x40400004, [], 32, .warm, [⟨Reg.SCV_SCO.POOL, 16, .ro⟩, ⟨Reg.SCV_SCO.OCC, 0, .ro⟩]⟩,
  ⟨"SCV_SCO_STALL", 0x40400008, [], 32, .warm, [⟨Reg.SCV_SCO_STALL.STALL, 0, .rwz⟩]⟩,
  ⟨"SCV_BATCH_OPEN", 0x4040000c, [], 32, .warm, [⟨Reg.SCV_BATCH_OPEN.OPEN, 31, .ro⟩, ⟨Reg.SCV_BATCH_OPEN.ENTRIES, 0, .ro⟩]⟩,
  ⟨"SCV_BATCH_SEQ", 0x40400010, [], 64, .warm, [⟨Reg.SCV_BATCH_SEQ.BATCH, 0, .ro⟩]⟩,
  ⟨"SCV_BATCH_LAT", 0x40400018, [], 32, .warm, [⟨Reg.SCV_BATCH_LAT.US, 0, .rwz⟩]⟩,
  ⟨"SCV_CKPT_COUNT", 0x40400020, [], 64, .warm, [⟨Reg.SCV_CKPT_COUNT.COUNT, 0, .ro⟩]⟩,
  ⟨"SCV_CHAIN_COUNT", 0x40400028, [], 64, .warm, [⟨Reg.SCV_CHAIN_COUNT.COUNT, 0, .ro⟩]⟩,
  ⟨"SCV_VOID_COUNT", 0x40400030, [], 64, .warm, [⟨Reg.SCV_VOID_COUNT.COUNT, 0, .ro⟩]⟩,
  ⟨"SCV_ORPHANS", 0x40400038, [], 32, .warm, [⟨Reg.SCV_ORPHANS.COUNT, 0, .ro⟩]⟩,
  ⟨"SCV_ANCHOR_ID", 0x40400040, [], 32, .cold, [⟨Reg.SCV_ANCHOR_ID.ID, 0, .ro⟩]⟩,
  ⟨"SCV_ANCHOR_TICKS", 0x40400048, [], 64, .cold, [⟨Reg.SCV_ANCHOR_TICKS.TICKS, 0, .ro⟩]⟩]

/-- Registers of spec file 06, part 2. -/
def regs06_1 : List RegDef := [
  ⟨"SCV_ANCHOR_UTC", 0x40400050, [], 64, .cold, [⟨Reg.SCV_ANCHOR_UTC.MS, 0, .ro⟩]⟩,
  ⟨"SCV_DRIFT", 0x40400058, [], 32, .cold, [⟨Reg.SCV_DRIFT.DRIFT, 0, .ro⟩]⟩,
  ⟨"SCV_EVENT", 0x40400060, [], 32, .warm, [⟨Reg.SCV_EVENT.CORE_OUT, 5, .w1c⟩, ⟨Reg.SCV_EVENT.ORPHAN_LOST, 4, .w1c⟩, ⟨Reg.SCV_EVENT.TQ_CHANGE, 3, .w1c⟩, ⟨Reg.SCV_EVENT.ANCHOR, 2, .w1c⟩, ⟨Reg.SCV_EVENT.RECOVERED, 1, .w1c⟩, ⟨Reg.SCV_EVENT.BATCH, 0, .w1c⟩]⟩,
  ⟨"SCV_EVENT_EN", 0x40400064, [], 32, .warm, [⟨Reg.SCV_EVENT_EN.EN, 0, .rw⟩]⟩,
  ⟨"SCV_CORE_EPOCH", 0x40400100, [(16, 0x4)], 32, .warm, [⟨Reg.SCV_CORE_EPOCH.EPOCH, 0, .ro⟩]⟩,
  ⟨"SCV_BATCH_ROOT", 0x40400200, [(12, 0x4)], 32, .warm, [⟨Reg.SCV_BATCH_ROOT.ROOT, 0, .ro⟩]⟩,
  ⟨"PKE_STATUS", 0x40600000, [], 32, .cold, [⟨Reg.PKE_STATUS.INSERVICE, 28, .ro⟩, ⟨Reg.PKE_STATUS.BUSY, 24, .ro⟩, ⟨Reg.PKE_STATUS.OUT, 20, .ro⟩, ⟨Reg.PKE_STATUS.MCVER, 0, .ro⟩]⟩,
  ⟨"PKE_QUEUE", 0x40600004, [], 32, .warm, [⟨Reg.PKE_QUEUE.BATCH, 16, .ro⟩, ⟨Reg.PKE_QUEUE.KEEPER, 8, .ro⟩, ⟨Reg.PKE_QUEUE.KCALL, 0, .ro⟩]⟩,
  ⟨"PKE_MLDSA_LONG", 0x40600008, [], 32, .cold, [⟨Reg.PKE_MLDSA_LONG.COUNT, 0, .ro⟩]⟩,
  ⟨"PKE_INV_FAIL", 0x4060000c, [], 32, .cold, [⟨Reg.PKE_INV_FAIL.COUNT, 0, .ro⟩]⟩,
  ⟨"PKE_MC_STATUS", 0x40600010, [], 32, .warm, [⟨Reg.PKE_MC_STATUS.ROM, 31, .ro⟩, ⟨Reg.PKE_MC_STATUS.REJECTED, 30, .ro⟩, ⟨Reg.PKE_MC_STATUS.MINVER, 0, .ro⟩]⟩,
  ⟨"PKE_EVENT", 0x40600020, [], 32, .warm, [⟨Reg.PKE_EVENT.MC_REJECT, 3, .w1c⟩, ⟨Reg.PKE_EVENT.LONG, 2, .w1c⟩, ⟨Reg.PKE_EVENT.UNIT_OUT, 1, .w1c⟩, ⟨Reg.PKE_EVENT.INVARIANT, 0, .w1c⟩]⟩]

/-- Registers of spec file 06, part 3. -/
def regs06_2 : List RegDef := [
  ⟨"PKE_EVENT_EN", 0x40600024, [], 32, .warm, [⟨Reg.PKE_EVENT_EN.EN, 0, .rw⟩]⟩,
  ⟨"PKE_UNIT_JOBS", 0x40600100, [(4, 0x20)], 64, .cold, [⟨Reg.PKE_UNIT_JOBS.COUNT, 0, .ro⟩]⟩,
  ⟨"PKE_UNIT_OP", 0x40600108, [(4, 0x20)], 32, .warm, [⟨Reg.PKE_UNIT_OP.CLASS, 8, .ro⟩, ⟨Reg.PKE_UNIT_OP.OP, 0, .ro⟩, ⟨Reg.PKE_UNIT_OP.NTTOP, 16, .ro⟩]⟩,
  ⟨"PKE_MLDSA_ATT", 0x4060010c, [(4, 0x20)], 32, .warm, [⟨Reg.PKE_MLDSA_ATT.MAX, 16, .ro⟩, ⟨Reg.PKE_MLDSA_ATT.LAST, 0, .ro⟩]⟩]

/-- Registers of spec file 07, part 1. -/
def regs07_0 : List RegDef := [
  ⟨"MPX_PORT_STATUS", 0x40900000, [(128, 0x1000)], 32, .warm, [⟨Reg.MPX_PORT_STATUS.LINK_UP, 31, .ro⟩, ⟨Reg.MPX_PORT_STATUS.PRESENT, 30, .ro⟩, ⟨Reg.MPX_PORT_STATUS.RATE, 27, .ro⟩, ⟨Reg.MPX_PORT_STATUS.FOREIGN, 26, .ro⟩, ⟨Reg.MPX_PORT_STATUS.RECOVER, 25, .ro⟩, ⟨Reg.MPX_PORT_STATUS.SLOT, 20, .ro⟩, ⟨Reg.MPX_PORT_STATUS.RANK, 15, .ro⟩, ⟨Reg.MPX_PORT_STATUS.STATE, 0, .ro⟩]⟩,
  ⟨"MPX_PORT_CTRL", 0x40900004, [(128, 0x1000)], 32, .warm, [⟨Reg.MPX_PORT_CTRL.LOCATE, 2, .rw⟩, ⟨Reg.MPX_PORT_CTRL.RESET, 0, .wo⟩]⟩,
  ⟨"MPX_PORT_NGUID", 0x40900010, [(128, 0x1000), (4, 0x4)], 32, .warm, [⟨Reg.MPX_PORT_NGUID.NGUID, 0, .ro⟩]⟩,
  ⟨"MPX_PORT_GEOM", 0x40900020, [(128, 0x1000)], 32, .warm, [⟨Reg.MPX_PORT_GEOM.ZCAPMIB, 16, .ro⟩, ⟨Reg.MPX_PORT_GEOM.MAR, 8, .ro⟩, ⟨Reg.MPX_PORT_GEOM.ZASL, 0, .ro⟩]⟩,
  ⟨"MPX_PORT_ZONES", 0x40900024, [(128, 0x1000)], 32, .warm, [⟨Reg.MPX_PORT_ZONES.COUNT, 0, .ro⟩]⟩,
  ⟨"MPX_PORT_EPOCH", 0x40900028, [(128, 0x1000)], 32, .warm, [⟨Reg.MPX_PORT_EPOCH.EPOCH, 0, .ro⟩]⟩,
  ⟨"MPX_PORT_ERRS", 0x4090002c, [(128, 0x1000)], 32, .warm, [⟨Reg.MPX_PORT_ERRS.TIMEOUTS, 16, .ro⟩, ⟨Reg.MPX_PORT_ERRS.IOERRS, 0, .ro⟩]⟩,
  ⟨"MPX_PORT_DISPLACED", 0x40900030, [(128, 0x1000)], 32, .warm, [⟨Reg.MPX_PORT_DISPLACED.COUNT, 0, .ro⟩]⟩,
  ⟨"MPX_PORT_LGEN", 0x40900034, [(128, 0x1000)], 32, .warm, [⟨Reg.MPX_PORT_LGEN.MEMBGEN, 0, .ro⟩]⟩,
  ⟨"MPX_PORT_CMDS", 0x40900038, [(128, 0x1000)], 64, .warm, [⟨Reg.MPX_PORT_CMDS.COUNT, 0, .ro⟩]⟩,
  ⟨"MPX_PORT_LAT", 0x40900040, [(128, 0x1000)], 32, .warm, [⟨Reg.MPX_PORT_LAT.US, 0, .rwz⟩]⟩,
  ⟨"MPX_EVENT", 0x40980000, [], 32, .warm, [⟨Reg.MPX_EVENT.OVERRUN, 6, .w1c⟩, ⟨Reg.MPX_EVENT.HEALTH, 5, .w1c⟩, ⟨Reg.MPX_EVENT.APPEND_ERR, 4, .w1c⟩, ⟨Reg.MPX_EVENT.REJECTED, 3, .w1c⟩, ⟨Reg.MPX_EVENT.QUARANTINE, 2, .w1c⟩, ⟨Reg.MPX_EVENT.PORT_UP, 1, .w1c⟩, ⟨Reg.MPX_EVENT.PORT_DOWN, 0, .w1c⟩]⟩]

/-- Registers of spec file 07, part 2. -/
def regs07_1 : List RegDef := [
  ⟨"MPX_EVENT_EN", 0x40980004, [], 32, .warm, [⟨Reg.MPX_EVENT_EN.EN, 0, .rw⟩]⟩,
  ⟨"MPX_PRESENT", 0x40980010, [(4, 0x4)], 32, .warm, [⟨Reg.MPX_PRESENT.PRESENT, 0, .ro⟩]⟩,
  ⟨"CPR_EPOCH", 0x40800000, [], 32, .warm, [⟨Reg.CPR_EPOCH.EPOCH, 0, .ro⟩]⟩,
  ⟨"CPR_BUILDERS", 0x40800004, [], 32, .warm, [⟨Reg.CPR_BUILDERS.POOL, 16, .ro⟩, ⟨Reg.CPR_BUILDERS.OCC, 0, .ro⟩]⟩,
  ⟨"CPR_BUILDERS_STALL", 0x40800008, [], 32, .warm, [⟨Reg.CPR_BUILDERS_STALL.STALL, 0, .rwz⟩]⟩,
  ⟨"CPR_MCR", 0x4080000c, [], 32, .warm, [⟨Reg.CPR_MCR.ASSAY, 16, .ro⟩, ⟨Reg.CPR_MCR.READ, 0, .ro⟩]⟩,
  ⟨"CPR_MCR_STALL", 0x40800010, [], 32, .warm, [⟨Reg.CPR_MCR_STALL.STALL, 0, .rwz⟩]⟩,
  ⟨"CPR_RECON", 0x40800014, [], 32, .warm, [⟨Reg.CPR_RECON.KIB, 0, .ro⟩]⟩,
  ⟨"CPR_RECON_STALL", 0x40800018, [], 32, .warm, [⟨Reg.CPR_RECON_STALL.STALL, 0, .rwz⟩]⟩,
  ⟨"CPR_ENC_BYTES", 0x40800020, [], 64, .warm, [⟨Reg.CPR_ENC_BYTES.BYTES, 0, .ro⟩]⟩,
  ⟨"CPR_REC_BYTES", 0x40800028, [], 64, .warm, [⟨Reg.CPR_REC_BYTES.BYTES, 0, .ro⟩]⟩,
  ⟨"CPR_EVENT", 0x40800040, [], 32, .warm, [⟨Reg.CPR_EVENT.JOURNAL_FULL, 5, .w1c⟩, ⟨Reg.CPR_EVENT.CROSSCHECK, 4, .w1c⟩, ⟨Reg.CPR_EVENT.RECON, 3, .w1c⟩, ⟨Reg.CPR_EVENT.STRIPE_LOST, 2, .w1c⟩, ⟨Reg.CPR_EVENT.REBUILD_DONE, 1, .w1c⟩, ⟨Reg.CPR_EVENT.RANK_STATE, 0, .w1c⟩]⟩]

/-- Registers of spec file 07, part 3. -/
def regs07_2 : List RegDef := [
  ⟨"CPR_EVENT_EN", 0x40800044, [], 32, .warm, [⟨Reg.CPR_EVENT_EN.EN, 0, .rw⟩]⟩,
  ⟨"CPR_CLR", 0x40800100, [(16, 0x8)], 32, .warm, [⟨Reg.CPR_CLR.ASSAY, 16, .ro⟩, ⟨Reg.CPR_CLR.READ, 0, .ro⟩]⟩,
  ⟨"CPR_CLR_STALL", 0x40800104, [(16, 0x8)], 32, .warm, [⟨Reg.CPR_CLR_STALL.STALL, 0, .rwz⟩]⟩,
  ⟨"CPR_COM", 0x40801000, [(128, 0x8)], 32, .warm, [⟨Reg.CPR_COM.ASSAY, 16, .ro⟩, ⟨Reg.CPR_COM.READ, 8, .ro⟩, ⟨Reg.CPR_COM.WRITE, 0, .ro⟩]⟩,
  ⟨"CPR_COM_STALL", 0x40801004, [(128, 0x8)], 32, .warm, [⟨Reg.CPR_COM_STALL.STALL, 0, .rwz⟩]⟩,
  ⟨"CPR_RANK_STATUS", 0x40802000, [(32, 0x100)], 32, .cold, [⟨Reg.CPR_RANK_STATUS.STATE, 29, .ro⟩, ⟨Reg.CPR_RANK_STATUS.UNIT, 28, .ro⟩, ⟨Reg.CPR_RANK_STATUS.OUT, 23, .ro⟩, ⟨Reg.CPR_RANK_STATUS.M, 20, .ro⟩, ⟨Reg.CPR_RANK_STATUS.K, 15, .ro⟩]⟩,
  ⟨"CPR_RANK_GEN", 0x40802004, [(32, 0x100)], 32, .cold, [⟨Reg.CPR_RANK_GEN.G, 0, .ro⟩]⟩,
  ⟨"CPR_RANK_BAYS", 0x40802008, [(32, 0x100)], 32, .cold, [⟨Reg.CPR_RANK_BAYS.BAYS, 0, .ro⟩]⟩,
  ⟨"CPR_RANK_FREE", 0x4080200c, [(32, 0x100)], 32, .cold, [⟨Reg.CPR_RANK_FREE.FREE, 0, .ro⟩]⟩,
  ⟨"CPR_RANK_LOG", 0x40802010, [(32, 0x100)], 32, .cold, [⟨Reg.CPR_RANK_LOG.LOGBAYS, 0, .ro⟩]⟩,
  ⟨"CPR_RANK_SLOT", 0x40802040, [(32, 0x100), (20, 0x8)], 32, .cold, [⟨Reg.CPR_RANK_SLOT.STATE, 30, .ro⟩, ⟨Reg.CPR_RANK_SLOT.PORT, 0, .ro⟩]⟩,
  ⟨"CPR_RANK_RBLD", 0x40802044, [(32, 0x100), (20, 0x8)], 32, .cold, [⟨Reg.CPR_RANK_RBLD.DONE, 0, .ro⟩]⟩]

/-- Registers of spec file 08, part 1. -/
def regs08_0 : List RegDef := [
  ⟨"ASY_STATUS", 0x40a00000, [], 32, .warm, [⟨Reg.ASY_STATUS.ASSAY, 30, .ro⟩, ⟨Reg.ASY_STATUS.PATROL, 29, .ro⟩, ⟨Reg.ASY_STATUS.OVERDUE, 28, .ro⟩, ⟨Reg.ASY_STATUS.WEAR_WATCH, 27, .ro⟩, ⟨Reg.ASY_STATUS.WEAR_LIMIT, 26, .ro⟩, ⟨Reg.ASY_STATUS.MIGRATING, 0, .ro⟩]⟩,
  ⟨"ASY_CTRL", 0x40a00004, [], 32, .warm, [⟨Reg.ASY_CTRL.MIG_PAUSE, 1, .rw⟩, ⟨Reg.ASY_CTRL.PATROL_PAUSE, 0, .rw⟩]⟩,
  ⟨"ASY_ATTN", 0x40a00008, [], 32, .warm, [⟨Reg.ASY_ATTN.COUNT, 0, .ro⟩]⟩,
  ⟨"ASY_MIG_DONE", 0x40a00010, [], 64, .cold, [⟨Reg.ASY_MIG_DONE.COUNT, 0, .ro⟩]⟩,
  ⟨"ASY_MIG_ABANDON", 0x40a00018, [], 32, .cold, [⟨Reg.ASY_MIG_ABANDON.COUNT, 0, .ro⟩]⟩,
  ⟨"ASY_PATROL_PASS", 0x40a00020, [], 32, .cold, [⟨Reg.ASY_PATROL_PASS.PASS, 0, .ro⟩]⟩,
  ⟨"ASY_PATROL_POS", 0x40a00024, [], 32, .cold, [⟨Reg.ASY_PATROL_POS.EXTENT, 0, .ro⟩]⟩,
  ⟨"ASY_PATROL_START", 0x40a00028, [], 64, .cold, [⟨Reg.ASY_PATROL_START.TICKS, 0, .ro⟩]⟩,
  ⟨"ASY_DEADLINE", 0x40a00030, [], 64, .warm, [⟨Reg.ASY_DEADLINE.TICKS, 0, .ro⟩]⟩,
  ⟨"ASY_ASSAY_RUN", 0x40a00038, [], 32, .cold, [⟨Reg.ASY_ASSAY_RUN.RUN, 0, .ro⟩]⟩,
  ⟨"ASY_ASSAY_EXT", 0x40a0003c, [], 32, .warm, [⟨Reg.ASY_ASSAY_EXT.DONE, 0, .ro⟩]⟩,
  ⟨"ASY_ASSAY_BYTES", 0x40a00040, [], 64, .warm, [⟨Reg.ASY_ASSAY_BYTES.BYTES, 0, .ro⟩]⟩]

/-- Registers of spec file 08, part 2. -/
def regs08_1 : List RegDef := [
  ⟨"ASY_ASSAY_FIND", 0x40a00048, [], 32, .warm, [⟨Reg.ASY_ASSAY_FIND.COUNT, 0, .ro⟩]⟩,
  ⟨"ASY_ASSAY_RATE", 0x40a0004c, [], 32, .warm, [⟨Reg.ASY_ASSAY_RATE.MBPS, 0, .ro⟩]⟩,
  ⟨"ASY_EVENT", 0x40a00060, [], 32, .warm, [⟨Reg.ASY_EVENT.PATROL_PASS, 11, .w1c⟩, ⟨Reg.ASY_EVENT.LEDGER_FREED, 10, .w1c⟩, ⟨Reg.ASY_EVENT.PLACEGEN_MAX, 9, .w1c⟩, ⟨Reg.ASY_EVENT.OVERDUE, 8, .w1c⟩, ⟨Reg.ASY_EVENT.TREND, 7, .w1c⟩, ⟨Reg.ASY_EVENT.WEAR_LIMIT, 6, .w1c⟩, ⟨Reg.ASY_EVENT.WEAR_WATCH, 5, .w1c⟩, ⟨Reg.ASY_EVENT.NO_TARGET, 4, .w1c⟩, ⟨Reg.ASY_EVENT.MIG_ABANDON, 3, .w1c⟩, ⟨Reg.ASY_EVENT.MIG_DONE, 2, .w1c⟩, ⟨Reg.ASY_EVENT.FINDING, 1, .w1c⟩, ⟨Reg.ASY_EVENT.ASSAY_DONE, 0, .w1c⟩]⟩,
  ⟨"ASY_EVENT_EN", 0x40a00064, [], 32, .warm, [⟨Reg.ASY_EVENT_EN.EN, 0, .rw⟩]⟩,
  ⟨"ASY_DRIVE", 0x40a01000, [(128, 0x10)], 32, .warm, [⟨Reg.ASY_DRIVE.WATCH, 31, .ro⟩, ⟨Reg.ASY_DRIVE.LIMIT, 30, .ro⟩, ⟨Reg.ASY_DRIVE.TREND, 29, .ro⟩, ⟨Reg.ASY_DRIVE.SOFT_HIGH, 28, .ro⟩, ⟨Reg.ASY_DRIVE.PCTUSED, 0, .ro⟩]⟩,
  ⟨"ASY_DRIVE_SOFT", 0x40a01004, [(128, 0x10)], 32, .warm, [⟨Reg.ASY_DRIVE_SOFT.COUNT, 0, .ro⟩]⟩,
  ⟨"ASY_DRIVE_HARD", 0x40a01008, [(128, 0x10)], 32, .warm, [⟨Reg.ASY_DRIVE_HARD.COUNT, 0, .ro⟩]⟩,
  ⟨"ASY_DRIVE_LAT", 0x40a0100c, [(128, 0x10)], 32, .warm, [⟨Reg.ASY_DRIVE_LAT.BASE, 16, .ro⟩, ⟨Reg.ASY_DRIVE_LAT.AVG, 0, .ro⟩]⟩]

/-- Registers of spec file 09, part 1. -/
def regs09_0 : List RegDef := [
  ⟨"RNG_STATUS", 0x40700000, [], 32, .warm, [⟨Reg.RNG_STATUS.PERMANENT, 31, .ro⟩, ⟨Reg.RNG_STATUS.POOL, 16, .ro⟩, ⟨Reg.RNG_STATUS.LIVE, 12, .ro⟩, ⟨Reg.RNG_STATUS.INST, 8, .ro⟩, ⟨Reg.RNG_STATUS.STATE, 0, .ro⟩]⟩,
  ⟨"RNG_CTRL", 0x40700004, [], 32, .warm, [⟨Reg.RNG_CTRL.RESEED, 0, .wo⟩]⟩,
  ⟨"RNG_SRC_STATUS", 0x40700100, [(12, 0x8)], 32, .cold, [⟨Reg.RNG_SRC_STATUS.APT, 9, .ro⟩, ⟨Reg.RNG_SRC_STATUS.RCT, 8, .ro⟩, ⟨Reg.RNG_SRC_STATUS.STATE, 0, .ro⟩]⟩,
  ⟨"RNG_SRC_FAILS", 0x40700104, [(12, 0x8)], 32, .cold, [⟨Reg.RNG_SRC_FAILS.COUNT, 0, .ro⟩]⟩,
  ⟨"RNG_INST", 0x40700200, [(4, 0x10)], 32, .warm, [⟨Reg.RNG_INST.READY, 31, .ro⟩, ⟨Reg.RNG_INST.WAITING, 30, .ro⟩, ⟨Reg.RNG_INST.COUNTER, 0, .ro⟩]⟩,
  ⟨"RNG_INST_RESEEDS", 0x40700208, [(4, 0x10)], 64, .warm, [⟨Reg.RNG_INST_RESEEDS.COUNT, 0, .ro⟩]⟩,
  ⟨"RNG_BYTES", 0x40700300, [], 64, .warm, [⟨Reg.RNG_BYTES.BYTES, 0, .ro⟩]⟩,
  ⟨"RNG_EVENT", 0x40700310, [], 32, .warm, [⟨Reg.RNG_EVENT.RECOVERED, 3, .w1c⟩, ⟨Reg.RNG_EVENT.ERROR, 2, .w1c⟩, ⟨Reg.RNG_EVENT.SRC_DEAD, 1, .w1c⟩, ⟨Reg.RNG_EVENT.SRC_FAIL, 0, .w1c⟩]⟩,
  ⟨"RNG_EVENT_EN", 0x40700314, [], 32, .warm, [⟨Reg.RNG_EVENT_EN.EN, 0, .rw⟩]⟩,
  ⟨"RNG_RAW_CTRL", 0x40700400, [], 32, .warm, [⟨Reg.RNG_RAW_CTRL.EN, 31, .rw⟩, ⟨Reg.RNG_RAW_CTRL.SEL, 4, .rw⟩, ⟨Reg.RNG_RAW_CTRL.SRC, 0, .rw⟩]⟩,
  ⟨"RNG_RAW_STATUS", 0x40700404, [], 32, .warm, [⟨Reg.RNG_RAW_STATUS.REFUSED, 31, .w1c⟩, ⟨Reg.RNG_RAW_STATUS.LEVEL, 16, .ro⟩, ⟨Reg.RNG_RAW_STATUS.DROPPED, 0, .w1c⟩]⟩,
  ⟨"RNG_RAW_DATA", 0x40700408, [], 32, .warm, [⟨Reg.RNG_RAW_DATA.DATA, 0, .ro⟩]⟩]

/-- Registers of spec file 10, part 1. -/
def regs10_0 : List RegDef := [
  ⟨"PTR_STATUS", 0x40f02000, [], 32, .warm, [⟨Reg.PTR_STATUS.MODE, 30, .ro⟩, ⟨Reg.PTR_STATUS.COPY, 29, .ro⟩, ⟨Reg.PTR_STATUS.A_OK, 28, .ro⟩, ⟨Reg.PTR_STATUS.B_OK, 27, .ro⟩, ⟨Reg.PTR_STATUS.DIVERGED, 26, .ro⟩, ⟨Reg.PTR_STATUS.SLOW, 25, .ro⟩, ⟨Reg.PTR_STATUS.SESSION, 24, .ro⟩, ⟨Reg.PTR_STATUS.B_WRITTEN, 23, .ro⟩, ⟨Reg.PTR_STATUS.A_WRITTEN, 22, .ro⟩, ⟨Reg.PTR_STATUS.AREASON, 16, .ro⟩, ⟨Reg.PTR_STATUS.BREASON, 12, .ro⟩, ⟨Reg.PTR_STATUS.HALT, 8, .ro⟩, ⟨Reg.PTR_STATUS.STAGE, 0, .ro⟩]⟩,
  ⟨"PTR_BOOT_TIME", 0x40f02004, [], 32, .warm, [⟨Reg.PTR_BOOT_TIME.US, 0, .ro⟩]⟩,
  ⟨"PTR_SEQ_A", 0x40f02008, [], 64, .warm, [⟨Reg.PTR_SEQ_A.SEQ, 0, .ro⟩]⟩,
  ⟨"PTR_SEQ_B", 0x40f02010, [], 64, .warm, [⟨Reg.PTR_SEQ_B.SEQ, 0, .ro⟩]⟩,
  ⟨"PTR_FLOOR", 0x40f02018, [], 64, .warm, [⟨Reg.PTR_FLOOR.FLOOR, 0, .ro⟩]⟩,
  ⟨"PTR_SESSION", 0x40f02020, [], 32, .warm, [⟨Reg.PTR_SESSION.OPEN, 31, .ro⟩, ⟨Reg.PTR_SESSION.TARGET, 30, .ro⟩, ⟨Reg.PTR_SESSION.HDR, 29, .ro⟩, ⟨Reg.PTR_SESSION.TOTAL, 16, .ro⟩, ⟨Reg.PTR_SESSION.WRITTEN, 0, .ro⟩]⟩,
  ⟨"PTR_EVENT", 0x40f02030, [], 32, .warm, [⟨Reg.PTR_EVENT.WRITE_FAIL, 5, .w1c⟩, ⟨Reg.PTR_EVENT.WRITE_DONE, 4, .w1c⟩, ⟨Reg.PTR_EVENT.INSTALL_FAIL, 3, .w1c⟩, ⟨Reg.PTR_EVENT.INSTALLED, 2, .w1c⟩, ⟨Reg.PTR_EVENT.COPY_INVALID, 1, .w1c⟩, ⟨Reg.PTR_EVENT.DIVERGED, 0, .w1c⟩]⟩,
  ⟨"PTR_EVENT_EN", 0x40f02034, [], 32, .warm, [⟨Reg.PTR_EVENT_EN.EN, 0, .rw⟩]⟩,
  ⟨"PTR_IMG_DIGEST", 0x40f02040, [(12, 0x4)], 32, .warm, [⟨Reg.PTR_IMG_DIGEST.DIGEST, 0, .ro⟩]⟩,
  ⟨"PTR_CHIP", 0x40f02080, [(2, 0x4)], 32, .warm, [⟨Reg.PTR_CHIP.JEDEC, 8, .ro⟩, ⟨Reg.PTR_CHIP.SIZELOG, 0, .ro⟩]⟩,
  ⟨"OTP_STATUS", 0x40f03000, [], 32, .cold, [⟨Reg.OTP_STATUS.READ_DONE, 31, .ro⟩, ⟨Reg.OTP_STATUS.MARGINAL, 30, .ro⟩, ⟨Reg.OTP_STATUS.DRIFT, 29, .ro⟩, ⟨Reg.OTP_STATUS.MCOUNT, 16, .ro⟩, ⟨Reg.OTP_STATUS.LC, 0, .ro⟩]⟩,
  ⟨"OTP_SERIAL", 0x40f03008, [], 64, .cold, [⟨Reg.OTP_SERIAL.SERIAL, 0, .ro⟩]⟩]

/-- Registers of spec file 10, part 2. -/
def regs10_1 : List RegDef := [
  ⟨"OTP_MARGINAL", 0x40f03010, [(16, 0x4)], 32, .cold, [⟨Reg.OTP_MARGINAL.WORD, 0, .ro⟩]⟩,
  ⟨"OTP_LAST_READ", 0x40f03050, [], 64, .cold, [⟨Reg.OTP_LAST_READ.TICKS, 0, .ro⟩]⟩,
  ⟨"OTP_CTRL", 0x40f03060, [], 32, .cold, [⟨Reg.OTP_CTRL.REREAD, 0, .wo⟩]⟩,
  ⟨"OTP_EVENT", 0x40f03070, [], 32, .cold, [⟨Reg.OTP_EVENT.REREAD_DONE, 2, .w1c⟩, ⟨Reg.OTP_EVENT.DRIFT, 1, .w1c⟩, ⟨Reg.OTP_EVENT.MARGINAL, 0, .w1c⟩]⟩,
  ⟨"OTP_EVENT_EN", 0x40f03074, [], 32, .cold, [⟨Reg.OTP_EVENT_EN.EN, 0, .rw⟩]⟩,
  ⟨"OTP_WORD", 0x40f03400, [(512, 0x4)], 32, .cold, [⟨Reg.OTP_WORD.VALUE, 0, .ro⟩]⟩]

/-- Registers of spec file 11, part 1. -/
def regs11_0 : List RegDef := [
  ⟨"AON_STATUS", 0x40e00000, [], 32, .aon, [⟨Reg.AON_STATUS.SOURCE, 31, .ro⟩, ⟨Reg.AON_STATUS.DWELL, 30, .ro⟩, ⟨Reg.AON_STATUS.QUALIFY, 29, .ro⟩, ⟨Reg.AON_STATUS.RC_ACTIVE, 28, .ro⟩, ⟨Reg.AON_STATUS.XTAL32_OK, 27, .ro⟩, ⟨Reg.AON_STATUS.BBRAM_BAD, 26, .ro⟩, ⟨Reg.AON_STATUS.AONPOR, 25, .w1c⟩, ⟨Reg.AON_STATUS.PWR_FAIL, 24, .ro⟩, ⟨Reg.AON_STATUS.WAKE_IN, 23, .ro⟩, ⟨Reg.AON_STATUS.WAKE_DRIVE, 22, .ro⟩, ⟨Reg.AON_STATUS.ALERT, 21, .ro⟩]⟩,
  ⟨"AON_TICKS", 0x40e00008, [], 64, .aon, [⟨Reg.AON_TICKS.TICKS, 0, .ro⟩]⟩,
  ⟨"AON_SUPPLY", 0x40e00010, [], 32, .aon, [⟨Reg.AON_SUPPLY.VAON, 16, .ro⟩, ⟨Reg.AON_SUPPLY.VBAT, 0, .ro⟩]⟩,
  ⟨"AON_SWITCH", 0x40e00014, [], 32, .aon, [⟨Reg.AON_SWITCH.COUNT, 0, .ro⟩]⟩,
  ⟨"AON_WAKE_STATUS", 0x40e00018, [], 32, .aon, [⟨Reg.AON_WAKE_STATUS.ATTEMPTS, 20, .ro⟩, ⟨Reg.AON_WAKE_STATUS.CAUSE, 12, .ro⟩, ⟨Reg.AON_WAKE_STATUS.RESULT, 0, .ro⟩]⟩,
  ⟨"AON_WAKE_FAILS", 0x40e0001c, [], 32, .aon, [⟨Reg.AON_WAKE_FAILS.PWR, 24, .ro⟩, ⟨Reg.AON_WAKE_FAILS.XTAL, 16, .ro⟩, ⟨Reg.AON_WAKE_FAILS.PLL, 8, .ro⟩, ⟨Reg.AON_WAKE_FAILS.XTAL32, 0, .ro⟩]⟩,
  ⟨"AON_CAL", 0x40e00020, [], 64, .aon, [⟨Reg.AON_CAL.ARMED, 63, .rw⟩, ⟨Reg.AON_CAL.DEADLINE, 0, .rw⟩]⟩,
  ⟨"AON_EVENT", 0x40e00030, [], 32, .aon, [⟨Reg.AON_EVENT.WAKE, 11, .w1c⟩, ⟨Reg.AON_EVENT.OVERRUN, 10, .w1c⟩, ⟨Reg.AON_EVENT.PWR_FAIL, 9, .w1c⟩, ⟨Reg.AON_EVENT.AONPOR, 8, .w1c⟩, ⟨Reg.AON_EVENT.VBAT_WARN, 7, .w1c⟩, ⟨Reg.AON_EVENT.TO_VAON, 6, .w1c⟩, ⟨Reg.AON_EVENT.TO_VBAT, 5, .w1c⟩, ⟨Reg.AON_EVENT.XTAL32_FAIL, 4, .w1c⟩, ⟨Reg.AON_EVENT.PLL_TIMEOUT, 3, .w1c⟩, ⟨Reg.AON_EVENT.XTAL_TIMEOUT, 2, .w1c⟩, ⟨Reg.AON_EVENT.PWR_TIMEOUT, 1, .w1c⟩, ⟨Reg.AON_EVENT.REFRESH_DUE, 0, .w1c⟩]⟩,
  ⟨"AON_ALERT_EN", 0x40e00034, [], 32, .aon, [⟨Reg.AON_ALERT_EN.EN, 0, .rw⟩]⟩,
  ⟨"AON_EVENT_EN", 0x40e00038, [], 32, .warm, [⟨Reg.AON_EVENT_EN.EN, 0, .rw⟩]⟩,
  ⟨"AON_CTRL", 0x40e00040, [], 32, .warm, [⟨Reg.AON_CTRL.CLEAR_FAILS, 1, .wo⟩, ⟨Reg.AON_CTRL.XTAL32_RETRY, 0, .wo⟩]⟩,
  ⟨"AON_CDC_OVR", 0x40e00044, [], 32, .warm, [⟨Reg.AON_CDC_OVR.SVC, 4, .w1c⟩, ⟨Reg.AON_CDC_OVR.TO_AON, 3, .w1c⟩, ⟨Reg.AON_CDC_OVR.FROM_AON, 2, .w1c⟩, ⟨Reg.AON_CDC_OVR.MEDIA, 1, .w1c⟩, ⟨Reg.AON_CDC_OVR.HOST, 0, .w1c⟩]⟩]

/-- Registers of spec file 11, part 2. -/
def regs11_1 : List RegDef := [
  ⟨"AON_CLK_STATUS", 0x40e00048, [], 32, .cold, [⟨Reg.AON_CLK_STATUS.XTAL25_OK, 31, .ro⟩, ⟨Reg.AON_CLK_STATUS.SYSPLL_LOCK, 30, .ro⟩, ⟨Reg.AON_CLK_STATUS.MPLL_LOCK, 29, .ro⟩, ⟨Reg.AON_CLK_STATUS.HREF_A, 28, .ro⟩, ⟨Reg.AON_CLK_STATUS.HREF_B, 27, .ro⟩, ⟨Reg.AON_CLK_STATUS.EVCLK_ON, 26, .ro⟩, ⟨Reg.AON_CLK_STATUS.RC_PPM, 0, .ro⟩]⟩,
  ⟨"AON_BBRAM", 0x40e08000, [(2048, 0x4)], 32, .aon, [⟨Reg.AON_BBRAM.DATA, 0, .rw⟩]⟩]

/-- Registers of spec file 12, part 1. -/
def regs12_0 : List RegDef := [
  ⟨"POL_CORE_CTRL", 0x40c00000, [(2, 0x100)], 32, .warm, [⟨Reg.POL_CORE_CTRL.RESET, 0, .rw⟩]⟩,
  ⟨"POL_CORE_STATUS", 0x40c00004, [(2, 0x100)], 32, .warm, [⟨Reg.POL_CORE_STATUS.STATE, 30, .ro⟩, ⟨Reg.POL_CORE_STATUS.PAM, 29, .ro⟩, ⟨Reg.POL_CORE_STATUS.DF, 28, .ro⟩, ⟨Reg.POL_CORE_STATUS.CMDOUT, 0, .ro⟩]⟩,
  ⟨"POL_CORE_PC", 0x40c00008, [(2, 0x100)], 32, .warm, [⟨Reg.POL_CORE_PC.PC, 0, .ro⟩]⟩,
  ⟨"POL_CORE_EPOCH", 0x40c0000c, [(2, 0x100)], 32, .warm, [⟨Reg.POL_CORE_EPOCH.EPOCH, 0, .ro⟩]⟩,
  ⟨"POL_CMDQ_BASE", 0x40c00010, [(2, 0x100)], 32, .warm, [⟨Reg.POL_CMDQ_BASE.ADDR, 15, .rw⟩]⟩,
  ⟨"POL_CMDQ_PTR", 0x40c00014, [(2, 0x100)], 32, .warm, [⟨Reg.POL_CMDQ_PTR.TAIL, 16, .ro⟩, ⟨Reg.POL_CMDQ_PTR.HEAD, 0, .rw⟩]⟩,
  ⟨"POL_DMA_LOCAL", 0x40c00020, [(2, 0x100)], 32, .warm, [⟨Reg.POL_DMA_LOCAL.ADDR, 0, .rw⟩]⟩,
  ⟨"POL_DMA_OFFSET", 0x40c00024, [(2, 0x100)], 32, .warm, [⟨Reg.POL_DMA_OFFSET.OFFSET, 0, .rw⟩]⟩,
  ⟨"POL_DMA_LEN", 0x40c00028, [(2, 0x100)], 32, .warm, [⟨Reg.POL_DMA_LEN.LEN, 0, .rw⟩]⟩,
  ⟨"POL_DMA_CTRL", 0x40c0002c, [(2, 0x100)], 32, .warm, [⟨Reg.POL_DMA_CTRL.TAG, 16, .wo⟩, ⟨Reg.POL_DMA_CTRL.DIR, 1, .wo⟩, ⟨Reg.POL_DMA_CTRL.GO, 0, .wo⟩]⟩,
  ⟨"POL_DMA_STATUS", 0x40c00030, [(2, 0x100)], 32, .warm, [⟨Reg.POL_DMA_STATUS.BUSY, 31, .ro⟩, ⟨Reg.POL_DMA_STATUS.ERR, 0, .ro⟩]⟩,
  ⟨"POL_CMD_RES0", 0x40c00040, [(2, 0x100)], 64, .warm, [⟨Reg.POL_CMD_RES0.RES0, 0, .rw⟩]⟩]

/-- Registers of spec file 12, part 2. -/
def regs12_1 : List RegDef := [
  ⟨"POL_CMD_RES1", 0x40c00048, [(2, 0x100)], 32, .warm, [⟨Reg.POL_CMD_RES1.RES1, 0, .rw⟩]⟩,
  ⟨"POL_CMD_DONE", 0x40c0004c, [(2, 0x100)], 32, .warm, [⟨Reg.POL_CMD_DONE.STATUS, 16, .wo⟩, ⟨Reg.POL_CMD_DONE.TAG, 0, .wo⟩]⟩,
  ⟨"POL_EVENT", 0x40c00800, [], 32, .warm, [⟨Reg.POL_EVENT.RING_FULL, 3, .w1c⟩, ⟨Reg.POL_EVENT.CANCELLED, 2, .w1c⟩, ⟨Reg.POL_EVENT.BAD_STATUS, 1, .w1c⟩, ⟨Reg.POL_EVENT.BAD_TAG, 0, .w1c⟩]⟩,
  ⟨"POL_EVENT_EN", 0x40c00804, [], 32, .warm, [⟨Reg.POL_EVENT_EN.EN, 0, .rw⟩]⟩,
  ⟨"POL_ROUTE", 0x40c00810, [], 64, .warm, [⟨Reg.POL_ROUTE.MASK, 0, .ro⟩]⟩,
  ⟨"KPR_STATUS", 0x40b00000, [], 32, .cold, [⟨Reg.KPR_STATUS.RUNNING, 31, .ro⟩, ⟨Reg.KPR_STATUS.HALTED, 30, .ro⟩, ⟨Reg.KPR_STATUS.RESTARTS, 16, .ro⟩, ⟨Reg.KPR_STATUS.PENDING, 0, .ro⟩]⟩,
  ⟨"KPR_KCALL_COUNT", 0x40b00008, [], 64, .cold, [⟨Reg.KPR_KCALL_COUNT.COUNT, 0, .ro⟩]⟩,
  ⟨"KPR_MISMATCH", 0x40b00010, [], 32, .cold, [⟨Reg.KPR_MISMATCH.COUNT, 0, .ro⟩]⟩,
  ⟨"KPR_VERSION", 0x40b00014, [], 32, .cold, [⟨Reg.KPR_VERSION.ROM, 16, .ro⟩, ⟨Reg.KPR_VERSION.FW, 0, .ro⟩]⟩]

/-- Registers of spec file 13, part 1. -/
def regs13_0 : List RegDef := [
  ⟨"ICU_PCFG", 0x200000000, [(3, 0x10000), (32, 0x4)], 32, .warm, [⟨Reg.ICU_PCFG.EN, 31, .rw⟩, ⟨Reg.ICU_PCFG.PEND, 30, .w1c⟩, ⟨Reg.ICU_PCFG.INSVC, 29, .ro⟩, ⟨Reg.ICU_PCFG.LEVEL, 0, .rw⟩]⟩,
  ⟨"ICU_THRESH", 0x200000100, [(3, 0x10000)], 32, .warm, [⟨Reg.ICU_THRESH.THRESH, 0, .rw⟩]⟩,
  ⟨"ICU_NEST", 0x200000104, [(3, 0x10000)], 32, .warm, [⟨Reg.ICU_NEST.NEST, 0, .ro⟩]⟩,
  ⟨"ICU_PEEK", 0x200000110, [(3, 0x10000)], 32, .warm, [⟨Reg.ICU_PEEK.VALID, 31, .ro⟩, ⟨Reg.ICU_PEEK.LEVEL, 16, .ro⟩, ⟨Reg.ICU_PEEK.ID, 0, .ro⟩]⟩,
  ⟨"ICU_TAKE", 0x200000114, [(3, 0x10000)], 32, .warm, [⟨Reg.ICU_TAKE.ID, 0, .wo⟩]⟩,
  ⟨"ICU_RETIRE", 0x200000118, [(3, 0x10000)], 32, .warm, [⟨Reg.ICU_RETIRE.LEVEL, 0, .wo⟩]⟩,
  ⟨"ICU_PSTAT", 0x20000011c, [(3, 0x10000)], 32, .warm, [⟨Reg.ICU_PSTAT.STALE_TAKE, 1, .w1c⟩, ⟨Reg.ICU_PSTAT.BAD_RETIRE, 0, .w1c⟩]⟩,
  ⟨"ICU_TCMP", 0x200000120, [(3, 0x10000)], 64, .warm, [⟨Reg.ICU_TCMP.CMP, 0, .rw⟩]⟩,
  ⟨"ICU_HOLDOVR", 0x200000130, [(3, 0x10000)], 32, .warm, [⟨Reg.ICU_HOLDOVR.COUNT, 0, .rwz⟩]⟩,
  ⟨"ICU_HOLDPC", 0x200000134, [(3, 0x10000)], 32, .warm, [⟨Reg.ICU_HOLDPC.PC, 0, .ro⟩]⟩,
  ⟨"ICU_SRC_CFG", 0x40c01000, [(480, 0x8)], 32, .warm, [⟨Reg.ICU_SRC_CFG.EN, 31, .rw⟩, ⟨Reg.ICU_SRC_CFG.LOCK, 30, .ro⟩, ⟨Reg.ICU_SRC_CFG.TARGET, 28, .rw⟩, ⟨Reg.ICU_SRC_CFG.LEVEL, 20, .rw⟩, ⟨Reg.ICU_SRC_CFG.COUNT, 0, .rw⟩]⟩,
  ⟨"ICU_SRC_COAL", 0x40c01004, [(480, 0x8)], 32, .warm, [⟨Reg.ICU_SRC_COAL.TIME, 0, .rw⟩]⟩]

/-- Registers of spec file 13, part 2. -/
def regs13_1 : List RegDef := [
  ⟨"ICU_PENDING", 0x40c02000, [(15, 0x4)], 32, .warm, [⟨Reg.ICU_PENDING.PEND, 0, .ro⟩]⟩,
  ⟨"ICU_INSERVICE", 0x40c02040, [(15, 0x4)], 32, .warm, [⟨Reg.ICU_INSERVICE.INSVC, 0, .ro⟩]⟩,
  ⟨"ICU_SWI", 0x40c02080, [], 32, .warm, [⟨Reg.ICU_SWI.SWI, 0, .wo⟩]⟩,
  ⟨"ICU_CORE_LEVEL", 0x40c02100, [(3, 0x4)], 32, .warm, [⟨Reg.ICU_CORE_LEVEL.THRESH, 16, .ro⟩, ⟨Reg.ICU_CORE_LEVEL.NEST, 0, .ro⟩]⟩,
  ⟨"ICU_LOCKUP_PC", 0x40c02110, [(2, 0x4)], 32, .warm, [⟨Reg.ICU_LOCKUP_PC.PC, 0, .ro⟩]⟩]

/-- Registers of spec file 14, part 1. -/
def regs14_0 : List RegDef := [
  ⟨"MPU_CTRL", 0x40c03000, [(2, 0x400)], 32, .warm, [⟨Reg.MPU_CTRL.PRIVDEF, 1, .rw⟩, ⟨Reg.MPU_CTRL.EN, 0, .rw⟩]⟩,
  ⟨"MPU_STATUS", 0x40c03004, [(2, 0x400)], 32, .warm, [⟨Reg.MPU_STATUS.TAG_BUSY, 31, .ro⟩, ⟨Reg.MPU_STATUS.TAG_ERR, 30, .w1c⟩, ⟨Reg.MPU_STATUS.RGN_WR_IGNORED, 29, .w1c⟩, ⟨Reg.MPU_STATUS.ENABLED, 0, .ro⟩]⟩,
  ⟨"MPU_FAULT", 0x40c03008, [(2, 0x400)], 32, .warm, [⟨Reg.MPU_FAULT.VALID, 31, .w1c⟩, ⟨Reg.MPU_FAULT.OVER, 30, .w1c⟩, ⟨Reg.MPU_FAULT.REGION2, 20, .ro⟩, ⟨Reg.MPU_FAULT.REGION, 16, .ro⟩, ⟨Reg.MPU_FAULT.CAUSE, 8, .ro⟩, ⟨Reg.MPU_FAULT.ACCESS, 4, .ro⟩, ⟨Reg.MPU_FAULT.PRIV, 3, .ro⟩]⟩,
  ⟨"MPU_FAULT_ADDR", 0x40c0300c, [(2, 0x400)], 32, .warm, [⟨Reg.MPU_FAULT_ADDR.ADDR, 0, .ro⟩]⟩,
  ⟨"MPU_TAG_ADDR", 0x40c03010, [(2, 0x400)], 32, .warm, [⟨Reg.MPU_TAG_ADDR.ADDR, 6, .rw⟩]⟩,
  ⟨"MPU_TAG_SET", 0x40c03014, [(2, 0x400)], 32, .warm, [⟨Reg.MPU_TAG_SET.GO, 31, .wo⟩, ⟨Reg.MPU_TAG_SET.COLOUR, 16, .wo⟩, ⟨Reg.MPU_TAG_SET.COUNT, 0, .wo⟩]⟩,
  ⟨"MPU_TAG_GET", 0x40c03018, [(2, 0x400)], 32, .warm, [⟨Reg.MPU_TAG_GET.COLOUR, 0, .ro⟩]⟩,
  ⟨"MPU_RGN_BASE", 0x40c03100, [(2, 0x400), (16, 0x10)], 32, .warm, [⟨Reg.MPU_RGN_BASE.ADDR, 6, .rw⟩]⟩,
  ⟨"MPU_RGN_LIMIT", 0x40c03104, [(2, 0x400), (16, 0x10)], 32, .warm, [⟨Reg.MPU_RGN_LIMIT.ADDR, 6, .rw⟩]⟩,
  ⟨"MPU_RGN_ATTR", 0x40c03108, [(2, 0x400), (16, 0x10)], 32, .warm, [⟨Reg.MPU_RGN_ATTR.EN, 31, .rw⟩, ⟨Reg.MPU_RGN_ATTR.COLOUR, 8, .rw⟩, ⟨Reg.MPU_RGN_ATTR.SX, 5, .rw⟩, ⟨Reg.MPU_RGN_ATTR.SW, 4, .rw⟩, ⟨Reg.MPU_RGN_ATTR.SR, 3, .rw⟩, ⟨Reg.MPU_RGN_ATTR.UX, 2, .rw⟩, ⟨Reg.MPU_RGN_ATTR.UW, 1, .rw⟩, ⟨Reg.MPU_RGN_ATTR.UR, 0, .rw⟩]⟩,
  ⟨"FWL_CTRL", 0x40b01000, [], 32, .warm, [⟨Reg.FWL_CTRL.COMMIT, 0, .wo⟩]⟩,
  ⟨"FWL_STATUS", 0x40b01004, [], 32, .warm, [⟨Reg.FWL_STATUS.BUSY, 31, .ro⟩, ⟨Reg.FWL_STATUS.LATE, 16, .ro⟩, ⟨Reg.FWL_STATUS.COMMITS, 0, .ro⟩]⟩]

/-- Registers of spec file 14, part 2. -/
def regs14_1 : List RegDef := [
  ⟨"FWL_STG_LOW", 0x40b01008, [], 32, .warm, [⟨Reg.FWL_STG_LOW.ADDR, 20, .rw⟩]⟩,
  ⟨"FWL_EVENT", 0x40b01010, [], 32, .warm, [⟨Reg.FWL_EVENT.LATE, 2, .w1c⟩, ⟨Reg.FWL_EVENT.COMMIT, 1, .w1c⟩, ⟨Reg.FWL_EVENT.DENY, 0, .w1c⟩]⟩,
  ⟨"FWL_EVENT_EN", 0x40b01014, [], 32, .warm, [⟨Reg.FWL_EVENT_EN.EN, 0, .rw⟩]⟩,
  ⟨"FWL_DENY_COUNT", 0x40b01018, [], 32, .warm, [⟨Reg.FWL_DENY_COUNT.COUNT, 0, .rwz⟩]⟩,
  ⟨"FWL_DENY_HEAD", 0x40b0101c, [], 32, .warm, [⟨Reg.FWL_DENY_HEAD.NEXT, 0, .ro⟩]⟩,
  ⟨"FWL_DENY_ADDR", 0x40b01100, [(16, 0x8)], 32, .warm, [⟨Reg.FWL_DENY_ADDR.ADDR, 0, .ro⟩]⟩,
  ⟨"FWL_DENY_INFO", 0x40b01104, [(16, 0x8)], 32, .warm, [⟨Reg.FWL_DENY_INFO.TICKS, 16, .ro⟩, ⟨Reg.FWL_DENY_INFO.RULE, 8, .ro⟩, ⟨Reg.FWL_DENY_INFO.WRITE, 4, .ro⟩, ⟨Reg.FWL_DENY_INFO.MASTER, 0, .ro⟩]⟩,
  ⟨"FWL_SWIN_BASE", 0x40b02000, [(128, 0x10)], 32, .warm, [⟨Reg.FWL_SWIN_BASE.PAGE, 12, .rw⟩, ⟨Reg.FWL_SWIN_BASE.EN, 0, .rw⟩]⟩,
  ⟨"FWL_SWIN_LIMIT", 0x40b02004, [(128, 0x10)], 32, .warm, [⟨Reg.FWL_SWIN_LIMIT.PAGE, 12, .rw⟩]⟩,
  ⟨"FWL_SWIN_PERM", 0x40b02008, [(128, 0x10)], 32, .warm, [⟨Reg.FWL_SWIN_PERM.RMASK, 16, .rw⟩, ⟨Reg.FWL_SWIN_PERM.WMASK, 0, .rw⟩]⟩,
  ⟨"FWL_AWIN_BASE", 0x40b02800, [(128, 0x10)], 32, .warm, [⟨Reg.FWL_AWIN_BASE.PAGE, 12, .ro⟩, ⟨Reg.FWL_AWIN_BASE.EN, 0, .ro⟩]⟩,
  ⟨"FWL_AWIN_LIMIT", 0x40b02804, [(128, 0x10)], 32, .warm, [⟨Reg.FWL_AWIN_LIMIT.PAGE, 12, .ro⟩]⟩]

/-- Registers of spec file 14, part 3. -/
def regs14_2 : List RegDef := [
  ⟨"FWL_AWIN_PERM", 0x40b02808, [(128, 0x10)], 32, .warm, [⟨Reg.FWL_AWIN_PERM.RMASK, 16, .ro⟩, ⟨Reg.FWL_AWIN_PERM.WMASK, 0, .ro⟩]⟩]

/-- Registers of spec file 15, part 1. -/
def regs15_0 : List RegDef := [
  ⟨"EFL_IF_STATUS", 0x40d00000, [(4, 0x100)], 32, .warm, [⟨Reg.EFL_IF_STATUS.BUSY, 31, .ro⟩, ⟨Reg.EFL_IF_STATUS.WAIT, 30, .ro⟩, ⟨Reg.EFL_IF_STATUS.LASTOP, 8, .ro⟩, ⟨Reg.EFL_IF_STATUS.ERR, 0, .ro⟩]⟩,
  ⟨"EFL_IF_CMD", 0x40d00004, [(4, 0x100)], 32, .warm, [⟨Reg.EFL_IF_CMD.OP, 0, .wo⟩]⟩,
  ⟨"EFL_IF_ADDR", 0x40d00008, [(4, 0x100)], 32, .warm, [⟨Reg.EFL_IF_ADDR.ADDR, 0, .rw⟩]⟩,
  ⟨"EFL_IF_WDATA", 0x40d00020, [(4, 0x100), (8, 0x4)], 32, .warm, [⟨Reg.EFL_IF_WDATA.DATA, 0, .rw⟩]⟩,
  ⟨"EFL_BANK_STATUS", 0x40d00400, [(2, 0x100)], 32, .warm, [⟨Reg.EFL_BANK_STATUS.STATE, 29, .ro⟩, ⟨Reg.EFL_BANK_STATUS.SUSIF, 28, .ro⟩, ⟨Reg.EFL_BANK_STATUS.EPULSES, 8, .ro⟩, ⟨Reg.EFL_BANK_STATUS.PULSES, 0, .ro⟩]⟩,
  ⟨"EFL_BANK_ECC", 0x40d00404, [(2, 0x100)], 32, .warm, [⟨Reg.EFL_BANK_ECC.CORR, 16, .ro⟩, ⟨Reg.EFL_BANK_ECC.UNCORR, 0, .ro⟩]⟩,
  ⟨"EFL_BANK_SUSADDR", 0x40d00408, [(2, 0x100)], 32, .warm, [⟨Reg.EFL_BANK_SUSADDR.ADDR, 0, .ro⟩]⟩,
  ⟨"EFL_EVENT", 0x40d00800, [], 32, .warm, [⟨Reg.EFL_EVENT.UNCORR, 10, .w1c⟩, ⟨Reg.EFL_EVENT.REFRESH_BLOCKED, 9, .w1c⟩, ⟨Reg.EFL_EVENT.INCOMPLETE, 8, .w1c⟩, ⟨Reg.EFL_EVENT.ERASE_SLOW, 7, .w1c⟩, ⟨Reg.EFL_EVENT.PULSE_HIGH, 6, .w1c⟩, ⟨Reg.EFL_EVENT.FAIL, 5, .w1c⟩, ⟨Reg.EFL_EVENT.DONE, 0, .w1c⟩]⟩,
  ⟨"EFL_EVENT_EN", 0x40d00804, [], 32, .warm, [⟨Reg.EFL_EVENT_EN.EN, 0, .rw⟩]⟩,
  ⟨"EFL_WEAR", 0x40d00808, [], 32, .warm, [⟨Reg.EFL_WEAR.ADDR, 0, .ro⟩]⟩,
  ⟨"EFL_REFRESH", 0x40d00810, [], 32, .warm, [⟨Reg.EFL_REFRESH.BLOCKED, 16, .ro⟩, ⟨Reg.EFL_REFRESH.NEXT, 0, .ro⟩]⟩,
  ⟨"EFL_WP", 0x40d00900, [(16, 0x4)], 32, .cold, [⟨Reg.EFL_WP.WP, 0, .rws⟩]⟩]

/-- Registers of spec file 15, part 2. -/
def regs15_1 : List RegDef := [
  ⟨"EFL_INCOMPLETE", 0x40d00a00, [(44, 0x4)], 32, .warm, [⟨Reg.EFL_INCOMPLETE.SECTOR, 0, .ro⟩]⟩]

/-- Registers of spec file 16, part 1. -/
def regs16_0 : List RegDef := [
  ⟨"TMP_STATUS", 0x40e01000, [], 32, .aon, [⟨Reg.TMP_STATUS.SESSION, 30, .ro⟩, ⟨Reg.TMP_STATUS.LOCK_FLAG, 29, .ro⟩, ⟨Reg.TMP_STATUS.TESTING, 28, .ro⟩, ⟨Reg.TMP_STATUS.K, 20, .ro⟩, ⟨Reg.TMP_STATUS.N, 16, .ro⟩, ⟨Reg.TMP_STATUS.COUNTED, 12, .ro⟩]⟩,
  ⟨"TMP_ALARM", 0x40e01004, [], 32, .aon, [⟨Reg.TMP_ALARM.ALARM, 0, .ro⟩]⟩,
  ⟨"TMP_LATCHED", 0x40e01008, [], 32, .aon, [⟨Reg.TMP_LATCHED.LATCHED, 0, .w1c⟩]⟩,
  ⟨"TMP_DISAGREE", 0x40e0100c, [], 32, .aon, [⟨Reg.TMP_DISAGREE.SRC, 0, .w1c⟩]⟩,
  ⟨"TMP_TESTFAIL", 0x40e01010, [], 32, .aon, [⟨Reg.TMP_TESTFAIL.SRC, 0, .w1c⟩]⟩,
  ⟨"TMP_CTRL", 0x40e01014, [], 32, .warm, [⟨Reg.TMP_CTRL.TEST, 0, .wo⟩]⟩,
  ⟨"TMP_PERIOD", 0x40e01018, [], 32, .aon, [⟨Reg.TMP_PERIOD.TICKS, 0, .ro⟩]⟩,
  ⟨"TMP_TEMP", 0x40e0101c, [], 32, .aon, [⟨Reg.TMP_TEMP.A, 16, .ro⟩, ⟨Reg.TMP_TEMP.B, 0, .ro⟩]⟩,
  ⟨"TMP_COUNT", 0x40e01020, [], 32, .cold, [⟨Reg.TMP_COUNT.COUNT, 0, .ro⟩]⟩,
  ⟨"TMP_SESSION_LEFT", 0x40e01024, [], 32, .warm, [⟨Reg.TMP_SESSION_LEFT.SECONDS, 0, .ro⟩]⟩,
  ⟨"TMP_LOG_HEAD", 0x40e01028, [], 32, .aon, [⟨Reg.TMP_LOG_HEAD.LOST, 8, .ro⟩, ⟨Reg.TMP_LOG_HEAD.NEXT, 0, .ro⟩]⟩,
  ⟨"TMP_EVENT", 0x40e01030, [], 32, .warm, [⟨Reg.TMP_EVENT.SESSION, 4, .w1c⟩, ⟨Reg.TMP_EVENT.TESTFAIL, 3, .w1c⟩, ⟨Reg.TMP_EVENT.DISAGREE, 2, .w1c⟩, ⟨Reg.TMP_EVENT.LOCK, 1, .w1c⟩, ⟨Reg.TMP_EVENT.ALARM, 0, .w1c⟩]⟩]

/-- Registers of spec file 16, part 2. -/
def regs16_1 : List RegDef := [
  ⟨"TMP_EVENT_EN", 0x40e01034, [], 32, .warm, [⟨Reg.TMP_EVENT_EN.EN, 0, .rw⟩]⟩,
  ⟨"TMP_ACTIONS", 0x40e01100, [(20, 0x4)], 32, .aon, [⟨Reg.TMP_ACTIONS.FLOOR, 8, .ro⟩, ⟨Reg.TMP_ACTIONS.SET, 0, .ro⟩]⟩,
  ⟨"TMP_LOOP", 0x40e01200, [(4, 0x4)], 32, .aon, [⟨Reg.TMP_LOOP.SENT, 8, .ro⟩, ⟨Reg.TMP_LOOP.SEEN, 0, .ro⟩]⟩]

/-- Registers of spec file 17, part 1. -/
def regs17_0 : List RegDef := [
  ⟨"CRD_STATUS", 0x40f00000, [], 32, .warm, [⟨Reg.CRD_STATUS.PRESENT, 31, .ro⟩, ⟨Reg.CRD_STATUS.ACTIVE, 30, .ro⟩, ⟨Reg.CRD_STATUS.CLASS, 28, .ro⟩, ⟨Reg.CRD_STATUS.CLKSTOP, 27, .ro⟩, ⟨Reg.CRD_STATUS.STOPOK, 26, .ro⟩, ⟨Reg.CRD_STATUS.PURPOSE, 24, .ro⟩, ⟨Reg.CRD_STATUS.PPS1, 16, .ro⟩, ⟨Reg.CRD_STATUS.ATRLEN, 8, .ro⟩, ⟨Reg.CRD_STATUS.DIV, 0, .ro⟩]⟩,
  ⟨"CRD_CTRL", 0x40f00004, [], 32, .warm, [⟨Reg.CRD_CTRL.DEACT, 0, .wo⟩]⟩,
  ⟨"CRD_SET_CTRL", 0x40f00008, [], 32, .warm, [⟨Reg.CRD_SET_CTRL.K, 8, .wo⟩, ⟨Reg.CRD_SET_CTRL.IDX, 2, .wo⟩, ⟨Reg.CRD_SET_CTRL.OP, 0, .wo⟩]⟩,
  ⟨"CRD_SET_STATUS", 0x40f0000c, [], 32, .warm, [⟨Reg.CRD_SET_STATUS.BUSY, 31, .ro⟩, ⟨Reg.CRD_SET_STATUS.SN, 24, .ro⟩, ⟨Reg.CRD_SET_STATUS.STAGED, 16, .ro⟩, ⟨Reg.CRD_SET_STATUS.RESULT, 0, .ro⟩]⟩,
  ⟨"CRD_RESULT", 0x40f00010, [], 32, .warm, [⟨Reg.CRD_RESULT.COUNTED, 31, .ro⟩, ⟨Reg.CRD_RESULT.FAILED, 30, .ro⟩, ⟨Reg.CRD_RESULT.INDEX, 16, .ro⟩, ⟨Reg.CRD_RESULT.STATUS, 0, .ro⟩]⟩,
  ⟨"CRD_ERRS", 0x40f00014, [], 32, .warm, [⟨Reg.CRD_ERRS.FRAMING, 16, .ro⟩, ⟨Reg.CRD_ERRS.REPEATS, 0, .ro⟩]⟩,
  ⟨"CRD_ATR", 0x40f00020, [(9, 0x4)], 32, .warm, [⟨Reg.CRD_ATR.DATA, 0, .ro⟩]⟩,
  ⟨"CRD_EVENT", 0x40f00060, [], 32, .warm, [⟨Reg.CRD_EVENT.SET_DONE, 4, .w1c⟩, ⟨Reg.CRD_EVENT.ERROR, 3, .w1c⟩, ⟨Reg.CRD_EVENT.REMOVED, 2, .w1c⟩, ⟨Reg.CRD_EVENT.EXCHANGE, 1, .w1c⟩, ⟨Reg.CRD_EVENT.INSERTED, 0, .w1c⟩]⟩,
  ⟨"CRD_EVENT_EN", 0x40f00064, [], 32, .warm, [⟨Reg.CRD_EVENT_EN.EN, 0, .rw⟩]⟩,
  ⟨"CRD_CARD", 0x40f00100, [(8, 0x10)], 64, .cold, [⟨Reg.CRD_CARD.CARDID, 0, .ro⟩]⟩,
  ⟨"CRD_CARD_INFO", 0x40f00108, [(8, 0x10)], 32, .cold, [⟨Reg.CRD_CARD_INFO.VALID, 31, .ro⟩]⟩]

/-- Registers of spec file 18, part 1. -/
def regs18_0 : List RegDef := [
  ⟨"NPL_STATUS", 0x40f01000, [], 32, .warm, [⟨Reg.NPL_STATUS.FIELD, 31, .ro⟩, ⟨Reg.NPL_STATUS.SELECTED, 30, .ro⟩, ⟨Reg.NPL_STATUS.AUTH, 29, .ro⟩, ⟨Reg.NPL_STATUS.KEYSET, 28, .ro⟩, ⟨Reg.NPL_STATUS.LOCKED_PAGE, 27, .ro⟩, ⟨Reg.NPL_STATUS.PAGE, 0, .ro⟩]⟩,
  ⟨"NPL_UID", 0x40f01008, [], 64, .cold, [⟨Reg.NPL_UID.UID, 0, .ro⟩]⟩,
  ⟨"NPL_KUPD", 0x40f01010, [], 32, .warm, [⟨Reg.NPL_KUPD.GO, 31, .wo⟩, ⟨Reg.NPL_KUPD.PAGE, 0, .wo⟩]⟩,
  ⟨"NPL_PUPD", 0x40f01014, [], 32, .warm, [⟨Reg.NPL_PUPD.GO, 31, .wo⟩]⟩,
  ⟨"NPL_UPD_STATUS", 0x40f01018, [], 32, .warm, [⟨Reg.NPL_UPD_STATUS.KBUSY, 31, .ro⟩, ⟨Reg.NPL_UPD_STATUS.PBUSY, 30, .ro⟩, ⟨Reg.NPL_UPD_STATUS.ABUSY, 29, .ro⟩, ⟨Reg.NPL_UPD_STATUS.RBUSY, 28, .ro⟩, ⟨Reg.NPL_UPD_STATUS.LOCKMAX, 0, .ro⟩]⟩,
  ⟨"NPL_KEY", 0x40f01020, [(4, 0x4)], 32, .warm, [⟨Reg.NPL_KEY.KEY, 0, .wo⟩]⟩,
  ⟨"NPL_KEY_CTRL", 0x40f01030, [], 32, .warm, [⟨Reg.NPL_KEY_CTRL.CLEAR, 1, .wo⟩, ⟨Reg.NPL_KEY_CTRL.SET, 0, .wo⟩]⟩,
  ⟨"NPL_VER", 0x40f01040, [(15, 0x4)], 32, .warm, [⟨Reg.NPL_VER.COPY, 16, .ro⟩, ⟨Reg.NPL_VER.VER, 0, .ro⟩]⟩,
  ⟨"NPL_AUTH_CTR", 0x40f01080, [], 32, .warm, [⟨Reg.NPL_AUTH_CTR.CTR, 0, .ro⟩]⟩,
  ⟨"NPL_AUTH_FAIL", 0x40f01084, [], 32, .warm, [⟨Reg.NPL_AUTH_FAIL.COUNT, 0, .ro⟩]⟩,
  ⟨"NPL_MEMO_WRITES", 0x40f01088, [], 32, .warm, [⟨Reg.NPL_MEMO_WRITES.COUNT, 0, .ro⟩]⟩,
  ⟨"NPL_EVENT", 0x40f010a0, [], 32, .warm, [⟨Reg.NPL_EVENT.UPDATE_DONE, 5, .w1c⟩, ⟨Reg.NPL_EVENT.KEY_REFUSED, 4, .w1c⟩, ⟨Reg.NPL_EVENT.MEMO_WRITTEN, 3, .w1c⟩, ⟨Reg.NPL_EVENT.AUTH_FAIL, 2, .w1c⟩, ⟨Reg.NPL_EVENT.AUTH_OK, 1, .w1c⟩, ⟨Reg.NPL_EVENT.FIELD_ON, 0, .w1c⟩]⟩]

/-- Registers of spec file 18, part 2. -/
def regs18_1 : List RegDef := [
  ⟨"NPL_EVENT_EN", 0x40f010a4, [], 32, .warm, [⟨Reg.NPL_EVENT_EN.EN, 0, .rw⟩]⟩,
  ⟨"NPL_RD_CTRL", 0x40f010b0, [], 32, .warm, [⟨Reg.NPL_RD_CTRL.GO, 31, .wo⟩, ⟨Reg.NPL_RD_CTRL.PAGE, 0, .wo⟩]⟩,
  ⟨"NPL_KBUF", 0x40f01100, [(64, 0x4)], 32, .warm, [⟨Reg.NPL_KBUF.DATA, 0, .rw⟩]⟩,
  ⟨"NPL_PBUF", 0x40f01200, [(32, 0x4)], 32, .warm, [⟨Reg.NPL_PBUF.DATA, 0, .rw⟩]⟩,
  ⟨"NPL_RBUF", 0x40f01300, [(64, 0x4)], 32, .warm, [⟨Reg.NPL_RBUF.DATA, 0, .ro⟩]⟩]

/-- Registers of spec file 19, part 1. -/
def regs19_0 : List RegDef := [
  ⟨"SBD_STATUS", 0x40f04000, [], 32, .warm, [⟨Reg.SBD_STATUS.SMB_ON, 31, .ro⟩, ⟨Reg.SBD_STATUS.PERST_A, 30, .ro⟩, ⟨Reg.SBD_STATUS.PERST_B, 29, .ro⟩, ⟨Reg.SBD_STATUS.PWR_GOOD, 28, .ro⟩, ⟨Reg.SBD_STATUS.UART_ON, 27, .ro⟩, ⟨Reg.SBD_STATUS.TAP_ON, 26, .ro⟩, ⟨Reg.SBD_STATUS.ADDR, 16, .ro⟩]⟩,
  ⟨"SBD_EVENT", 0x40f04010, [], 32, .warm, [⟨Reg.SBD_EVENT.PERST_B, 3, .w1c⟩, ⟨Reg.SBD_EVENT.PERST_A, 2, .w1c⟩, ⟨Reg.SBD_EVENT.SMB_TIMEOUT, 1, .w1c⟩, ⟨Reg.SBD_EVENT.SMB_ERR, 0, .w1c⟩]⟩,
  ⟨"SBD_EVENT_EN", 0x40f04014, [], 32, .warm, [⟨Reg.SBD_EVENT_EN.EN, 0, .rw⟩]⟩,
  ⟨"SBD_SMB_READS", 0x40f04018, [], 32, .warm, [⟨Reg.SBD_SMB_READS.COUNT, 0, .ro⟩]⟩]

/-- Registers of spec file 21, part 1. -/
def regs21_0 : List RegDef := [
  ⟨"QMS_DLG", 0x40100000, [(16, 0x10)], 32, .warm, [⟨Reg.QMS_DLG.ASSAY, 16, .ro⟩, ⟨Reg.QMS_DLG.READ, 8, .ro⟩, ⟨Reg.QMS_DLG.WRITE, 0, .ro⟩]⟩,
  ⟨"QMS_DLG_STALL", 0x40100004, [(16, 0x10)], 32, .warm, [⟨Reg.QMS_DLG_STALL.STALL, 0, .rwz⟩]⟩,
  ⟨"QMS_POOL", 0x40100200, [(3, 0x10)], 32, .warm, [⟨Reg.QMS_POOL.SIZE, 24, .ro⟩, ⟨Reg.QMS_POOL.OCC, 0, .ro⟩]⟩,
  ⟨"QMS_POOL_STALL", 0x40100204, [(3, 0x10)], 32, .warm, [⟨Reg.QMS_POOL_STALL.STALL, 0, .rwz⟩]⟩,
  ⟨"QMS_POOL_LENT", 0x40100240, [], 32, .warm, [⟨Reg.QMS_POOL_LENT.ASSAY, 16, .ro⟩, ⟨Reg.QMS_POOL_LENT.READ, 0, .ro⟩]⟩]

/-- Every register of the spec. -/
def registerMap : List RegDef :=
  regs02_0 ++ regs02_1 ++ regs02_2 ++ regs02_3 ++ regs04_0 ++ regs04_1 ++ regs05_0 ++ regs05_1 ++ regs05_2 ++ regs06_0 ++ regs06_1 ++ regs06_2 ++ regs07_0 ++ regs07_1 ++ regs07_2 ++ regs08_0 ++ regs08_1 ++ regs09_0 ++ regs10_0 ++ regs10_1 ++ regs11_0 ++ regs11_1 ++ regs12_0 ++ regs12_1 ++ regs13_0 ++ regs13_1 ++ regs14_0 ++ regs14_1 ++ regs14_2 ++ regs15_0 ++ regs15_1 ++ regs16_0 ++ regs16_1 ++ regs17_0 ++ regs18_0 ++ regs18_1 ++ regs19_0 ++ regs21_0

/-- An event bit of a block: its field, its enable field, its bit number, and the shared source it raises (13, R484). -/
structure Ev where
  fld : Fld
  en : Fld
  bit : Nat
  src : Nat

/-- SLA_EVENT.STAGING_UE, which raises shared source 4 (R484). -/
def Ev.SLA_STAGING_UE : Ev := ⟨Reg.SLA_EVENT.STAGING_UE, Reg.SLA_EVENT_EN.EN, 6, 4⟩
/-- SLA_EVENT.PARITY, which raises shared source 4 (R484). -/
def Ev.SLA_PARITY : Ev := ⟨Reg.SLA_EVENT.PARITY, Reg.SLA_EVENT_EN.EN, 5, 4⟩
/-- SLA_EVENT.TAG_FAIL, which raises shared source 4 (R484). -/
def Ev.SLA_TAG_FAIL : Ev := ⟨Reg.SLA_EVENT.TAG_FAIL, Reg.SLA_EVENT_EN.EN, 4, 4⟩
/-- SLA_EVENT.GROUP_SHORT, which raises shared source 4 (R484). -/
def Ev.SLA_GROUP_SHORT : Ev := ⟨Reg.SLA_EVENT.GROUP_SHORT, Reg.SLA_EVENT_EN.EN, 3, 4⟩
/-- SLA_EVENT.SPARES_EXHAUSTED, which raises shared source 4 (R484). -/
def Ev.SLA_SPARES_EXHAUSTED : Ev := ⟨Reg.SLA_EVENT.SPARES_EXHAUSTED, Reg.SLA_EVENT_EN.EN, 2, 4⟩
/-- SLA_EVENT.SPARE_USED, which raises shared source 4 (R484). -/
def Ev.SLA_SPARE_USED : Ev := ⟨Reg.SLA_EVENT.SPARE_USED, Reg.SLA_EVENT_EN.EN, 1, 4⟩
/-- SLA_EVENT.LANE_RETIRED, which raises shared source 4 (R484). -/
def Ev.SLA_LANE_RETIRED : Ev := ⟨Reg.SLA_EVENT.LANE_RETIRED, Reg.SLA_EVENT_EN.EN, 0, 4⟩
/-- STR_EVENT.TENANT_CHANGE, which raises shared source 5 (R484). -/
def Ev.STR_TENANT_CHANGE : Ev := ⟨Reg.STR_EVENT.TENANT_CHANGE, Reg.STR_EVENT_EN.EN, 4, 5⟩
/-- STR_EVENT.SLOT_UPDATE_FAIL, which raises shared source 5 (R484). -/
def Ev.STR_SLOT_UPDATE_FAIL : Ev := ⟨Reg.STR_EVENT.SLOT_UPDATE_FAIL, Reg.STR_EVENT_EN.EN, 3, 5⟩
/-- STR_EVENT.CACHE_ERASED, which raises shared source 5 (R484). -/
def Ev.STR_CACHE_ERASED : Ev := ⟨Reg.STR_EVENT.CACHE_ERASED, Reg.STR_EVENT_EN.EN, 2, 5⟩
/-- STR_EVENT.UNWRAP_FAIL, which raises shared source 5 (R484). -/
def Ev.STR_UNWRAP_FAIL : Ev := ⟨Reg.STR_EVENT.UNWRAP_FAIL, Reg.STR_EVENT_EN.EN, 1, 5⟩
/-- STR_EVENT.KEK_LOST, which raises shared source 5 (R484). -/
def Ev.STR_KEK_LOST : Ev := ⟨Reg.STR_EVENT.KEK_LOST, Reg.STR_EVENT_EN.EN, 0, 5⟩
/-- EXT_EVENT.PERSIST_DONE, which raises shared source 7 (R484). -/
def Ev.EXT_PERSIST_DONE : Ev := ⟨Reg.EXT_EVENT.PERSIST_DONE, Reg.EXT_EVENT_EN.EN, 7, 7⟩
/-- EXT_EVENT.LEAF_REPAIRED, which raises shared source 7 (R484). -/
def Ev.EXT_LEAF_REPAIRED : Ev := ⟨Reg.EXT_EVENT.LEAF_REPAIRED, Reg.EXT_EVENT_EN.EN, 6, 7⟩
/-- EXT_EVENT.EXTENT_RETIRED, which raises shared source 7 (R484). -/
def Ev.EXT_EXTENT_RETIRED : Ev := ⟨Reg.EXT_EVENT.EXTENT_RETIRED, Reg.EXT_EVENT_EN.EN, 5, 7⟩
/-- EXT_EVENT.RESERVE_USED, which raises shared source 7 (R484). -/
def Ev.EXT_RESERVE_USED : Ev := ⟨Reg.EXT_EVENT.RESERVE_USED, Reg.EXT_EVENT_EN.EN, 4, 7⟩
/-- EXT_EVENT.QUOTA_HIT, which raises shared source 7 (R484). -/
def Ev.EXT_QUOTA_HIT : Ev := ⟨Reg.EXT_EVENT.QUOTA_HIT, Reg.EXT_EVENT_EN.EN, 3, 7⟩
/-- EXT_EVENT.COPY_REPAIRED, which raises shared source 7 (R484). -/
def Ev.EXT_COPY_REPAIRED : Ev := ⟨Reg.EXT_EVENT.COPY_REPAIRED, Reg.EXT_EVENT_EN.EN, 2, 7⟩
/-- EXT_EVENT.JOURNAL_FAIL, which raises shared source 7 (R484). -/
def Ev.EXT_JOURNAL_FAIL : Ev := ⟨Reg.EXT_EVENT.JOURNAL_FAIL, Reg.EXT_EVENT_EN.EN, 1, 7⟩
/-- EXT_EVENT.ROLLBACK, which raises shared source 7 (R484). -/
def Ev.EXT_ROLLBACK : Ev := ⟨Reg.EXT_EVENT.ROLLBACK, Reg.EXT_EVENT_EN.EN, 0, 7⟩
/-- SCV_EVENT.CORE_OUT, which raises shared source 6 (R484). -/
def Ev.SCV_CORE_OUT : Ev := ⟨Reg.SCV_EVENT.CORE_OUT, Reg.SCV_EVENT_EN.EN, 5, 6⟩
/-- SCV_EVENT.ORPHAN_LOST, which raises shared source 6 (R484). -/
def Ev.SCV_ORPHAN_LOST : Ev := ⟨Reg.SCV_EVENT.ORPHAN_LOST, Reg.SCV_EVENT_EN.EN, 4, 6⟩
/-- SCV_EVENT.TQ_CHANGE, which raises shared source 6 (R484). -/
def Ev.SCV_TQ_CHANGE : Ev := ⟨Reg.SCV_EVENT.TQ_CHANGE, Reg.SCV_EVENT_EN.EN, 3, 6⟩
/-- SCV_EVENT.ANCHOR, which raises shared source 6 (R484). -/
def Ev.SCV_ANCHOR : Ev := ⟨Reg.SCV_EVENT.ANCHOR, Reg.SCV_EVENT_EN.EN, 2, 6⟩
/-- SCV_EVENT.RECOVERED, which raises shared source 6 (R484). -/
def Ev.SCV_RECOVERED : Ev := ⟨Reg.SCV_EVENT.RECOVERED, Reg.SCV_EVENT_EN.EN, 1, 6⟩
/-- SCV_EVENT.BATCH, which raises shared source 6 (R484). -/
def Ev.SCV_BATCH : Ev := ⟨Reg.SCV_EVENT.BATCH, Reg.SCV_EVENT_EN.EN, 0, 6⟩
/-- PKE_EVENT.MC_REJECT, which raises shared source 8 (R484). -/
def Ev.PKE_MC_REJECT : Ev := ⟨Reg.PKE_EVENT.MC_REJECT, Reg.PKE_EVENT_EN.EN, 3, 8⟩
/-- PKE_EVENT.LONG, which raises shared source 8 (R484). -/
def Ev.PKE_LONG : Ev := ⟨Reg.PKE_EVENT.LONG, Reg.PKE_EVENT_EN.EN, 2, 8⟩
/-- PKE_EVENT.UNIT_OUT, which raises shared source 8 (R484). -/
def Ev.PKE_UNIT_OUT : Ev := ⟨Reg.PKE_EVENT.UNIT_OUT, Reg.PKE_EVENT_EN.EN, 1, 8⟩
/-- PKE_EVENT.INVARIANT, which raises shared source 8 (R484). -/
def Ev.PKE_INVARIANT : Ev := ⟨Reg.PKE_EVENT.INVARIANT, Reg.PKE_EVENT_EN.EN, 0, 8⟩
/-- MPX_EVENT.OVERRUN, which raises shared source 11 (R484). -/
def Ev.MPX_OVERRUN : Ev := ⟨Reg.MPX_EVENT.OVERRUN, Reg.MPX_EVENT_EN.EN, 6, 11⟩
/-- MPX_EVENT.HEALTH, which raises shared source 11 (R484). -/
def Ev.MPX_HEALTH : Ev := ⟨Reg.MPX_EVENT.HEALTH, Reg.MPX_EVENT_EN.EN, 5, 11⟩
/-- MPX_EVENT.APPEND_ERR, which raises shared source 11 (R484). -/
def Ev.MPX_APPEND_ERR : Ev := ⟨Reg.MPX_EVENT.APPEND_ERR, Reg.MPX_EVENT_EN.EN, 4, 11⟩
/-- MPX_EVENT.REJECTED, which raises shared source 11 (R484). -/
def Ev.MPX_REJECTED : Ev := ⟨Reg.MPX_EVENT.REJECTED, Reg.MPX_EVENT_EN.EN, 3, 11⟩
/-- MPX_EVENT.QUARANTINE, which raises shared source 11 (R484). -/
def Ev.MPX_QUARANTINE : Ev := ⟨Reg.MPX_EVENT.QUARANTINE, Reg.MPX_EVENT_EN.EN, 2, 11⟩
/-- MPX_EVENT.PORT_UP, which raises shared source 11 (R484). -/
def Ev.MPX_PORT_UP : Ev := ⟨Reg.MPX_EVENT.PORT_UP, Reg.MPX_EVENT_EN.EN, 1, 11⟩
/-- MPX_EVENT.PORT_DOWN, which raises shared source 11 (R484). -/
def Ev.MPX_PORT_DOWN : Ev := ⟨Reg.MPX_EVENT.PORT_DOWN, Reg.MPX_EVENT_EN.EN, 0, 11⟩
/-- CPR_EVENT.JOURNAL_FULL, which raises shared source 10 (R484). -/
def Ev.CPR_JOURNAL_FULL : Ev := ⟨Reg.CPR_EVENT.JOURNAL_FULL, Reg.CPR_EVENT_EN.EN, 5, 10⟩
/-- CPR_EVENT.CROSSCHECK, which raises shared source 10 (R484). -/
def Ev.CPR_CROSSCHECK : Ev := ⟨Reg.CPR_EVENT.CROSSCHECK, Reg.CPR_EVENT_EN.EN, 4, 10⟩
/-- CPR_EVENT.RECON, which raises shared source 10 (R484). -/
def Ev.CPR_RECON : Ev := ⟨Reg.CPR_EVENT.RECON, Reg.CPR_EVENT_EN.EN, 3, 10⟩
/-- CPR_EVENT.STRIPE_LOST, which raises shared source 10 (R484). -/
def Ev.CPR_STRIPE_LOST : Ev := ⟨Reg.CPR_EVENT.STRIPE_LOST, Reg.CPR_EVENT_EN.EN, 2, 10⟩
/-- CPR_EVENT.REBUILD_DONE, which raises shared source 10 (R484). -/
def Ev.CPR_REBUILD_DONE : Ev := ⟨Reg.CPR_EVENT.REBUILD_DONE, Reg.CPR_EVENT_EN.EN, 1, 10⟩
/-- CPR_EVENT.RANK_STATE, which raises shared source 10 (R484). -/
def Ev.CPR_RANK_STATE : Ev := ⟨Reg.CPR_EVENT.RANK_STATE, Reg.CPR_EVENT_EN.EN, 0, 10⟩
/-- ASY_EVENT.PATROL_PASS, which raises shared source 12 (R484). -/
def Ev.ASY_PATROL_PASS : Ev := ⟨Reg.ASY_EVENT.PATROL_PASS, Reg.ASY_EVENT_EN.EN, 11, 12⟩
/-- ASY_EVENT.LEDGER_FREED, which raises shared source 12 (R484). -/
def Ev.ASY_LEDGER_FREED : Ev := ⟨Reg.ASY_EVENT.LEDGER_FREED, Reg.ASY_EVENT_EN.EN, 10, 12⟩
/-- ASY_EVENT.PLACEGEN_MAX, which raises shared source 12 (R484). -/
def Ev.ASY_PLACEGEN_MAX : Ev := ⟨Reg.ASY_EVENT.PLACEGEN_MAX, Reg.ASY_EVENT_EN.EN, 9, 12⟩
/-- ASY_EVENT.OVERDUE, which raises shared source 12 (R484). -/
def Ev.ASY_OVERDUE : Ev := ⟨Reg.ASY_EVENT.OVERDUE, Reg.ASY_EVENT_EN.EN, 8, 12⟩
/-- ASY_EVENT.TREND, which raises shared source 12 (R484). -/
def Ev.ASY_TREND : Ev := ⟨Reg.ASY_EVENT.TREND, Reg.ASY_EVENT_EN.EN, 7, 12⟩
/-- ASY_EVENT.WEAR_LIMIT, which raises shared source 12 (R484). -/
def Ev.ASY_WEAR_LIMIT : Ev := ⟨Reg.ASY_EVENT.WEAR_LIMIT, Reg.ASY_EVENT_EN.EN, 6, 12⟩
/-- ASY_EVENT.WEAR_WATCH, which raises shared source 12 (R484). -/
def Ev.ASY_WEAR_WATCH : Ev := ⟨Reg.ASY_EVENT.WEAR_WATCH, Reg.ASY_EVENT_EN.EN, 5, 12⟩
/-- ASY_EVENT.NO_TARGET, which raises shared source 12 (R484). -/
def Ev.ASY_NO_TARGET : Ev := ⟨Reg.ASY_EVENT.NO_TARGET, Reg.ASY_EVENT_EN.EN, 4, 12⟩
/-- ASY_EVENT.MIG_ABANDON, which raises shared source 12 (R484). -/
def Ev.ASY_MIG_ABANDON : Ev := ⟨Reg.ASY_EVENT.MIG_ABANDON, Reg.ASY_EVENT_EN.EN, 3, 12⟩
/-- ASY_EVENT.MIG_DONE, which raises shared source 12 (R484). -/
def Ev.ASY_MIG_DONE : Ev := ⟨Reg.ASY_EVENT.MIG_DONE, Reg.ASY_EVENT_EN.EN, 2, 12⟩
/-- ASY_EVENT.FINDING, which raises shared source 12 (R484). -/
def Ev.ASY_FINDING : Ev := ⟨Reg.ASY_EVENT.FINDING, Reg.ASY_EVENT_EN.EN, 1, 12⟩
/-- ASY_EVENT.ASSAY_DONE, which raises shared source 12 (R484). -/
def Ev.ASY_ASSAY_DONE : Ev := ⟨Reg.ASY_EVENT.ASSAY_DONE, Reg.ASY_EVENT_EN.EN, 0, 12⟩
/-- RNG_EVENT.RECOVERED, which raises shared source 9 (R484). -/
def Ev.RNG_RECOVERED : Ev := ⟨Reg.RNG_EVENT.RECOVERED, Reg.RNG_EVENT_EN.EN, 3, 9⟩
/-- RNG_EVENT.ERROR, which raises shared source 9 (R484). -/
def Ev.RNG_ERROR : Ev := ⟨Reg.RNG_EVENT.ERROR, Reg.RNG_EVENT_EN.EN, 2, 9⟩
/-- RNG_EVENT.SRC_DEAD, which raises shared source 9 (R484). -/
def Ev.RNG_SRC_DEAD : Ev := ⟨Reg.RNG_EVENT.SRC_DEAD, Reg.RNG_EVENT_EN.EN, 1, 9⟩
/-- RNG_EVENT.SRC_FAIL, which raises shared source 9 (R484). -/
def Ev.RNG_SRC_FAIL : Ev := ⟨Reg.RNG_EVENT.SRC_FAIL, Reg.RNG_EVENT_EN.EN, 0, 9⟩
/-- PTR_EVENT.WRITE_FAIL, which raises shared source 14 (R484). -/
def Ev.PTR_WRITE_FAIL : Ev := ⟨Reg.PTR_EVENT.WRITE_FAIL, Reg.PTR_EVENT_EN.EN, 5, 14⟩
/-- PTR_EVENT.WRITE_DONE, which raises shared source 14 (R484). -/
def Ev.PTR_WRITE_DONE : Ev := ⟨Reg.PTR_EVENT.WRITE_DONE, Reg.PTR_EVENT_EN.EN, 4, 14⟩
/-- PTR_EVENT.INSTALL_FAIL, which raises shared source 14 (R484). -/
def Ev.PTR_INSTALL_FAIL : Ev := ⟨Reg.PTR_EVENT.INSTALL_FAIL, Reg.PTR_EVENT_EN.EN, 3, 14⟩
/-- PTR_EVENT.INSTALLED, which raises shared source 14 (R484). -/
def Ev.PTR_INSTALLED : Ev := ⟨Reg.PTR_EVENT.INSTALLED, Reg.PTR_EVENT_EN.EN, 2, 14⟩
/-- PTR_EVENT.COPY_INVALID, which raises shared source 14 (R484). -/
def Ev.PTR_COPY_INVALID : Ev := ⟨Reg.PTR_EVENT.COPY_INVALID, Reg.PTR_EVENT_EN.EN, 1, 14⟩
/-- PTR_EVENT.DIVERGED, which raises shared source 14 (R484). -/
def Ev.PTR_DIVERGED : Ev := ⟨Reg.PTR_EVENT.DIVERGED, Reg.PTR_EVENT_EN.EN, 0, 14⟩
/-- OTP_EVENT.REREAD_DONE, which raises shared source 15 (R484). -/
def Ev.OTP_REREAD_DONE : Ev := ⟨Reg.OTP_EVENT.REREAD_DONE, Reg.OTP_EVENT_EN.EN, 2, 15⟩
/-- OTP_EVENT.DRIFT, which raises shared source 15 (R484). -/
def Ev.OTP_DRIFT : Ev := ⟨Reg.OTP_EVENT.DRIFT, Reg.OTP_EVENT_EN.EN, 1, 15⟩
/-- OTP_EVENT.MARGINAL, which raises shared source 15 (R484). -/
def Ev.OTP_MARGINAL : Ev := ⟨Reg.OTP_EVENT.MARGINAL, Reg.OTP_EVENT_EN.EN, 0, 15⟩
/-- AON_EVENT.WAKE, which raises shared source 16 (R484). -/
def Ev.AON_WAKE : Ev := ⟨Reg.AON_EVENT.WAKE, Reg.AON_EVENT_EN.EN, 11, 16⟩
/-- AON_EVENT.OVERRUN, which raises shared source 16 (R484). -/
def Ev.AON_OVERRUN : Ev := ⟨Reg.AON_EVENT.OVERRUN, Reg.AON_EVENT_EN.EN, 10, 16⟩
/-- AON_EVENT.PWR_FAIL, which raises shared source 16 (R484). -/
def Ev.AON_PWR_FAIL : Ev := ⟨Reg.AON_EVENT.PWR_FAIL, Reg.AON_EVENT_EN.EN, 9, 16⟩
/-- AON_EVENT.AONPOR, which raises shared source 16 (R484). -/
def Ev.AON_AONPOR : Ev := ⟨Reg.AON_EVENT.AONPOR, Reg.AON_EVENT_EN.EN, 8, 16⟩
/-- AON_EVENT.VBAT_WARN, which raises shared source 16 (R484). -/
def Ev.AON_VBAT_WARN : Ev := ⟨Reg.AON_EVENT.VBAT_WARN, Reg.AON_EVENT_EN.EN, 7, 16⟩
/-- AON_EVENT.TO_VAON, which raises shared source 16 (R484). -/
def Ev.AON_TO_VAON : Ev := ⟨Reg.AON_EVENT.TO_VAON, Reg.AON_EVENT_EN.EN, 6, 16⟩
/-- AON_EVENT.TO_VBAT, which raises shared source 16 (R484). -/
def Ev.AON_TO_VBAT : Ev := ⟨Reg.AON_EVENT.TO_VBAT, Reg.AON_EVENT_EN.EN, 5, 16⟩
/-- AON_EVENT.XTAL32_FAIL, which raises shared source 16 (R484). -/
def Ev.AON_XTAL32_FAIL : Ev := ⟨Reg.AON_EVENT.XTAL32_FAIL, Reg.AON_EVENT_EN.EN, 4, 16⟩
/-- AON_EVENT.PLL_TIMEOUT, which raises shared source 16 (R484). -/
def Ev.AON_PLL_TIMEOUT : Ev := ⟨Reg.AON_EVENT.PLL_TIMEOUT, Reg.AON_EVENT_EN.EN, 3, 16⟩
/-- AON_EVENT.XTAL_TIMEOUT, which raises shared source 16 (R484). -/
def Ev.AON_XTAL_TIMEOUT : Ev := ⟨Reg.AON_EVENT.XTAL_TIMEOUT, Reg.AON_EVENT_EN.EN, 2, 16⟩
/-- AON_EVENT.PWR_TIMEOUT, which raises shared source 16 (R484). -/
def Ev.AON_PWR_TIMEOUT : Ev := ⟨Reg.AON_EVENT.PWR_TIMEOUT, Reg.AON_EVENT_EN.EN, 1, 16⟩
/-- AON_EVENT.REFRESH_DUE, which raises shared source 16 (R484). -/
def Ev.AON_REFRESH_DUE : Ev := ⟨Reg.AON_EVENT.REFRESH_DUE, Reg.AON_EVENT_EN.EN, 0, 16⟩
/-- POL_EVENT.RING_FULL, which raises shared source 13 (R484). -/
def Ev.POL_RING_FULL : Ev := ⟨Reg.POL_EVENT.RING_FULL, Reg.POL_EVENT_EN.EN, 3, 13⟩
/-- POL_EVENT.CANCELLED, which raises shared source 13 (R484). -/
def Ev.POL_CANCELLED : Ev := ⟨Reg.POL_EVENT.CANCELLED, Reg.POL_EVENT_EN.EN, 2, 13⟩
/-- POL_EVENT.BAD_STATUS, which raises shared source 13 (R484). -/
def Ev.POL_BAD_STATUS : Ev := ⟨Reg.POL_EVENT.BAD_STATUS, Reg.POL_EVENT_EN.EN, 1, 13⟩
/-- POL_EVENT.BAD_TAG, which raises shared source 13 (R484). -/
def Ev.POL_BAD_TAG : Ev := ⟨Reg.POL_EVENT.BAD_TAG, Reg.POL_EVENT_EN.EN, 0, 13⟩
/-- FWL_EVENT.LATE, which raises shared source 22 (R484). -/
def Ev.FWL_LATE : Ev := ⟨Reg.FWL_EVENT.LATE, Reg.FWL_EVENT_EN.EN, 2, 22⟩
/-- FWL_EVENT.COMMIT, which raises shared source 22 (R484). -/
def Ev.FWL_COMMIT : Ev := ⟨Reg.FWL_EVENT.COMMIT, Reg.FWL_EVENT_EN.EN, 1, 22⟩
/-- FWL_EVENT.DENY, which raises shared source 22 (R484). -/
def Ev.FWL_DENY : Ev := ⟨Reg.FWL_EVENT.DENY, Reg.FWL_EVENT_EN.EN, 0, 22⟩
/-- EFL_EVENT.UNCORR, which raises shared source 17 (R484). -/
def Ev.EFL_UNCORR : Ev := ⟨Reg.EFL_EVENT.UNCORR, Reg.EFL_EVENT_EN.EN, 10, 17⟩
/-- EFL_EVENT.REFRESH_BLOCKED, which raises shared source 17 (R484). -/
def Ev.EFL_REFRESH_BLOCKED : Ev := ⟨Reg.EFL_EVENT.REFRESH_BLOCKED, Reg.EFL_EVENT_EN.EN, 9, 17⟩
/-- EFL_EVENT.INCOMPLETE, which raises shared source 17 (R484). -/
def Ev.EFL_INCOMPLETE : Ev := ⟨Reg.EFL_EVENT.INCOMPLETE, Reg.EFL_EVENT_EN.EN, 8, 17⟩
/-- EFL_EVENT.ERASE_SLOW, which raises shared source 17 (R484). -/
def Ev.EFL_ERASE_SLOW : Ev := ⟨Reg.EFL_EVENT.ERASE_SLOW, Reg.EFL_EVENT_EN.EN, 7, 17⟩
/-- EFL_EVENT.PULSE_HIGH, which raises shared source 17 (R484). -/
def Ev.EFL_PULSE_HIGH : Ev := ⟨Reg.EFL_EVENT.PULSE_HIGH, Reg.EFL_EVENT_EN.EN, 6, 17⟩
/-- EFL_EVENT.FAIL, which raises shared source 17 (R484). -/
def Ev.EFL_FAIL : Ev := ⟨Reg.EFL_EVENT.FAIL, Reg.EFL_EVENT_EN.EN, 5, 17⟩
/-- EFL_EVENT.DONE, which raises shared source 17 (R484). -/
def Ev.EFL_DONE : Ev := ⟨Reg.EFL_EVENT.DONE, Reg.EFL_EVENT_EN.EN, 0, 17⟩
/-- TMP_EVENT.SESSION, which raises shared source 18 (R484). -/
def Ev.TMP_SESSION : Ev := ⟨Reg.TMP_EVENT.SESSION, Reg.TMP_EVENT_EN.EN, 4, 18⟩
/-- TMP_EVENT.TESTFAIL, which raises shared source 18 (R484). -/
def Ev.TMP_TESTFAIL : Ev := ⟨Reg.TMP_EVENT.TESTFAIL, Reg.TMP_EVENT_EN.EN, 3, 18⟩
/-- TMP_EVENT.DISAGREE, which raises shared source 18 (R484). -/
def Ev.TMP_DISAGREE : Ev := ⟨Reg.TMP_EVENT.DISAGREE, Reg.TMP_EVENT_EN.EN, 2, 18⟩
/-- TMP_EVENT.LOCK, which raises shared source 18 (R484). -/
def Ev.TMP_LOCK : Ev := ⟨Reg.TMP_EVENT.LOCK, Reg.TMP_EVENT_EN.EN, 1, 18⟩
/-- TMP_EVENT.ALARM, which raises shared source 18 (R484). -/
def Ev.TMP_ALARM : Ev := ⟨Reg.TMP_EVENT.ALARM, Reg.TMP_EVENT_EN.EN, 0, 18⟩
/-- CRD_EVENT.SET_DONE, which raises shared source 19 (R484). -/
def Ev.CRD_SET_DONE : Ev := ⟨Reg.CRD_EVENT.SET_DONE, Reg.CRD_EVENT_EN.EN, 4, 19⟩
/-- CRD_EVENT.ERROR, which raises shared source 19 (R484). -/
def Ev.CRD_ERROR : Ev := ⟨Reg.CRD_EVENT.ERROR, Reg.CRD_EVENT_EN.EN, 3, 19⟩
/-- CRD_EVENT.REMOVED, which raises shared source 19 (R484). -/
def Ev.CRD_REMOVED : Ev := ⟨Reg.CRD_EVENT.REMOVED, Reg.CRD_EVENT_EN.EN, 2, 19⟩
/-- CRD_EVENT.EXCHANGE, which raises shared source 19 (R484). -/
def Ev.CRD_EXCHANGE : Ev := ⟨Reg.CRD_EVENT.EXCHANGE, Reg.CRD_EVENT_EN.EN, 1, 19⟩
/-- CRD_EVENT.INSERTED, which raises shared source 19 (R484). -/
def Ev.CRD_INSERTED : Ev := ⟨Reg.CRD_EVENT.INSERTED, Reg.CRD_EVENT_EN.EN, 0, 19⟩
/-- NPL_EVENT.UPDATE_DONE, which raises shared source 20 (R484). -/
def Ev.NPL_UPDATE_DONE : Ev := ⟨Reg.NPL_EVENT.UPDATE_DONE, Reg.NPL_EVENT_EN.EN, 5, 20⟩
/-- NPL_EVENT.KEY_REFUSED, which raises shared source 20 (R484). -/
def Ev.NPL_KEY_REFUSED : Ev := ⟨Reg.NPL_EVENT.KEY_REFUSED, Reg.NPL_EVENT_EN.EN, 4, 20⟩
/-- NPL_EVENT.MEMO_WRITTEN, which raises shared source 20 (R484). -/
def Ev.NPL_MEMO_WRITTEN : Ev := ⟨Reg.NPL_EVENT.MEMO_WRITTEN, Reg.NPL_EVENT_EN.EN, 3, 20⟩
/-- NPL_EVENT.AUTH_FAIL, which raises shared source 20 (R484). -/
def Ev.NPL_AUTH_FAIL : Ev := ⟨Reg.NPL_EVENT.AUTH_FAIL, Reg.NPL_EVENT_EN.EN, 2, 20⟩
/-- NPL_EVENT.AUTH_OK, which raises shared source 20 (R484). -/
def Ev.NPL_AUTH_OK : Ev := ⟨Reg.NPL_EVENT.AUTH_OK, Reg.NPL_EVENT_EN.EN, 1, 20⟩
/-- NPL_EVENT.FIELD_ON, which raises shared source 20 (R484). -/
def Ev.NPL_FIELD_ON : Ev := ⟨Reg.NPL_EVENT.FIELD_ON, Reg.NPL_EVENT_EN.EN, 0, 20⟩
/-- SBD_EVENT.PERST_B, which raises shared source 21 (R484). -/
def Ev.SBD_PERST_B : Ev := ⟨Reg.SBD_EVENT.PERST_B, Reg.SBD_EVENT_EN.EN, 3, 21⟩
/-- SBD_EVENT.PERST_A, which raises shared source 21 (R484). -/
def Ev.SBD_PERST_A : Ev := ⟨Reg.SBD_EVENT.PERST_A, Reg.SBD_EVENT_EN.EN, 2, 21⟩
/-- SBD_EVENT.SMB_TIMEOUT, which raises shared source 21 (R484). -/
def Ev.SBD_SMB_TIMEOUT : Ev := ⟨Reg.SBD_EVENT.SMB_TIMEOUT, Reg.SBD_EVENT_EN.EN, 1, 21⟩
/-- SBD_EVENT.SMB_ERR, which raises shared source 21 (R484). -/
def Ev.SBD_SMB_ERR : Ev := ⟨Reg.SBD_EVENT.SMB_ERR, Reg.SBD_EVENT_EN.EN, 0, 21⟩

/-- Every block event (R484). -/
def Ev.list : List Ev := [
  Ev.SLA_STAGING_UE, Ev.SLA_PARITY, Ev.SLA_TAG_FAIL, Ev.SLA_GROUP_SHORT, Ev.SLA_SPARES_EXHAUSTED, Ev.SLA_SPARE_USED,
  Ev.SLA_LANE_RETIRED, Ev.STR_TENANT_CHANGE, Ev.STR_SLOT_UPDATE_FAIL, Ev.STR_CACHE_ERASED, Ev.STR_UNWRAP_FAIL, Ev.STR_KEK_LOST,
  Ev.EXT_PERSIST_DONE, Ev.EXT_LEAF_REPAIRED, Ev.EXT_EXTENT_RETIRED, Ev.EXT_RESERVE_USED, Ev.EXT_QUOTA_HIT, Ev.EXT_COPY_REPAIRED,
  Ev.EXT_JOURNAL_FAIL, Ev.EXT_ROLLBACK, Ev.SCV_CORE_OUT, Ev.SCV_ORPHAN_LOST, Ev.SCV_TQ_CHANGE, Ev.SCV_ANCHOR,
  Ev.SCV_RECOVERED, Ev.SCV_BATCH, Ev.PKE_MC_REJECT, Ev.PKE_LONG, Ev.PKE_UNIT_OUT, Ev.PKE_INVARIANT,
  Ev.MPX_OVERRUN, Ev.MPX_HEALTH, Ev.MPX_APPEND_ERR, Ev.MPX_REJECTED, Ev.MPX_QUARANTINE, Ev.MPX_PORT_UP,
  Ev.MPX_PORT_DOWN, Ev.CPR_JOURNAL_FULL, Ev.CPR_CROSSCHECK, Ev.CPR_RECON, Ev.CPR_STRIPE_LOST, Ev.CPR_REBUILD_DONE,
  Ev.CPR_RANK_STATE, Ev.ASY_PATROL_PASS, Ev.ASY_LEDGER_FREED, Ev.ASY_PLACEGEN_MAX, Ev.ASY_OVERDUE, Ev.ASY_TREND,
  Ev.ASY_WEAR_LIMIT, Ev.ASY_WEAR_WATCH, Ev.ASY_NO_TARGET, Ev.ASY_MIG_ABANDON, Ev.ASY_MIG_DONE, Ev.ASY_FINDING,
  Ev.ASY_ASSAY_DONE, Ev.RNG_RECOVERED, Ev.RNG_ERROR, Ev.RNG_SRC_DEAD, Ev.RNG_SRC_FAIL, Ev.PTR_WRITE_FAIL,
  Ev.PTR_WRITE_DONE, Ev.PTR_INSTALL_FAIL, Ev.PTR_INSTALLED, Ev.PTR_COPY_INVALID, Ev.PTR_DIVERGED, Ev.OTP_REREAD_DONE,
  Ev.OTP_DRIFT, Ev.OTP_MARGINAL, Ev.AON_WAKE, Ev.AON_OVERRUN, Ev.AON_PWR_FAIL, Ev.AON_AONPOR,
  Ev.AON_VBAT_WARN, Ev.AON_TO_VAON, Ev.AON_TO_VBAT, Ev.AON_XTAL32_FAIL, Ev.AON_PLL_TIMEOUT, Ev.AON_XTAL_TIMEOUT,
  Ev.AON_PWR_TIMEOUT, Ev.AON_REFRESH_DUE, Ev.POL_RING_FULL, Ev.POL_CANCELLED, Ev.POL_BAD_STATUS, Ev.POL_BAD_TAG,
  Ev.FWL_LATE, Ev.FWL_COMMIT, Ev.FWL_DENY, Ev.EFL_UNCORR, Ev.EFL_REFRESH_BLOCKED, Ev.EFL_INCOMPLETE,
  Ev.EFL_ERASE_SLOW, Ev.EFL_PULSE_HIGH, Ev.EFL_FAIL, Ev.EFL_DONE, Ev.TMP_SESSION, Ev.TMP_TESTFAIL,
  Ev.TMP_DISAGREE, Ev.TMP_LOCK, Ev.TMP_ALARM, Ev.CRD_SET_DONE, Ev.CRD_ERROR, Ev.CRD_REMOVED,
  Ev.CRD_EXCHANGE, Ev.CRD_INSERTED, Ev.NPL_UPDATE_DONE, Ev.NPL_KEY_REFUSED, Ev.NPL_MEMO_WRITTEN, Ev.NPL_AUTH_FAIL,
  Ev.NPL_AUTH_OK, Ev.NPL_FIELD_ON, Ev.SBD_PERST_B, Ev.SBD_PERST_A, Ev.SBD_SMB_TIMEOUT, Ev.SBD_SMB_ERR]

end Sys2Proof.Machine
end

