-- ==== Sys2Proof/Machine/SettingTable.lean ====
section
/-!
DEFINITION. Machine/SettingTable.lean: the settings of the spec (03, R133, R139, and the settings table of each chapter): ID, range,
default and apply class, with values encoded as R139 says.
-/

namespace Sys2Proof.Machine

/-- The apply classes of R133. -/
inductive ApplyClass where
  | immediate | atBoundary | atRestart
  deriving DecidableEq, Repr, Inhabited

/-- A setting: its ID, lowest and highest value, default, apply class. -/
structure SettingDef where
  sid : Nat
  lo : Nat
  hi : Nat
  dflt : Nat
  cls : ApplyClass
  deriving DecidableEq, Inhabited

/-- The settings, part 1. -/
def settings0 : List SettingDef := [
  ⟨0x0001, 0, 0xffff, 0, .atRestart⟩,
  ⟨0x0002, 0, 0xffff, 0, .atRestart⟩,
  ⟨0x0003, 5, 0x78, 0x23, .atRestart⟩,
  ⟨0x0010, 0x10, 0x3c, 0x3a, .atRestart⟩,
  ⟨0x0011, 2, 0x28, 4, .atRestart⟩,
  ⟨0x0012, 1, 0x10, 2, .atRestart⟩,
  ⟨0x0013, 0, 0x3c, 8, .atRestart⟩,
  ⟨0x0014, 0, 3, 3, .atRestart⟩,
  ⟨0x0030, 1, 0x10000, 0x1000, .immediate⟩,
  ⟨0x0031, 1, 0xe10, 0x3c, .immediate⟩,
  ⟨0x0032, 0, 0xffffffffffffffff, 0, .atRestart⟩,
  ⟨0x0033, 4, 0xc, 8, .immediate⟩,
  ⟨0x0034, 0x15, 0x29, 0x29, .atRestart⟩,
  ⟨0x0035, 0x258, 0x320, 0x320, .atRestart⟩,
  ⟨0x0040, 1, 8, 4, .immediate⟩,
  ⟨0x0050, 8, 0x77, 0x5c, .atRestart⟩,
  ⟨0x1001, 0, 1, 1, .atRestart⟩,
  ⟨0x1002, 0, 0x7f, 0x7f, .atRestart⟩,
  ⟨0x1003, 0, 0x7f, 0x7f, .atRestart⟩,
  ⟨0x1004, 1, 8, 8, .atRestart⟩,
  ⟨0x1010, 4, 0x100, 0x20, .atRestart⟩,
  ⟨0x1011, 0x40, 0x400, 0x100, .atRestart⟩,
  ⟨0x1020, 1, 0xff, 1, .immediate⟩,
  ⟨0x1021, 1, 0x3fff, 0x32, .immediate⟩]

/-- The settings, part 2. -/
def settings1 : List SettingDef := [
  ⟨0x1022, 1, 0xff, 0x10, .immediate⟩,
  ⟨0x1023, 1, 8, 8, .immediate⟩,
  ⟨0x1024, 0, 0x40, 0x40, .atRestart⟩,
  ⟨0x1025, 0, 0x40, 0x40, .atRestart⟩,
  ⟨0x2001, 1, (if Config.part128 then 0xFF else 0xFFFF), (if Config.part128 then 0xFF else 0xFFFF), .immediate⟩,
  ⟨0x2002, 1, 0x5a0, 0x3c, .atBoundary⟩,
  ⟨0x2003, 0, 1, 0, .atBoundary⟩,
  ⟨0x2010, 0x10, 0x80, 0x40, .atRestart⟩,
  ⟨0x2011, 0x10, 0x80, 0x20, .atRestart⟩,
  ⟨0x2012, 0x10, 0x80, 0x10, .atRestart⟩,
  ⟨0x2013, 1, 0xf, 8, .immediate⟩,
  ⟨0x2014, 1, 0xf, 4, .immediate⟩,
  ⟨0x2015, 1, 0xf, 2, .immediate⟩,
  ⟨0x3001, 1, 0x1000000, 0x10000, .atBoundary⟩,
  ⟨0x3002, 1, 0x5265c00, 0xea60, .atBoundary⟩,
  ⟨0x3003, 1, 0xea60, 0x3e8, .atBoundary⟩,
  ⟨0x3004, 1, 0x3c, 0xa, .immediate⟩,
  ⟨0x3005, 1, 0xe42, 0x1e, .atBoundary⟩,
  ⟨0x3010, 0x400, 0x1000, 0x800, .atRestart⟩,
  ⟨0x4001, 0x64, 0x7530, 0x7d0, .immediate⟩,
  ⟨0x4002, 0xa, 0x5a, 0x1e, .immediate⟩,
  ⟨0x4003, 0, 1, 1, .immediate⟩,
  ⟨0x4004, 0x20, 0x64, 0x64, .atRestart⟩,
  ⟨0x4005, 0, 1, 0, .immediate⟩]

/-- The settings, part 3. -/
def settings2 : List SettingDef := [
  ⟨0x4010, 0x400, 0x1000, 0x800, .atRestart⟩,
  ⟨0x4011, 8, 0x40, 0x20, .atRestart⟩,
  ⟨0x4012, 0x64, 0x186a0, 0x3e8, .atBoundary⟩,
  ⟨0x4013, 0x10, 0xe0, 0x80, .atRestart⟩,
  ⟨0x4014, 0x10, 0xe0, 0x60, .atRestart⟩,
  ⟨0x4015, 0x10, 0xe0, 0x20, .atRestart⟩,
  ⟨0x4016, 0x40, 0x400, 0x100, .atRestart⟩,
  ⟨0x4017, 1, 8, 1, .atRestart⟩,
  ⟨0x4018, 0x40, 0x400, 0x80, .atRestart⟩,
  ⟨0x4020, 1, 0x20, 8, .immediate⟩,
  ⟨0x4021, 1, 0x64, 0xa, .immediate⟩,
  ⟨0x4022, 0xa, 0x5a0, 0xa, .immediate⟩,
  ⟨0x4030, 2, 0x40, 8, .immediate⟩,
  ⟨0x5001, 7, 0x2da, 0x5a, .immediate⟩,
  ⟨0x5002, 0, 1, 1, .immediate⟩,
  ⟨0x5003, 1, 0x400, 8, .immediate⟩,
  ⟨0x5004, 0x1e, 0x2ac6, 0x722, .immediate⟩,
  ⟨0x5005, 0x32, 0x63, 0x50, .immediate⟩,
  ⟨0x5006, 0x3c, 0xff, 0x64, .immediate⟩,
  ⟨0x5007, 0, 1, 1, .immediate⟩,
  ⟨0x5008, 1, 0xffff, 0x10, .immediate⟩,
  ⟨0x5009, 0xb, 0x64, 0x14, .immediate⟩,
  ⟨0x5010, 1, (if Config.part128 then 120 else 240), (if Config.part128 then 120 else 240), .immediate⟩,
  ⟨0x5011, 1, 0x10000, 0x400, .immediate⟩]

/-- The settings, part 4. -/
def settings3 : List SettingDef := [
  ⟨0x5012, 1, 0x20, 4, .immediate⟩,
  ⟨0x5013, 0xa, 0x64, 0x32, .immediate⟩,
  ⟨0x5020, 0, 1, 0, .immediate⟩,
  ⟨0x6001, 0, 1, 0, .immediate⟩,
  ⟨0x6002, 0xa28, 0xce4, 0xaf0, .immediate⟩,
  ⟨0x6003, 0, 1, 0, .atRestart⟩,
  ⟨0x7001, 0x400, 0x10000, 0x2000, .immediate⟩,
  ⟨0x7002, 0, 0xff, 0xff, .immediate⟩,
  ⟨0x7003, 1, 0x5a0, 0x3c, .immediate⟩,
  ⟨0x7004, 1, 0x3c, 0xf, .immediate⟩,
  ⟨0x7010, 0xffffffffffffffc9, 0xffffffffffffffd7, 0xffffffffffffffd3, .immediate⟩,
  ⟨0x7011, 0x6a, 0x7d, 0x73, .immediate⟩,
  ⟨0x7100, 0, 0x1f, 0xf, .immediate⟩,
  ⟨0x7101, 0, 0x1f, 0xf, .immediate⟩,
  ⟨0x7102, 0, 0x1f, 0xf, .immediate⟩,
  ⟨0x7103, 0, 0x1f, 0xf, .immediate⟩,
  ⟨0x7104, 0, 0x1f, 0xf, .immediate⟩,
  ⟨0x7105, 0, 0x1f, 0xf, .immediate⟩,
  ⟨0x7106, 0, 0x1f, 0xf, .immediate⟩,
  ⟨0x7107, 0, 0x1f, 0xf, .immediate⟩,
  ⟨0x7108, 0, 0x1f, 3, .immediate⟩,
  ⟨0x7109, 0, 0x1f, 3, .immediate⟩,
  ⟨0x710A, 0, 0x1f, 3, .immediate⟩,
  ⟨0x710B, 0, 0x1f, 3, .immediate⟩]

/-- The settings, part 5. -/
def settings4 : List SettingDef := [
  ⟨0x710C, 0, 0x1f, 3, .immediate⟩,
  ⟨0x710D, 0, 0x1f, 0x1f, .immediate⟩,
  ⟨0x710E, 0, 0x1f, 0xf, .immediate⟩,
  ⟨0x710F, 0, 0x1f, 0xf, .immediate⟩,
  ⟨0x7110, 0, 0x1f, 0xf, .immediate⟩,
  ⟨0x7111, 0, 0x1f, 0xf, .immediate⟩,
  ⟨0x7112, 0, 0x1f, 0xf, .immediate⟩,
  ⟨0x7113, 0, 0x1f, 0xf, .immediate⟩,
  ⟨0x8001, 0x14, 0x64, 0x1c, .immediate⟩,
  ⟨0x8002, 0, 1, 1, .immediate⟩,
  ⟨0x8003, 0xa, 0x1f4, 0x32, .immediate⟩,
  ⟨0x8010, 0, 1, 0, .immediate⟩,
  ⟨0x8011, 1, 0xe10, 0x3c, .immediate⟩,
  ⟨0x8012, 0, 1, 1, .immediate⟩,
  ⟨0x8013, 0, 1, 1, .immediate⟩,
  ⟨0x9001, 0, 0xffffffffffffffff, 0, .immediate⟩,
  ⟨0x9002, 1, 0x2710, 0x64, .immediate⟩]

/-- Every setting of the spec. -/
def settingTable : List SettingDef := settings0 ++ settings1 ++ settings2 ++ settings3 ++ settings4

/-- The definition of a setting ID, if the device has it. -/
def settingDef? (sid : Nat) : Option SettingDef := settingTable.find? fun d => d.sid = sid

end Sys2Proof.Machine
end

