-- ==== Sys2Proof/Machine/State.lean ====
section
/-!
DEFINITION. Machine/State.lean: the state of the CX4 as plain data: every register field of the spec (`regs`), and the state the
spec gives the blocks beside their registers, one structure per block; the queue of commands that wait; and what the block has sent
out. Numbers stand for keys, digests and signatures. A table (Tab) is keyed as its docstring says.
-/

namespace Sys2Proof.Machine

/-- What the block sends out, as the spec names it. -/
inductive Out where
  /-- a completion entry: function, queue, slot, RES0, RES1, CID, status, phase (02, R71) -/
  | cqe (fn q slot res0 res1 cid status : Nat) (phase : Bool)
  /-- a head shadow: function, queue, SQ head (02, R58) -/
  | shadow (fn q head : Nat)
  /-- an MSI-X message: function, vector (02, R74) -/
  | msix (fn vec : Nat)
  /-- a data write to host memory: function, address, bytes, content (02, R70) -/
  | hostData (fn addr len : Nat) (content : List Nat)
  /-- a host read request: function, address, bytes (02, R62) -/
  | hostRead (fn addr len : Nat)
  /-- a receipt: function, address, sequence number, locator (03, R103) -/
  | receipt (fn addr seq locator : Nat)
  /-- a dirty-log entry: PF, slot, index, page address, phase (02, R87) -/
  | dlog (pf slot idx page : Nat) (phase : Bool)
  /-- an NVMe command to a port: kind and arguments (07) -/
  | nvme (port : Nat) (kind : String) (args : List Nat)
  /-- a level on a board pin (19, R609) -/
  | pin (name : String) (level : Bool)
  /-- the answer to a register read: master, address, value (21, R640) -/
  | regRead (master addr value : Nat)
  /-- bytes sent to the card (17), the SMBus master (19), the NFC reader (18), the TAP (19) or the debug UART (19) -/
  | card (bytes : List Nat)
  | smbus (bytes : List Nat)
  | nfc (bytes : List Nat)
  | boundary (bits : List Bool)
  | tap (value : Nat)
  | uart (bytes : List Nat)
  deriving DecidableEq, Repr, Inhabited


/-- A completion waiting to be written (02, R71). -/
structure Cpl where
  cid : Nat
  status : Nat
  res0 : Nat
  res1 : Nat
  deriving DecidableEq, Repr, Inhabited

/-- A fetched entry: `sgOk` once its scatter list, if any, has been read and checked (R66, checks 8 and 9). -/
structure FEntry where
  e : Entry
  sgOk : Bool
  sg : List (Nat × Nat) -- its buffer: addresses and lengths
  bad : Option Nat      -- the status it ends with in its turn: a check of R66 failed, or its ledger was taken over (R66; 03, R123)
  deriving DecidableEq, Repr, Inhabited

/-- What a queue pair holds beside its registers (02, R55–R62, R75). -/
structure QRt where
  sqTail : Nat          -- SQ tail last accepted
  cqHead : Nat          -- CQ head last accepted
  phase : Bool          -- phase bit of the next CQ entry
  inFetch : List Nat    -- the fetches on their way, oldest first: entries of each
  credits : Nat         -- HQD credits that its fetched, uncompleted entries hold (01, R28)
  fetched : List FEntry -- fetched, not yet dispatched or executed, in order
  held : List Cpl       -- completions held for a CQ slot
  discard : Bool        -- FAULT 4: completions are discarded (R60)
  coal : Nat            -- completions since the last interrupt (R75)
  coalCount : Nat       -- coalescing count in force
  coalTime : Nat        -- coalescing time in force, µs
  draining : Bool       -- a disable runs (R61)
  expired : Bool         -- its drain window has passed
  sqLow : Nat           -- address bits [5:0] of the last accepted write of QSQ_BASE (R55)
  cqLow : Nat           -- address bits [3:0] of the last accepted write of QCQ_BASE (R55)
  deriving DecidableEq, Repr, Inhabited

/-- A queue that has never been enabled. -/
def QRt.empty : QRt := ⟨0, 0, true, [], 0, [], [], false, 0, 1, 50, false, false, 0, 0⟩

/-- A void record of a function reset report (02, R86). -/
structure VoidRef where
  ledger : Nat
  seq : Nat
  deriving DecidableEq, Repr, Inhabited

/-- A function reset in progress (02, R81–R83). -/
structure FnReset where
  cause : Nat           -- R86 CAUSE
  drain : Bool          -- still in the drain of R82
  mode : Nat            -- R86 MODE: how it was started
  start : Nat           -- AON ticks at the start
  aborted : Nat
  silent : Nat
  voids : List VoidRef  -- records made void, ledger and sequence rising
  req : List (Nat × Nat × Nat) -- function, queue, CID of each FUNCTION_CONTROL RESET waiting for step 7
  deriving DecidableEq, Repr, Inhabited

/-- A function reset report (02, R86). -/
structure FnReport where
  cause : Nat
  mode : Nat
  duration : Nat
  start : Nat
  aborted : Nat
  voided : Nat
  silent : Nat
  voids : List VoidRef
  deriving DecidableEq, Repr, Inhabited

/-- The queue part of a saved blob (02, R91). -/
structure SavedQueue where
  q : Nat
  sqBase : Nat
  cqBase : Nat
  shadow : Nat
  rpv : Nat
  vec : Nat
  depth : Nat
  coalReg : Nat
  sqHead : Nat
  cqTail : Nat
  fault : Nat
  rt : QRt
  deriving DecidableEq, Repr, Inhabited

/-- A VF_STATE_SAVE blob (02, R91). `counter` is the 64-bit save counter; the GMAC is a free function of the rest. -/
structure Blob where
  fn : Nat
  tenant : Nat
  quota : Nat
  weight : Nat
  pasidW : Nat
  pasidBase : Nat
  pasidReq : Nat
  queues : List SavedQueue
  vectors : List (Nat × Nat × Nat × Bool × Bool)
  mbxOut : List Nat
  mbxIn : List Nat
  mbxFlags : Nat
  ledgers : List (Nat × Nat)
  counter : Nat
  deriving DecidableEq, Repr, Inhabited

/-- A VF_STATE_SAVE whose drain runs (02, R90): the requesting PF queue and CID, the buffer. -/
structure SaveRun where
  reqFn : Nat
  reqQ : Nat
  cid : Nat
  dptr : Nat
  deriving DecidableEq, Repr, Inhabited

/-- What a function holds beside its registers: D-state (R47), MSI-X Enable and Function Mask (R77), Relaxed Ordering enable (R72), a reset in progress, the save counter and whether the latest blob may still be restored (R92), completions discarded since the last
report (R60, R86), receipts that wait for D0 (R47): ledger, sequence number, locator, oldest first. -/
structure FnRt where
  d3 : Bool
  msixEn : Bool
  fmask : Bool
  relaxed : Bool
  reset : Option FnReset
  save : Option SaveRun
  saveCounter : Nat
  blobValid : Bool
  discards : Nat
  receipts : List (Nat × Nat × Nat)
  deriving DecidableEq, Repr, Inhabited

/-- A function after a conventional reset: D0, MSI-X disabled. -/
def FnRt.empty : FnRt := ⟨false, false, false, true, none, none, 0, false, 0, []⟩

/-- A PF's configuration space beyond its functions (02, R45, R51, R643, R644). -/
structure PfCfg where
  vfEnable : Bool
  numVfs : Nat
  pasidEn : Bool
  cplTimeout : Nat
  linkLost : Bool       -- a squash for R48 runs: the configuration space is reset at its end
  deriving DecidableEq, Repr, Inhabited

/-- An MSI-X table entry and its PBA bit (02, R45, R77). -/
structure Vec where
  addr : Nat
  data : Nat
  mask : Bool
  pending : Bool
  deriving DecidableEq, Repr, Inhabited

/-- A dirty-log slot of a PF (02, R87). -/
structure DLog where
  fn : Nat
  base : Nat
  elog : Nat
  phase : Bool
  recent : List Nat     -- the last 256 pages placed, newest first
  deriving DecidableEq, Repr, Inhabited

/-- The host interface beside its registers. Keys: `pf` 0 and 1; `fn` function index; `q` function x 64 + queue; `vec` function x 65 +
vector; `report` function; `dlog` PF x 8 + slot; `blobs` function. -/
structure HostIf where
  pf : Tab PfCfg
  fn : Tab FnRt
  q : Tab QRt
  vec : Tab Vec
  report : Tab FnReport
  dlog : Tab DLog
  blobs : Tab Blob
  perstPending : List Nat -- ports whose PERST# was recorded in SLEEP (19, R624)
  deriving DecidableEq, Repr, Inhabited

/-- The part of the reset state that HostIf holds. -/
def HostIf.initial : HostIf :=
  { pf := [], fn := [], q := [], vec := [], report := [], dlog := [], blobs := [], perstPending := [] }

/-- The record types of R99. -/
inductive RType where
  | data | void | openRec | close | bind | timeGap
  deriving DecidableEq, Repr, Inhabited

/-- A numbered record that is still in flight (01, R17–R22): the header fields of 03, R99, its payload bytes in staging, its owner, the
credits it holds and how far it has come. Key in `recs`: ledger x 2^64 + sequence number. -/
structure Rec where
  ty : RType
  fn : Nat
  q : Nat
  cid : Nat
  owed : Bool           -- a completion is owed to the host
  length : Nat
  sg : List (Nat × Nat) -- its buffer: addresses and lengths
  asked : Nat           -- payload bytes whose reads have been issued (R18)
  crcv : Bool
  hcrc : Nat
  dur : Bool            -- FLAGS.DUR
  ckpt : Bool           -- FLAGS.CKPT
  setepoch : Nat
  ticks : Nat
  tenant : Nat
  extent : Nat
  keygen : Nat
  offset : Nat
  label : Nat
  data : List Byte      -- payload bytes whose DMA has completed
  grp : Nat             -- lane group of its descriptor + 1, 0 where it holds none
  lane : Nat            -- lane that works on it + 1, 0 none
  pages : Nat           -- write-pool bytes held, in KiB
  lsc : Bool            -- holds an LSC slot
  sco : Bool            -- holds an SCO handle
  crc : Nat             -- CRC-32C the lane computed
  tag : Option Nat      -- the released tag
  voidCause : Nat       -- 0 not void; otherwise the cause of R99
  slotExt : Nat         -- the abandoned slot (R101)
  slotOff : Nat
  placed : Bool         -- a void record has its own offset (06, R228)
  chained : Bool
  before : Nat          -- the chain value before it, once chained
  durable : Bool
  lost : Bool           -- a stripe of it is lost (R116)
  completed : Bool
  status : Nat
  inLock : Bool := false -- numbered while LOCKED (06, R258)
  deriving DecidableEq, Repr, Inhabited

/-- The states of a ledger (03, R107). -/
inductive LState where
  | free | bound | unbound | closing | closed
  deriving DecidableEq, Repr, Inhabited

/-- A ledger (03, R107–R110, R127). -/
structure Ledger where
  st : LState
  tenant : Nat
  durableMode : Bool
  fn : Nat
  q : Nat
  next : Nat            -- next sequence number
  unchained : Nat       -- first sequence number not chained
  uncompleted : Nat     -- first sequence number whose completion is not posted
  ckn : Nat
  ckt : Nat
  rring : Nat
  rlog : Nat
  rcptLost : Bool
  rcptFault : Bool
  lostFirst : Nat
  openTicks : Nat
  chain : Nat           -- chain value of record unchained − 1 (06, R225)
  firstChain : Nat      -- its initial chain value (06, R225)
  lastCkpt : Nat        -- sequence number of the latest checkpoint formed
  hasCkpt : Bool
  chainedSince : Nat    -- records chained since the last checkpoint was called for (06, R231)
  ckTicks : Nat         -- ticks at which the time trigger last restarted
  prevFn : Nat
  prevQ : Nat
  unbindCause : Nat
  closeSeq : Option Nat -- sequence number of its CLOSE record
  cutShort : Bool       -- CLOSING and cut short: CLOSED once its CLOSE record, or the void in its place, is chained (R107)
  deriving DecidableEq, Repr, Inhabited

/-- A receipt that could not be written (03, R105). -/
structure Orphan where
  ledger : Nat
  seq : Nat
  locator : Nat
  deriving DecidableEq, Repr, Inhabited

/-- A FLUSH or CHECKPOINT_NOW that waits (03, R125, R126): who asked, and the ledgers with the highest sequence number it covers. -/
inductive LWait where
  | flush (fn q cid : Nat) (upTo : List (Nat × Nat)) (res0 : Nat)
  | ckpt (fn q cid ledger seq : Nat) (signed : Bool)
  deriving DecidableEq, Repr, Inhabited

/-- A VERIFY_RANGE that runs (03, R121): who asked, the records still to verify with their locators, the chain value so far, the
checkpoints compared. -/
structure VerifyRun where
  fn : Nat
  q : Nat
  cid : Nat
  ledger : Nat
  seq : Nat
  locs : List Nat
  chain : Nat
  compared : Nat
  deriving DecidableEq, Repr, Inhabited

/-- Ledgers, records in flight, orphan receipts (oldest first), commands that wait, VERIFY_RANGE runs by number. -/
structure Ledgers where
  tab : Tab Ledger
  recs : Tab Rec
  orphans : List Orphan
  waits : List LWait
  verify : Tab VerifyRun
  nextVerify : Nat
  gaps : List (Nat × Nat × Nat) -- TIME_GAP records still to number (R108): ledger, archive epoch before and after
  deriving DecidableEq, Repr, Inhabited

/-- An entry of the settings change log (03, R132). -/
structure SetChange where
  sid : Nat
  cls : Nat
  issuer : Nat
  epoch : Nat
  ticks : Nat
  old : Nat
  new : Nat
  deriving DecidableEq, Repr, Inhabited

/-- Who asked for a setting change: a PF's admin queue entry or a KCALL slot. -/
inductive SetIssuer where
  | admin (fn q cid : Nat)
  | kcall (core slot : Nat)
  deriving DecidableEq, Repr, Inhabited

/-- A setting change that waits for the previous one to converge (03, R137). -/
structure SetWait where
  who : SetIssuer
  sid : Nat
  value : Nat
  persist : Bool
  deriving DecidableEq, Repr, Inhabited

/-- Settings (03, R133–R138): values that differ from the defaults, live and in the image; the journal in entry order; the IDs the image
locks; the change log, oldest first; the units still to take up the epoch change (class, index); a change that waits; whether a quorum
session must be OPEN is asked of the session. -/
structure Settings where
  live : Tab Nat
  image : Tab Nat
  journal : List (Nat × Nat)
  locks : List Nat
  changes : List SetChange
  laggards : List (Nat × Nat)
  waiting : List SetWait
  excl : Bool            -- an exclusive admin command runs (R128)
  deriving DecidableEq, Repr, Inhabited

/-- The part of the reset state that Ledgers holds. -/
def Ledgers.initial : Ledgers :=
  { tab := [], recs := [], orphans := [], waits := [], verify := [], nextVerify := 0, gaps := [] }

/-- The part of the reset state that Settings holds. -/
def Settings.initial : Settings :=
  { live := [], image := [], journal := [], locks := [], changes := [], laggards := [], waiting := [], excl := false }

/-- The work classes of the tallies (01, R28). -/
inductive Cls where
  | write | read | assay
  deriving DecidableEq, Repr, Inhabited

/-- What a read or assay item is for (01, R23; 03, R118, R121; 08, R326; `check`: the tag check after a migration, 08, R319). -/
inductive ItemUse where
  | readCmd (fn q cid : Nat) (sg : List (Nat × Nat)) (hptr bufLen : Nat)
  | verify (run : Nat)
  | assay (run : Nat)
  | check
  deriving DecidableEq, Repr, Inhabited

/-- Where an item stands: it waits for media, is runnable, is on a lane, its verified bytes leave for the host, its hold region is being
zeroed. -/
inductive ItemPhase where
  | media | runnable | onLane | leaving | zeroing
  deriving DecidableEq, Repr, Inhabited

/-- A read or assay item from its lookup to the release of its hold region: the record it names, the place it looked up, its stripes'
units still needed (stripe, unit), what media gave, its span and credits, the lane that runs it (lane + 1, 0 none). -/
structure Item where
  cls : Cls
  use : ItemUse
  fn : Nat
  ledger : Nat
  seq : Nat
  tenant : Nat
  extent : Nat
  keygen : Nat
  rank : Nat
  bay : Nat
  offset : Nat
  size : Nat            -- stored bytes to read
  need : List (Nat × Nat)
  stored : Option Stored
  span : Nat            -- KiB reserved
  borrowed : Nat        -- of those, KiB borrowed from the write pool (01, R31)
  grp : Nat
  clr : Bool
  lhd : Bool
  lane : Nat
  phase : ItemPhase
  rerun : Bool          -- already run once on another lane (04, R164)
  avoid : Nat           -- lane that abandoned it + 1, 0 none (R164)
  recon : Bool          -- a unit of it was reconstructed (07, R292)
  deriving DecidableEq, Repr, Inhabited

/-- What a lane holds beside its registers: its key register's (tenant, extent, KEYGEN), what it works on (a record key or an item), a
reset waiting for the record's end (0 none, 1 drain, 2 abort), a KAT due at the record's end, why its running KAT runs (RCAUSE). -/
structure LaneRt where
  key : Option (Nat × Nat × Nat)
  wantKey : Option (Nat × Nat × Nat)
  record : Option Nat
  item : Option Nat
  resetWait : Nat
  katDue : Bool
  katCause : Nat
  subst : Option Nat    -- a spare under test for this group x 16 + slot
  deriving DecidableEq, Repr, Inhabited

/-- An entry of the lane log 0x30 (04, R181). -/
structure LaneLog where
  ticks : Nat
  lane : Nat
  event : Nat
  detail : Nat
  ledger : Nat
  seq : Nat
  extent : Nat
  deriving DecidableEq, Repr, Inhabited

/-- Lanes beside the registers. Keys: `rt` lane; `items` item number. `wq`, `rq`, `aq` are the class queues in the order of entry (record
keys, item numbers); `voids` the void seals that wait for a lane; `rotor` the group used last per class; `leaving`, `entering` groups that change
power; `assayDone` assay items that have ended: run, status, what was read, whether a unit was reconstructed. -/
structure Lanes where
  rt : Tab LaneRt
  items : Tab Item
  nextItem : Nat
  wq : List Nat
  rq : List Nat
  aq : List Nat
  voids : List Nat
  rotorW : Nat
  rotorR : Nat
  rotorA : Nat
  leaving : List Nat
  entering : List Nat
  assayDone : List (Nat × Nat × Option Stored × Bool)
  log : List LaneLog
  deriving DecidableEq, Repr, Inhabited

/-- The part of the reset state that Lanes holds. -/
def Lanes.initial : Lanes :=
  { rt := [], items := [], nextItem := 0, wq := [], rq := [], aq := [], voids := [], rotorW := 15, rotorR := 15, rotorA := 15,
    leaving := [], entering := [], assayDone := [], log := [] }

/-- Extent states (05, R203). -/
inductive EState where
  | free | openE | sealedE | migrating | releasePending | retired
  deriving DecidableEq, Repr, Inhabited

/-- An extent table entry (05, R202), with the exact next offset that FILL rounds up, and whether a journal commit has recorded its
allocation (R205). -/
structure Extent where
  st : EState
  hold : Bool
  age : Nat
  rank : Nat            -- 63 when no bay is held
  bay : Nat
  tenant : Nat
  placegen : Nat
  keygen : Nat
  next : Nat
  committed : Bool
  deriving DecidableEq, Repr, Inhabited

/-- The entry of an extent never used: FREE, all generations 0. -/
def Extent.blank : Extent := ⟨.free, false, 0, 63, 0, 0, 0, 0, 0, false⟩

/-- The entry of an extent never used after verdicts that raised the KEYGEN of every FREE extent by `g` in all: beyond 0xFF_FFFF it is RETIRED
(05, R218). -/
def Extent.unused (g : Nat) : Extent := if g ≤ 0xFFFFFF then { Extent.blank with keygen := g } else { Extent.blank with st := .retired }

/-- A key slot (05, R187). `key` is a number standing for the wrapped key. -/
structure KeySlot where
  ty : Nat              -- 0 empty, 1 tenant key, 2 policy key, 3 tenant key lost with the KEK, 255 erased
  owner : Nat
  gen : Nat
  usage : Nat
  key : Nat
  check : Nat
  deriving DecidableEq, Repr, Inhabited

/-- A position of a tenant's open set (05, R205): its current and standby extents, each index + 1, 0 none. -/
structure Pos where
  cur : Nat
  standby : Nat
  deriving DecidableEq, Repr, Inhabited

/-- A tenant (05, R194–R196, R205). `st`: 0 NONE, 1 ACTIVE, 2 KEY_ABSENT. -/
structure Tenant where
  st : Nat
  openw : Nat
  extQuota : Nat
  ledQuota : Nat
  rankMask : Nat
  name : Nat
  rot : Nat             -- the position in turn
  opens : List Pos
  deriving DecidableEq, Repr, Inhabited

/-- A tenant that does not exist. -/
def Tenant.none : Tenant := ⟨0, 0, 0, 0, 0, 0, 0, []⟩

/-- A root log entry (05, R210). -/
structure RootEntry where
  root : Nat
  archEpoch : Nat
  seq : Nat
  deriving DecidableEq, Repr, Inhabited

/-- A journal entry's change (05, R211): a new entry value of an extent, a reset start or end of a bay, a migration, a next offset. -/
inductive JEntry where
  | entry (ext : Nat) (value : Extent)
  | resetStart (rank bay : Nat)
  | resetDone (rank bay : Nat)
  | migration (ext phase rank bay : Nat)
  | nextOffset (ext off : Nat)
  deriving DecidableEq, Repr, Inhabited

/-- What waits for the commit that carries a change: a release of extents (08, R334), a migration's phase. -/
inductive JWait where
  | release (fn q cid : Nat) (count : Nat)
  | migStart (ext : Nat)
  | migDone (ext : Nat)
  | bayReset (rank bay ext : Nat)
  | released (ext : Nat)
  deriving DecidableEq, Repr, Inhabited

/-- A rollback event (05, R222). -/
structure RollLog where
  ticks : Nat
  event : Nat
  expSeq : Nat
  foundSeq : Nat
  cause : Nat
  expRoot : Nat
  foundRoot : Nat
  jseq : Nat
  deriving DecidableEq, Repr, Inhabited

/-- Strongroom and the extent keeper beside their registers. Keys: `slots` slot number, `tenants` tenant, `ext` extent index. -/
structure Keys where
  rk : Nat              -- the device root key, 0 not formed
  kek : Nat             -- the KEK register, 0 cleared
  secretS : Nat         -- the BBRAM secret S, 0 none
  kcv : Option Nat      -- the stored KCV
  fuseF : Nat           -- the fused secret F, 0 not programmed
  blobKey : Nat         -- VF-blob key of this start
  identity : Nat        -- device identity keys, 0 none
  restoreKey : Nat      -- device restore key pair, 0 none
  slots : Tab KeySlot
  ucache : List Nat     -- slots unwrapped, most recent first
  dkc : List (Nat × Nat × Nat) -- tenant, extent, KEYGEN of cached extent keys, most recent first
  tenants : Tab Tenant
  ext : Tab Extent
  reserve : List Nat    -- the extents of the control reserve (R206)
  journal : List JEntry -- changes since the last commit, oldest first
  commit : List JEntry  -- changes of the commit in flight
  committing : Bool
  jwait : List (Nat × JWait) -- work waiting for so many of the changes not yet in a commit
  jwaitNow : List JWait -- work waiting for the commit in flight
  jfail : Bool
  clean : Bool          -- the last commit carries CLEAN
  head : Option Nat     -- JSEQ of the journal head in BBRAM
  root : RootEntry
  tree : Nat            -- tree root of the persist descriptor that the latest root commit names (06, R233)
  durable : Tab Extent  -- the table that a restore from media would give up to the journal head (R209–R216)
  leaves : Option (Tab Extent) -- the image that a full persist in progress has captured
  more : Bool           -- a commit left changes over that form the next one at once (R211)
  persistNow : Bool     -- a full persist runs
  lastRootTicks : Nat
  persistAll : Bool     -- a full persist is called for and waits (R214)
  roll : List RollLog   -- log 0x42, oldest first
  candidate : Bool      -- a candidate is loaded (R217)
  warned : Bool         -- the CLEAN commit ended a warned power loss (R215)
  freshGen : Nat        -- KEYGEN of the extents never used (R218)
  deriving DecidableEq, Repr, Inhabited

/-- The part of the reset state that Keys holds. -/
def Keys.initial : Keys :=
  { rk := 0, kek := 0, secretS := 0, kcv := none, fuseF := 0, blobKey := 0, identity := 0, restoreKey := 0, slots := [],
    ucache := [], dkc := [], tenants := [], ext := [], reserve := [], journal := [], commit := [], committing := false,
    jwait := [], jwaitNow := [], jfail := false, clean := false, head := none, root := ⟨0, 0, 0⟩, tree := 0, durable := [],
    leaves := none, more := false, persistNow := false, lastRootTicks := 0, persistAll := false, roll := [], candidate := false,
    warned := false, freshGen := 0 }

/-- A checkpoint called for and not yet formed (06, R231). -/
structure CkCall where
  ledger : Nat
  seq : Nat
  cause : Nat
  chain : Nat
  deriving DecidableEq, Repr, Inhabited

/-- A checkpoint entry (06, R233). -/
structure CkEntry where
  tq : Nat
  ledger : Nat
  tenant : Nat
  cause : Nat
  seq : Nat
  ticks : Nat
  anchor : Nat
  setepoch : Nat
  archEpoch : Nat
  rootSeq : Nat
  chain : Nat
  cfgDigest : Nat
  xroot : Nat
  dead : Bool := false  -- no longer in the index of its ledger, whose ID became FREE (R335): not part of the 192 bytes
  deriving DecidableEq, Repr, Inhabited

/-- A closed batch of checkpoint entries (06, R234–R239). -/
structure Batch where
  number : Nat
  entries : List CkEntry
  root : Nat
  header : Nat          -- SHA-384 of its header
  prev : Nat
  ticks : Nat
  tq : Nat
  anchor : Nat
  archEpoch : Nat
  signed : Option Nat   -- the signatures
  stored : Bool
  deriving DecidableEq, Repr, Inhabited

/-- Who waits for a PKE job (06, R251): the signing of a batch, a Keeper job, a KCALL slot, an ATTEST. -/
inductive PkeFor where
  | batch (number : Nat)
  | keeper
  | kcall (core slot : Nat)
  | attest (fn q cid : Nat) (report : List Nat) (sg : List (Nat × Nat)) (length : Nat)
  deriving DecidableEq, Repr, Inhabited

/-- A PKE job: its class 1 batch, 2 Keeper, 3 KCALL; operation codes on the two datapaths (R649); who waits. -/
structure PkeJob where
  cls : Nat
  op : Nat
  nttop : Nat
  who : PkeFor
  deriving DecidableEq, Repr, Inhabited

/-- A command that waits for a batch's signing (06, R240): a GET_PROOF of a ledger's checkpoint. -/
structure ProofWait where
  fn : Nat
  q : Nat
  cid : Nat
  sg : List (Nat × Nat)
  ledger : Nat
  seq : Nat
  deriving DecidableEq, Repr, Inhabited

/-- A mark of a ledger (06, R242): its table entry, the last sequence number of its durable prefix + 1, the chain value there. -/
structure Mark where
  led : Ledger
  dnext : Nat
  dchain : Nat
  deriving DecidableEq, Repr, Inhabited

/-- Scrivener, time anchor and PKE beside their registers. Key: `unit` PKE unit. -/
structure Scrivener where
  calls : List CkCall     -- called for, oldest first
  entries : List CkEntry  -- the open batch
  outside : List CkEntry  -- formed within 250 µs of a close, outside the batch
  holdoff : Bool          -- less than 250 µs have passed since the previous close
  due : Bool              -- the batch is due to close when the hold-off ends
  batches : List Batch    -- closed batches, oldest first
  lastBatch : Nat         -- number of the last closed batch
  mark : Bool             -- a mark block waits for its copies (R242)
  markStored : Bool       -- the mark block of the commit to come is stored
  markNow : Tab Mark      -- marks of the mark block being written (by ledger)
  marks : Tab Mark        -- marks of the latest committed mark block or snapshot (by ledger)
  keptNow : List CkEntry -- checkpoint entries that the mark block being written carries (R242)
  kept : List CkEntry     -- those of the latest committed mark block
  scans : List (Nat × Nat) -- its scan starts: extent, lowest header offset
  proofs : List ProofWait
  nonce : Option (Nat × Nat) -- nonce, t0
  anchorValid : Bool      -- an anchor was accepted since the tick counter restarted
  anchorEpoch : Nat       -- archive epoch at the latest anchor
  uncert : Nat            -- its uncertainty, ms
  drifting : Bool
  stale : Bool
  jobs : List PkeJob      -- queued, oldest first
  unit : Tab PkeJob       -- job running on a unit
  certs : List (List Nat) -- certificates in the Keeper partition, in the order stored (06, R256)
  certOf : List (Nat × Nat) -- of each, 0 Sirmin or 1 owner, and the identity key it certifies: 0 P-384, 1 ML-DSA-65
  deriving DecidableEq, Repr, Inhabited

/-- The part of the reset state that Scrivener holds. -/
def Scrivener.initial : Scrivener :=
  { calls := [], entries := [], outside := [], holdoff := false, due := false, batches := [], lastBatch := 0, mark := false,
    markStored := false, markNow := [], marks := [], keptNow := [], kept := [], scans := [], proofs := [], nonce := none,
    anchorValid := false, anchorEpoch := 0, uncert := 0, drifting := false, stale := false, jobs := [], unit := [], certs := [], certOf := [] }

/-- What a port holds beside its registers (07, R264–R274): the drive found, its label, how far its bring-up came (1–8 of R271), its
first timeout (R270). -/
structure PortRt where
  step : Nat
  drive : Option Drive
  label : Label
  timedOut : Bool
  leftGen : Nat
  deriving DecidableEq, Repr, Inhabited

/-- A slot of a rank (07, R276). `st`: 0 IN_SERVICE, 1 MISSING, 2 REBUILDING. -/
structure RSlot where
  st : Nat
  nguid : Nat
  port : Nat
  deriving DecidableEq, Repr, Inhabited

/-- A rank as the rank table holds it (07, R275, R276), its bays in use (held by extents or by the control reserve) and its log bays. -/
structure RankRt where
  k : Nat
  m : Nat
  unit64 : Bool
  gen : Nat
  bays : Nat
  zpb : Nat
  zcap : Nat
  journalZones : Nat
  slots : List RSlot
  departed : List (Nat × Nat) -- NGUID, LEFTGEN; newest first, at most 16
  used : List Nat
  logBays : List Nat
  evacuate : Bool
  deriving DecidableEq, Repr, Inhabited

/-- A stripe not yet durable (01, R20, R21): bytes assigned to it, slots whose unit is acknowledged, whether it is closed (full, or padded). -/
structure Stripe where
  extent : Nat
  stripe : Nat
  rank : Nat
  bay : Nat
  assigned : Nat
  acked : List Nat
  closed : Bool
  padded : Bool
  deriving DecidableEq, Repr, Inhabited

/-- An entry of log 0x43 (07, R305). -/
structure RankLog where
  ticks : Nat
  event : Nat
  rank : Nat
  slot : Nat
  port : Nat
  gen : Nat
  extent : Nat
  stripe : Nat
  detail : Nat
  nguid : Nat
  deriving DecidableEq, Repr, Inhabited

/-- A rebuild walk of a slot (07, R295): the bays still to do, in order. -/
structure Walk where
  rank : Nat
  slot : Nat
  todo : List Nat
  rejoin : Bool
  worn : Option Nat     -- the worn drive it replaces, whose port is released at its end (08, R324)
  deriving DecidableEq, Repr, Inhabited

/-- A bad unit reported to Retention, refresh and assay (07, R292): extent, stripe, slot. -/
structure BadUnit where
  extent : Nat
  stripe : Nat
  slot : Nat
  deriving DecidableEq, Repr, Inhabited

/-- Media beside the registers. Keys: `port`, `rank`; `spares` NGUIDs of the spare pool; `degraded` (rank, bay, slot). -/
structure Media where
  port : Tab PortRt
  rank : Tab RankRt
  spares : List Nat
  stripes : List Stripe
  degraded : List (Nat × Nat × Nat)
  bad : List BadUnit
  log : List RankLog
  walks : List Walk
  resets : List (Nat × Nat × Nat) -- bays whose zone resets run: rank, bay, extent + 1 (0: none)
  deriving DecidableEq, Repr, Inhabited

/-- The part of the reset state that Media holds. -/
def Media.initial : Media :=
  { port := [], rank := [], spares := [], stripes := [], degraded := [], bad := [], log := [], walks := [], resets := [] }

/-- A drive record (08, R308), with what its averages are formed from: the latest append latencies, newest first; soft errors and bytes
read in the pass. -/
structure DriveRec where
  nguid : Nat
  pctUsed : Nat
  watch : Bool
  limit : Bool
  trend : Bool
  softHigh : Bool
  days : Nat
  rdBytes : Nat
  wrBytes : Nat
  soft : Nat
  hard : Nat
  lats : List Nat
  latBase : Nat
  softRate : Nat
  mediaErr : Nat
  smTicks : Nat
  passSoft : Nat
  passRd : Nat
  deriving DecidableEq, Repr, Inhabited

/-- An attention-list entry (08, R310, R316): extent and reason code; for RECOVERY of a migration found at a start, its target (rank, bay). -/
structure Attn where
  extent : Nat
  reason : Nat
  target : Option (Nat × Nat)
  day : Nat             -- ticks at which it was entered
  deriving DecidableEq, Repr, Inhabited

/-- The accumulators of an extent, and its seal record (08, R313, R314). -/
structure SealRec where
  tenant : Nat
  keygen : Nat
  unknown : Bool        -- FOLD_UNKNOWN
  full : Bool           -- CENSUS_FULL
  records : Nat
  endOff : Nat
  fold : Nat
  census : Nat
  rscan : Nat
  abandoned : List (Nat × Nat)
  deriving DecidableEq, Repr, Inhabited

/-- A migration (08, R318): its source and target, the next stripe to copy, whether START and DONE are committed or on their way, the
stripes in which a unit was reconstructed from exactly k units (R319). -/
structure Mig where
  extent : Nat
  reason : Nat
  srcRank : Nat
  srcBay : Nat
  rank : Nat
  bay : Nat
  gen : Nat
  start : Nat
  started : Bool
  done : Bool
  copied : Nat
  exact : List Nat
  deriving DecidableEq, Repr, Inhabited

/-- An entry of log 0x53 (08, R341). -/
structure MigLog where
  start : Nat
  extent : Nat
  reason : Nat
  outcome : Nat
  srcRank : Nat
  rank : Nat
  srcBay : Nat
  bay : Nat
  gen : Nat
  ms : Nat
  deriving DecidableEq, Repr, Inhabited

/-- An entry of log 0x51 (08, R340). -/
structure Finding where
  ticks : Nat
  kind : Nat
  source : Nat
  ledger : Nat
  extent : Nat
  place : Nat
  seq : Nat
  deriving DecidableEq, Repr, Inhabited

/-- An assay run (08, R325–R329) and, ended, its report of log 0x50: `arg` tenant or rank; the extent being walked, its offset, fold and
count so far; whether its seal record is lost; batches still to check; counts of the finding kinds 1–10. -/
structure AssayRun where
  run : Nat
  scope : Nat
  aflags : Nat
  arg : Nat
  first : Nat
  last : Nat
  rate : Nat
  start : Nat
  finish : Nat
  endCode : Nat
  paused : Bool
  byPower : Bool        -- paused by a power state
  next : Nat            -- next extent to look at
  cur : Option Nat
  keygen : Nat
  off : Nat
  fold : Nat
  count : Nat
  sealLost : Bool
  extents : Nat
  lastExt : Nat
  records : Nat
  bytes : Nat
  batches : Nat
  sigs : Nat
  counts : List Nat
  deriving DecidableEq, Repr, Inhabited

/-- The assay and refresh scheduler beside its registers. Keys: `drive` port; `acc` extent (accumulators of extents not yet written down);
`seals` extent (seal records written); `softs` extent (soft errors in the pass). -/
structure Asy where
  drive : Tab DriveRec
  attn : List Attn
  due : Nat             -- tick at which the patrol pass is due to end
  stripe : Nat          -- stripe of the extent or log bay that patrol reads next
  logBay : Nat          -- log bays the pass has read
  inLogs : Bool         -- the pass has read its last extent
  mbps : Nat            -- patrol read rate, bytes a second
  softs : Tab Nat
  acc : Tab SealRec
  seals : Tab SealRec
  migs : List Mig
  checks : List (Nat × Nat) -- extents and stripes whose records wait for a tag check after a migration (R319)
  migLog : List MigLog
  findings : List Finding
  run : Option AssayRun
  reports : List AssayRun
  ageTicks : Nat        -- ticks of the last AGE update (05, R207)
  deriving DecidableEq, Repr, Inhabited

/-- The part of the reset state that Asy holds. -/
def Asy.initial : Asy :=
  { drive := [], attn := [], due := 0, stripe := 0, logBay := 0, inLogs := false, mbps := 0, softs := [], acc := [], seals := [],
    migs := [], checks := [], migLog := [], findings := [], run := none, reports := [], ageTicks := 0 }

/-- Who waits for random bytes (09, R354, R358; 12, R459). -/
inductive RandFor where
  | host (fn q cid : Nat) (sg : List (Nat × Nat))
  | kcall (core slot buf : Nat)
  deriving DecidableEq, Repr, Inhabited

/-- A request for random bytes that waits or is being served: bytes given and bytes wanted, ticks it has waited in RAW. -/
structure RandReq where
  who : RandFor
  given : Nat
  want : Nat
  rawTicks : Nat
  deriving DecidableEq, Repr, Inhabited

/-- The random number generator beside its registers: ticks of each instance's last reseed, the instances that RNG_CTRL.RESEED names, the
requests that wait (oldest first), the raw FIFO (oldest first). -/
structure Rng where
  seeded : Tab Nat
  named : List Nat
  reqs : List RandReq
  fifo : List Nat
  deriving DecidableEq, Repr, Inhabited

/-- The part of the reset state that Rng holds. -/
def Rng.initial : Rng :=
  { seeded := [], named := [], reqs := [], fifo := [] }

/-- The boot record (10, R373): floor, SEQ and digest last used, installed digest and length of KEEPER, POLICY0 and POLICY1, digest of MICROCODE, LOCK flag,
whether the identity keys exist. -/
structure BootRecord where
  floor : Nat
  seq : Nat
  digest : Nat
  keeper : Nat × Nat
  policy0 : Nat × Nat
  policy1 : Nat × Nat
  microcode : Nat
  lock : Bool
  identity : Bool
  deriving DecidableEq, Repr, Inhabited

/-- A WRITE_CONFIG_IMAGE session (10, R381): target copy, TOTAL, whether the header buffer is filled, the 4 KiB units written. -/
structure WSession where
  target : Nat
  total : Nat
  hdr : Bool
  written : List Nat
  deriving DecidableEq, Repr, Inhabited

/-- An entry of log 0x60 (10, R399). -/
structure BootLog where
  ticks : Nat
  reset : Nat
  mode : Nat
  halt : Nat
  copy : Nat
  flags : Nat
  areason : Nat
  breason : Nat
  lifecycle : Nat
  aseq : Nat
  bseq : Nat
  floor : Nat
  cfgTime : Nat
  readyTime : Nat
  marginal : Nat
  deriving DecidableEq, Repr, Inhabited

/-- Porter, fuses and boot beside their registers: the fuse words programmed (`fuses`), the words decided unusable at the cold reset, the fuse words as that reset found them; the image in use;
the boot record; the write session; log 0x60, oldest first; the reset type of the boot that runs (1 cold, 2 warm, 0 none), its start ticks and log flags; policy cores left without firmware. -/
structure Cfg where
  fuses : Tab Nat
  unusable : List Nat
  coldFuses : Tab Nat
  image : Option Image
  record : BootRecord
  session : Option WSession
  log : List BootLog
  boot : Nat
  bootTicks : Nat
  flags : Nat
  cfgTime : Nat
  noPolicy : List Nat
  aonLost : Bool         -- an AON reset, or a bad BBRAM header, that the boot has still to deal with
  deriving DecidableEq, Repr, Inhabited

/-- The part of the reset state that Cfg holds. -/
def Cfg.initial : Cfg :=
  { fuses := [], unusable := [], coldFuses := [], image := none, record := ⟨0, 0, 0, (0, 0), (0, 0), (0, 0), 0, false, false⟩, session := none,
    log := [], boot := 0, bootTicks := 0, flags := 0, cfgTime := 0, noPolicy := [], aonLost := true }

/-- The step a wake waits in (11, R420, R421): PWR_GOOD, the wait before a power retry, XTAL25, the wait before a crystal retry, the PLLs. -/
inductive WakeStep where
  | power | powerWait | crystal | crystalWait | pll
  deriving DecidableEq, Repr, Inhabited

/-- A wake sequence (11, R420, R421): from WATCH or SLEEP, its step, attempts of the power, crystal and PLL steps. -/
structure Wake where
  fromWatch : Bool
  step : WakeStep
  power : Nat
  crystal : Nat
  pll : Nat
  deriving DecidableEq, Repr, Inhabited

/-- An entry of log 0x61 (11, R434). -/
structure SupplyLog where
  ticks : Nat
  event : Nat
  detail : Nat
  vaon : Nat
  vbat : Nat
  deriving DecidableEq, Repr, Inhabited

/-- A SET_POWER_STATE that waits for the work of R39 (11, R413): target state. -/
structure Move where
  target : Nat
  start : Nat           -- ticks at its dispatch
  deriving DecidableEq, Repr, Inhabited

/-- Clocks and power beside the registers: WATCH (DEV_STATUS.POWER cannot name it), a wake that runs, PWR_EN, ticks + 1 at which PWR_FAIL# was last seen
asserted (0 never), log 0x61 (oldest first), the failure counters of BBRAM, a test of XTAL32 that runs, a qualified RESET# that is held, a
SET_POWER_STATE that waits, writes dropped by the shadow in SLEEP, a clock-loss restart that runs,
the drives shut down on the way to SLEEP (07, R300). -/
structure Aon where
  watch : Bool
  wake : Option Wake
  pwrEn : Bool
  failSeen : Nat
  log : List SupplyLog
  fails : Nat × Nat × Nat × Nat -- power, crystal, PLL, XTAL32
  retry : Bool
  heldReset : Bool
  move : Option Move
  shadowDrops : Nat
  clockLost : Bool
  drivesDown : Bool
  deriving DecidableEq, Repr, Inhabited

/-- The part of the reset state that Aon holds. -/
def Aon.initial : Aon :=
  { watch := false, wake := none, pwrEn := true, failSeen := 0, log := [], fails := (0, 0, 0, 0), retry := false,
    heldReset := false, move := none, shadowDrops := 0, clockLost := false, drivesDown := false }

/-- A wide operation issued and not yet committed (12, R448, R449). `flags` is C, Z, LT as (mask, value); `dst` 0–7 a wide register, 8 +
g a general register, 40 none; `fault`: WMODMUL with w7 = 0. -/
structure WideOp where
  pc : Word
  dst : Nat
  value : Wide
  fmask : Nat
  fval : Nat
  fault : Bool
  behind : Nat          -- entries since it was issued whose RETX is to come first (R450)
  deriving DecidableEq, Repr, Inhabited

/-- Whether a core runs (12, R466): held in reset, running, or its clock gated by IDLE. -/
inductive CoreRun where
  | held | running | idle
  deriving DecidableEq, Repr, Inhabited

/-- An Apulrum core, the Keeper pair as one (its ROM runs from reset): registers g0–g31 and w0–w7, pc, the control registers of R451 and the fields of STATUS (R452), what the exceptions
of 13 need, its TCM and, on a policy core, its TCM colours and the MPU control in force (14, R502, R504). -/
structure Core where
  run : CoreRun
  g : Vector Word 32
  w : Vector Wide 8
  pc : Word
  lastPc : Word         -- last committed instruction (R466)
  df : Bool
  holdOpen : Bool
  pam : Bool
  ppriv : Nat
  priv : Nat            -- 0 U, 1 S, 2 K
  pie : Bool
  ie : Bool
  epc : Word
  ecause : Word
  evbase : Word
  eaddr : Word
  dfsp : Word
  holdcnt : Nat
  scratch0 : Word
  scratch1 : Word
  cycle : Nat
  cycleH : Nat          -- latched high word
  instret : Nat
  instretH : Nat
  epochAck : Nat
  wflags : Nat          -- bit 0 C, 1 Z, 2 LT
  wexc : Word
  wexcLost : Nat
  entrySpan : Bool      -- the first instruction of a handler has not committed (R475)
  entryCode : Nat       -- CODE of that entry, 31 for an interrupt
  impPending : Option (Nat × Word) -- imprecise exception waiting: code, address
  impHold : Nat         -- entries whose RETX comes before it is taken (R450)
  impUnread : Bool      -- the last one's WEXC or EADDR has not been read
  wide : List WideOp    -- issued, oldest first
  posted : List (Nat × Nat) -- posted stores not known accepted: address, bytes
  mpuEn : Bool
  mpuPrivdef : Bool
  tcm : Tab Byte        -- by offset; an unlisted byte reads 0
  colours : Tab Nat     -- TCM granule colours; unlisted 0
  deriving DecidableEq, Repr, Inhabited

/-- A core after its reset (12, R452; 13, R470): everything 0 but the vector base, pc and privilege. -/
def Core.reset (c : Nat) : Core :=
  let ev : Word := if c = 0 then 0x00000000 else if c = 1 then 0x00200000 else 0x0FFC0000
  { run := if c = 2 then .running else .held, g := Vector.replicate 32 0, w := Vector.replicate 8 0, pc := ev, lastPc := 0, df := false, holdOpen := false,
    pam := false, ppriv := 0, priv := if c = 2 then 2 else 1, pie := false, ie := false, epc := 0, ecause := 0, evbase := ev,
    eaddr := 0, dfsp := 0, holdcnt := 0, scratch0 := 0, scratch1 := 0, cycle := 0, cycleH := 0, instret := 0, instretH := 0,
    epochAck := 1, wflags := 0, wexc := 0, wexcLost := 0, entrySpan := false, entryCode := 0, impPending := none, impHold := 0,
    impUnread := false, wide := [], posted := [], mpuEn := false, mpuPrivdef := false, tcm := [], colours := [] }

/-- A KCALL request slot (12, R456). `state`: 0 IDLE, 1 PENDING, 2 RUNNING, 3 DONE. -/
structure KSlot where
  svc : Nat
  args : List Nat
  buf : Nat
  blen : Nat
  state : Nat
  result : Nat
  ret : List Nat
  ready : Bool          -- the running service has its result (R457)
  drop : Bool           -- the core was reset while it ran: the result is discarded (R458)
  deriving DecidableEq, Repr, Inhabited

/-- A policy command outstanding (12, R462). -/
structure PolCmd where
  tag : Nat
  core : Nat
  fn : Nat
  q : Nat
  cid : Nat
  entry : Entry
  sg : List (Nat × Nat)
  deriving DecidableEq, Repr, Inhabited

/-- A policy DMA transfer in progress (12, R463): tag, direction, local address, offset and bytes as its registers gave them at GO. -/
structure PolDma where
  tag : Nat
  dir : Nat
  addr : Nat
  off : Nat
  len : Nat
  deriving DecidableEq, Repr, Inhabited

/-- The cores, the interrupt controller beside its registers, the KCALL window, the policy commands, the shared staging region.
Keys: `coal` shared source; `claims` core x 16 + level, value source ID; `retarget` shared source in service, value the new target;
`kslots` core x 4 + slot; `poldma` core; `staging` byte offset from 0x2000_0000. -/
structure Cpu where
  core0 : Core
  core1 : Core
  keeper : Core
  coal : Tab Nat
  claims : Tab Nat
  retarget : Tab Nat
  kslots : Tab KSlot
  korder : List Nat     -- slots in the order of their GO writes
  polCmds : List PolCmd
  polPhase0 : Bool
  polPhase1 : Bool
  poldma : Tab PolDma
  staging : Tab Byte
  stagingColours : Tab Nat
  fills : List (Nat × Nat × Nat × Nat) -- tag fills in GO order: core, first granule address, count, colour
  lastMismatch : Nat    -- AON ticks + 1 of the last Keeper restart, 0 none
  halfRead : Tab Nat    -- high words latched by reads of low words: master x 2^34 + address (21, R640)
  halfWrite : Tab Nat   -- low words held for the write of the high word, keyed alike
  deriving DecidableEq, Repr, Inhabited

/-- The part of the reset state that Cpu holds. -/
def Cpu.initial : Cpu :=
  { core0 := Core.reset 0, core1 := Core.reset 1, keeper := Core.reset 2, coal := [], claims := [], retarget := [], kslots := [],
    korder := [], polCmds := [], polPhase0 := true, polPhase1 := true, poldma := [], staging := [], stagingColours := [],
    fills := [], lastMismatch := 0, halfRead := [], halfWrite := [] }

/-- An operation of a flash bank (15, R523, R525): its interface, 1 program or 2 erase, address, and the 256-bit word of a program. -/
structure FlashOp where
  iface : Nat
  op : Nat
  addr : Nat
  data : Nat
  deriving DecidableEq, Repr, Inhabited

/-- A flash bank (15, R526–R528): the operation that runs (a program nested in a suspended erase too), the erase that is suspended, whether a suspend waits
for its effect, the commands that wait. -/
structure FlashBank where
  run : Option FlashOp
  sus : Option FlashOp
  susDue : Bool
  waiting : List FlashOp
  deriving DecidableEq, Repr, Inhabited

/-- A sector's flag word (15, R533): VALID programmed, pairs whose START and DONE are programmed. -/
structure FlagWord where
  valid : Bool
  starts : Nat
  dones : Nat
  deriving DecidableEq, Repr, Inhabited

/-- An entry of log 0x62 (15, R541). -/
structure FlashLog where
  ticks : Nat
  event : Nat
  sector : Nat
  pulses : Nat
  iface : Nat
  addr : Nat
  deriving DecidableEq, Repr, Inhabited

/-- Embedded flash beside its registers. Keys: `mem` byte address (an unlisted byte is erased, 0xFF); `bank` 0 and 1; `flags` sector index; `dates`
sector index, the ticks of its last refresh. `cut` holds the words (address / 32) whose program was cut short or failed to verify (R524).
The Keeper's own records (key slots, boot record, rank table, journals, logs) are held in their own fields of State. -/
structure Efl where
  mem : Tab Byte
  bank : Tab FlashBank
  flags : Tab FlagWord
  cut : List Nat
  dates : Tab Nat
  log : List FlashLog
  deriving DecidableEq, Repr, Inhabited

/-- The part of the reset state that Efl holds. -/
def Efl.initial : Efl :=
  { mem := [], bank := [], flags := [], cut := [], dates := [], log := [] }

/-- A tamper log entry (16, R561). -/
structure TmpEntry where
  ticks : Nat
  source : Nat
  event : Nat
  actions : Nat
  det : Nat
  state : Nat
  vaon : Nat
  vbat : Nat
  temp : Nat
  evseq : Nat
  detail : Nat
  deriving DecidableEq, Repr, Inhabited

/-- Watchman beside its registers: log 0x70 (oldest first) and how many of its newest entries are not copied, the next event sequence number, log
0x71, failing and clean samples in a row by source, generator states of loops 0–3 and the mesh, the quorum session's start, failed authentications,
cards counted and actions performed (masks), a LOCK response in SLEEP that waits for READY. -/
structure Tamper where
  bbram : List TmpEntry
  uncopied : Nat
  evseq : Nat
  log71 : List TmpEntry
  fails : Tab Nat
  clean : Tab Nat
  gens : List Nat
  opened : Nat
  sFails : Nat
  cards : Nat
  acts : Nat
  lockDue : Bool
  deriving DecidableEq, Repr, Inhabited

/-- The part of the reset state that Tamper holds. -/
def Tamper.initial : Tamper :=
  { bbram := [], uncopied := 0, evseq := 0, log71 := [], fails := [], clean := [], gens := [0, 0, 0, 0, 0], opened := 0,
    sFails := 0, cards := 0, acts := 0, lockDue := false }

/-- An entry of the custodian set (17, R581): CARDID and public key. -/
structure CardEntry where
  id : Nat
  pub : Nat
  deriving DecidableEq, Repr, Inhabited

/-- Where a card's exchange stands (17, R568–R577): before activation, waiting for the ATR, the 10 ms between classes, PPS, and the four APDUs to come. -/
inductive CardStep where
  | powering | atr | gap | pps | select | cert | auth | resp
  deriving DecidableEq, Repr, Inhabited

/-- A card exchange (17): purpose 1 quorum, 2 enrolment; the staged entry of an enrolment; class in use (1 A, 2 B, 3 C), PPS1 to ask for, failed PPS, whether
a 0x6C answer was followed once, the certificate read, the set index matched, the nonce. -/
structure CardEx where
  purpose : Nat
  idx : Nat
  step : CardStep
  cls : Nat
  pps1 : Nat
  ppsFails : Nat
  again : Bool
  card : Option CardEntry
  index : Nat
  nonce : Nat
  deriving DecidableEq, Repr, Inhabited

/-- An entry of log 0x80 (17, R585). -/
structure CardLog where
  ticks : Nat
  purpose : Nat
  index : Nat
  status : Nat
  cls : Nat
  pps1 : Nat
  card : Nat
  deriving DecidableEq, Repr, Inhabited

/-- The custodian card interface beside its registers: the committed set (by index) and its quorum, the staged copy, the set and quorum that the quorum session
started with (R582), the exchange that runs, log 0x80 (oldest first). -/
structure Card where
  k : Nat
  cards : Tab CardEntry
  staged : Tab CardEntry
  sessK : Nat
  sessCards : Tab CardEntry
  ex : Option CardEx
  log : List CardLog
  deriving DecidableEq, Repr, Inhabited

/-- The part of the reset state that Card holds. -/
def Card.initial : Card :=
  { k := 0, cards := [], staged := [], sessK := 0, sessCards := [], ex := none, log := [] }

/-- The states of the tag (18, R592): POWER-OFF, IDLE, READY, ACTIVE, HALT, READY*, ACTIVE*. -/
inductive TagState where
  | off | idle | ready | active | halt | readyS | activeS
  deriving DecidableEq, Repr, Inhabited

/-- A page lock (18, R598): page, the 256 bytes that are being written, AON ticks at its start. -/
structure TagLock where
  page : Nat
  content : List Nat
  start : Nat
  deriving DecidableEq, Repr, Inhabited

/-- The Nameplate (18). Its FRAM: `fram` holds the pages by (2 x page + copy) x 256 + byte, an unlisted byte reads 0; versions and selectors by page;
the reader key (0 none), CTR, failed authentications, memo writes; the copies of settings 0x8013, 0x8010, 0x8012. Its tag: state, cascade level 1 done,
authenticated, RndR of an AUTH1 not yet followed by AUTH2. Its wired side: updates requested through NPL_KUPD and NPL_PUPD, oldest first (pages); the lock held;
page 2's batch and the ticks of its last update; whether page 3 was written since the AON reset. -/
structure Npl where
  fram : Tab Byte
  ver : Tab Nat
  sel : Tab Nat
  key : Nat
  ctr : Nat
  fails : Nat
  memos : Nat
  fieldOn : Nat
  logsFree : Nat
  memoOn : Nat
  tag : TagState
  level1 : Bool
  auth : Bool
  auth1 : Option Nat
  queue : List Nat
  lock : Option TagLock
  batch : Option Nat
  lastBatchTicks : Nat
  page3Written : Bool
  deriving DecidableEq, Repr, Inhabited

/-- The part of the reset state that Npl holds. -/
def Npl.initial : Npl :=
  { fram := [], ver := [], sel := [], key := 0, ctr := 0, fails := 0, memos := 0, fieldOn := 1, logsFree := 0, memoOn := 1, tag := .off, level1 := false,
    auth := false, auth1 := none, queue := [], lock := none, batch := none, lastBatchTicks := 0, page3Written := false }

/-- The instruction the TAP holds (19, R625): after Test-Logic-Reset the IDCODE instruction (IEEE 1149.1). -/
inductive TapInstr where
  | bypass | idcode | samplePreload | extest
  deriving DecidableEq, Repr, Inhabited

/-- The board side (19): the TAP's instruction and the boundary register as captured and preloaded. -/
structure Board where
  tap : TapInstr
  boundary : List Bool
  captured : List Bool
  deriving DecidableEq, Repr, Inhabited

/-- The part of the reset state that Board holds. -/
def Board.initial : Board := { tap := .idcode, boundary := [], captured := [] }

/-- The state of the block. -/
structure State where
  /-- the register file: index x 1024 + field number, an unlisted field at its reset value (`Fld.reset`) -/
  regs : Tab Nat
  /-- host ports, functions, queues (02) -/
  host : HostIf
  /-- ledgers and records in flight (03) -/
  led : Ledgers
  /-- settings (03) -/
  set : Settings
  /-- seal lanes and read items (04) -/
  lane : Lanes
  /-- Strongroom and extents (05) -/
  key : Keys
  /-- Scrivener and PKE (06) -/
  scv : Scrivener
  /-- media ports, ranks, stripes (07) -/
  media : Media
  /-- retention, refresh and assay (08) -/
  asy : Asy
  /-- cores, interrupt controller, KCALL (12, 13, 14) -/
  cpu : Cpu
  /-- random number generator (09) -/
  rng : Rng
  /-- configuration image, fuses and boot (10) -/
  cfg : Cfg
  /-- clocks, power and the always-on domain (11) -/
  aon : Aon
  /-- tamper and environment monitors (16) -/
  tmp : Tamper
  /-- embedded flash (15) -/
  efl : Efl
  /-- custodian card interface (17) -/
  crd : Card
  /-- the Nameplate tag (18) -/
  npl : Npl
  /-- service ports on the board side (19) -/
  sbd : Board
  /-- values the spec leaves open drawn so far: the model's own counter, not the spec's (log entry 3) -/
  fresh : Nat
  /-- what the block has sent out (bus writes, messages, frames), newest first: the model's own record (log entry 2) -/
  out : List Out
  /-- the commands that wait, first in, first out -/
  pending : List Instr
  deriving DecidableEq, Repr

/-- A fault of the block as a whole. The spec lets no command stop the device for good: errors are statuses, events and exceptions of its
cores, which are next states. -/
inductive Fault where
  /-- No meaning raises it: an internal address in no block of R638 reads 0 and ignores writes (R639), so nothing is left to fault.
  Safe: it is never raised. -/
  | unused
  deriving DecidableEq, Repr

/-- Why the model gives a command no meaning. -/
inductive Refusal where
  /-- Raised by Dispatch.lean for a command that has no meaning yet; safe: nothing can be proved of what it does. -/
  | notModelled (mnemonic : String)
  deriving DecidableEq, Repr


/-- The block right after reset: an AON reset and a cold reset of a part as shipped (life-cycle state BLANK), before its boot. -/
def State.reset : State :=
  { regs := [],
    host := HostIf.initial,
    led := Ledgers.initial,
    set := Settings.initial,
    lane := Lanes.initial,
    key := Keys.initial,
    scv := Scrivener.initial,
    media := Media.initial,
    asy := Asy.initial,
    cpu := Cpu.initial,
    rng := Rng.initial,
    cfg := Cfg.initial,
    aon := Aon.initial,
    tmp := Tamper.initial,
    efl := Efl.initial,
    crd := Card.initial,
    npl := Npl.initial,
    sbd := Board.initial,
    fresh := 0, out := [], pending := [] }

end Sys2Proof.Machine
end

