-- ==== Sys2Proof/Machine/Ops.lean ====
section
/-!
DEFINITION. Machine/Ops.lean: the named operations that the commands share: register fields, the interrupt controller's assertion and
release of sources, block events and function events, MSI-X messages, host writes, completions, settings.
-/

namespace Sys2Proof.Machine

/-- The outcome of a command. -/
abbrev Res := Host.Outcome State Fault Refusal

/-- More than the fields there are: the numbers of the fields lie below it. -/
def fieldSpan : Nat := 1024

/-- The key of a field at an index in the register file. -/
def Fld.key (f : Fld) (i : Nat) : Nat := i * fieldSpan + f.id

/-- The value of a register field: what the register file lists, or its reset value. -/
def State.rd (s : State) (f : Fld) (i : Nat) : Nat := (Tab.find (f.key i) s.regs).getD (f.reset i)

/-- Set a register field, cut to its width (00, R7). -/
def State.wr (s : State) (f : Fld) (i v : Nat) : State :=
  { s with regs := Tab.put (f.key i) (v % 2 ^ f.width) s.regs }

/-- Whether a one-bit field is 1. -/
def State.isSet (s : State) (f : Fld) (i : Nat) : Bool := s.rd f i != 0

/-- Whether bit `b` of a field is 1. -/
def State.rdBit (s : State) (f : Fld) (i b : Nat) : Bool := (s.rd f i).testBit b

/-- Set or clear bit `b` of a field. -/
def State.wrBit (s : State) (f : Fld) (i b : Nat) (on : Bool) : State :=
  let v := s.rd f i
  s.wr f i (if on then v ||| 2 ^ b else if v.testBit b then v - 2 ^ b else v)

/-- Add `n` to a field, saturating at its largest value (counters that saturate). -/
def State.addSat (s : State) (f : Fld) (i n : Nat) : State := s.wr f i (min (s.rd f i + n) (2 ^ f.width - 1))

/-- Add `n` to a field, wrapping at its width. -/
def State.addWrap (s : State) (f : Fld) (i n : Nat) : State := s.wr f i (s.rd f i + n)

/-- Subtract `n` from a field, stopping at 0. -/
def State.subFloor (s : State) (f : Fld) (i n : Nat) : State := s.wr f i (s.rd f i - n)

/-- Record what the block sends. -/
def State.send (s : State) (o : Out) : State := { s with out := o :: s.out }

/-- Draw the next free value (log entry 3). -/
def State.draw (s : State) : Nat × State := (Config.free s.fresh, { s with fresh := s.fresh + 1 })

/-- The AON tick counter (11, R426). -/
def State.ticks (s : State) : Nat := s.rd Reg.AON_TICKS.TICKS 0

/-- One AON tick passes with no command: the tick counter counts it (11, R426; log entry 1). -/
def State.tick (s : State) : State := s.addWrap Reg.AON_TICKS.TICKS 0 1

/-- DEV_STATUS.LIFECYCLE: 0 BLANK, 1 PROVISIONED, 2 DEPLOYED, 3 LOCKED, 4 RETIRED. -/
def State.lifecycle (s : State) : Nat := s.rd Reg.DEV_STATUS.LIFECYCLE 0

/-- DEV_STATUS.POWER: 0 ACTIVE, 1 READY, 2 SLEEP; `aon.watch` tells WATCH. -/
def State.power (s : State) : Nat := s.rd Reg.DEV_STATUS.POWER 0

/-- The main domains are clocked: ACTIVE or READY (11). -/
def State.mainOn (s : State) : Bool := s.power ≤ 1 && !s.aon.watch && !s.aon.clockLost

/-- The power state as logs and the status codes name it: 3 WATCH (16, R561). -/
def State.powerCode (s : State) : Nat := if s.aon.watch then 3 else s.power

/-- PTR_STATUS.MODE: 0 NORMAL, 1 IMAGE_RECOVERY, 2 HALTED (10, R389). -/
def State.bootMode (s : State) : Nat := s.rd Reg.PTR_STATUS.MODE 0

/-! ### The interrupt controller (13, R479–R485) -/

/-- The input of a level-kind shared source: its condition of R484. -/
def State.sharedInput (s : State) (n : Nat) : Bool :=
  if n = 0 then s.isSet Reg.MBX_STATUS.OUT_FULL 0
  else if n = 1 then s.isSet Reg.MBX_STATUS.OUT_FULL 128
  else if n = 2 ∨ n = 3 then
    [Reg.HIF_PORT_ERR.UNEXP_CPL, Reg.HIF_PORT_ERR.POISONED, Reg.HIF_PORT_ERR.UR_CA, Reg.HIF_PORT_ERR.CPL_TIMEOUT,
      Reg.HIF_PORT_ERR.HOT_RESET, Reg.HIF_PORT_ERR.LINK_DOWN].any fun f => s.isSet f (n - 2)
  else Ev.list.any fun e => e.src == n && (s.rd e.fld 0 &&& (s.rd e.en 0 / 2 ^ e.bit)) != 0

/-- A shared source is defined: 0–26 and the software sources 448–479 (R484). -/
def sharedDefined (n : Nat) : Bool := n ≤ 26 || (448 ≤ n && n ≤ 479)

/-- A release sets the source's pending bit if the source is enabled (R481). -/
def State.releaseShared (s : State) (n : Nat) : State :=
  if s.isSet Reg.ICU_SRC_CFG.EN n then s.wrBit Reg.ICU_PENDING.PEND (n / 32) (n % 32) true else s

/-- An assertion of a shared source passes its coalescing stage (R480): the stage releases at the COUNT-th assertion. -/
def State.assertShared (s : State) (n : Nat) : State :=
  if sharedDefined n then
    let c := Tab.getD s.cpu.coal n 0 + 1
    if max 1 (s.rd Reg.ICU_SRC_CFG.COUNT n) ≤ c then
      { s with cpu.coal := Tab.del n s.cpu.coal }.releaseShared n
    else { s with cpu.coal := Tab.put n c s.cpu.coal }
  else s

/-- After a change of a level source's condition: a rise of its input is an assertion (R480). -/
def State.riseOf (s0 : State) (n : Nat) (s : State) : State :=
  if !s0.sharedInput n && s.sharedInput n then s.assertShared n else s

/-- An event of a block: its bit is set, and its shared source is asserted if that raises the source's input (R479, R480, R484). -/
def State.event (s : State) (e : Ev) : State := s.riseOf e.src (s.wr e.fld 0 1)

/-- A private source is defined for the core (R483): KCALL_DONE or KCALL_SUBMIT, EPOCH, POLCMD, POLDMA, TIMER, HOLD_OVERRUN. -/
def privateDefined (c i : Nat) : Bool := if c = 2 then i = 0 || i = 4 || i = 5 else i ≤ 5

/-- An assertion of a private source releases at once: pending if enabled (R480, R481, R483). -/
def State.assertPrivate (s : State) (c i : Nat) : State :=
  if privateDefined c i && s.isSet Reg.ICU_PCFG.EN (c * 32 + i) then s.wr Reg.ICU_PCFG.PEND (c * 32 + i) 1 else s

/-! ### Functions and their messages (02) -/

/-- What a function holds beside its registers. -/
def State.fnRt (s : State) (f : Nat) : FnRt := Tab.getD s.host.fn f FnRt.empty

/-- Replace it. -/
def State.setFn (s : State) (f : Nat) (x : FnRt) : State := { s with host.fn := Tab.put f x s.host.fn }

/-- A PF's configuration space: 0 or 1. -/
def State.pfCfg (s : State) (p : Nat) : PfCfg := Tab.getD s.host.pf p ⟨false, 0, false, 0, false⟩

/-- Replace it. -/
def State.setPf (s : State) (p : Nat) (x : PfCfg) : State := { s with host.pf := Tab.put p x s.host.pf }

/-- The port of a function: 0 for indices below 128 (02, R44, R49). -/
def portOf (f : Nat) : Nat := f / 128

/-- The PF of a function: 0 or 128 (02, R49). -/
def pfOf (f : Nat) : Nat := if f < 128 then 0 else 128

/-- The function is a PF. -/
def isPf (f : Nat) : Bool := f = 0 || f = 128

/-- The function exists: a PF, or a VF that VF Enable and NumVFs cover (02, R49, R51). -/
def State.fnExists (s : State) (f : Nat) : Bool :=
  isPf f || (f < 256 && (s.pfCfg (portOf f)).vfEnable && f % 128 ≤ (s.pfCfg (portOf f)).numVfs)

/-- HIF_FN_CFG.STATE: 0 UNCONFIGURED, 1 READY, 2 RESETTING, 3 SAVED (02, R51). -/
def State.fnState (s : State) (f : Nat) : Nat := s.rd Reg.HIF_FN_CFG.STATE f

/-- Set it. -/
def State.setFnState (s : State) (f v : Nat) : State := s.wr Reg.HIF_FN_CFG.STATE f v

/-- Every function index that exists. -/
def State.functions (s : State) : List Nat := (List.range 256).filter s.fnExists

/-- A function reset is in its drain (02, R82). -/
def State.draining (s : State) (f : Nat) : Bool :=
  s.fnState f = 2 && (match (s.fnRt f).reset with | some r => r.drain | none => false)

/-- A function's queues run: READY or in a drain (02, R51, R82, R83). -/
def State.fnOpen (s : State) (f : Nat) : Bool := s.fnExists f && (s.fnState f = 1 || s.draining f)

/-- A function runs DMA: its queues run, and it is in D0 (02, R47). -/
def State.fnLive (s : State) (f : Nat) : Bool := s.fnOpen f && !(s.fnRt f).d3

/-- A function sends nothing: it is SAVED, or its squash runs (02, R51, R83). -/
def State.fnMute (s : State) (f : Nat) : Bool := s.fnState f = 3 || (s.fnState f = 2 && !s.draining f)

/-- A vector of a function. -/
def State.vec (s : State) (f v : Nat) : Vec := Tab.getD s.host.vec (f * 65 + v) ⟨0, 0, true, false⟩

/-- Replace it. -/
def State.setVec (s : State) (f v : Nat) (x : Vec) : State := { s with host.vec := Tab.put (f * 65 + v) x s.host.vec }

/-- Send an MSI-X message, or set its PBA bit while it is masked or the function is in D3hot; none while MSI-X is disabled
(02, R74, R77, R47), or while the function is mute. -/
def State.msix (s : State) (f v : Nat) : State :=
  let r := s.fnRt f
  if !r.msixEn || !s.fnExists f || s.fnMute f then s
  else if (s.vec f v).mask || r.fmask || r.d3 || !s.mainOn then s.setVec f v { s.vec f v with pending := true }
  else s.send (.msix f v)

/-- A function event: the bit is set, and a message goes out on vector 64 if it is enabled, whether or not the bit was 1
(02, R74). -/
def State.fnEvent (s : State) (f : Nat) (e : Fld) (bit : Nat) : State :=
  let s := s.wr e f 1
  if s.rdBit Reg.FN_EVENT_EN.EN f bit then s.msix f 64 else s

/-- An event in every function that exists. -/
def State.fnEventAll (s : State) (e : Fld) (bit : Nat) : State :=
  s.functions.foldl (fun t f => t.fnEvent f e bit) s

/-! ### Host writes and the dirty log (02, R87, R88) -/

/-- Place a page in a dirty-log slot's ring unless it is among the last 256 placed; a full ring overflows (R87, R88). -/
def State.dlogPage (s : State) (slot page : Nat) : State :=
  match Tab.find slot s.host.dlog with
  | none => s
  | some d =>
    let pf := slot / 8
    let i := (if pf = 0 then 0 else 128) * 8 + slot % 8
    if d.recent.contains page || s.isSet Reg.FN_DLOG_STATUS.OVERFLOW i then s
    else
      let n := 2 ^ d.elog
      let tail := s.rd Reg.FN_DLOG_STATUS.TAIL i
      let nxt := (tail + 1) % n
      if nxt = s.rd Reg.FN_DLOG_HEAD.HEAD i % n then
        (s.wr Reg.FN_DLOG_STATUS.OVERFLOW i 1).fnEvent (if pf = 0 then 0 else 128) Reg.FN_EVENT.DLOG 7
      else
        let d' := { d with recent := (page :: d.recent).take 256, phase := if nxt = 0 then !d.phase else d.phase }
        (({ s with host.dlog := Tab.put slot d' s.host.dlog }).wr Reg.FN_DLOG_STATUS.TAIL i nxt).send
          (.dlog (if pf = 0 then 0 else 128) (slot % 8) tail page d.phase)

/-- The dirty-log slots that log a function. -/
def State.dlogSlots (s : State) (f : Nat) : List Nat := (s.host.dlog.filter fun x => x.2.fn = f).map (·.1)

/-- Log the pages of a DMA write of function `f` (R87). -/
def State.dlogWrite (s : State) (f addr len : Nat) : State :=
  let first := addr / 4096
  let last := (addr + len - 1) / 4096
  (s.dlogSlots f).foldl (fun t slot =>
    (List.range (last + 1 - first)).foldl (fun u k => u.dlogPage slot ((first + k) * 4096)) t) s

/-- A data write to host memory of a function, counted on its port and logged (02, R72, R87, R96). -/
def State.hostWrite (s : State) (f addr len : Nat) (content : List Nat) : State :=
  if len = 0 then s
  else ((s.dlogWrite f addr len).addWrap Reg.HIF_PORT_WR_BYTES.BYTES (portOf f) len).send (.hostData f addr len content)

/-! ### Queues and completions (02, R54–R62, R75–R77) -/

/-- The index of queue `q` of function `f` in the queue registers and tables. -/
def qix (f q : Nat) : Nat := f * 64 + q

/-- What a queue holds beside its registers. -/
def State.qrt (s : State) (f q : Nat) : QRt := Tab.getD s.host.q (qix f q) QRt.empty

/-- Replace it. -/
def State.setQ (s : State) (f q : Nat) (x : QRt) : State := { s with host.q := Tab.put (qix f q) x s.host.q }

/-- Entries of the queue: DEPTH, 0 meaning 65,536 (R56). -/
def State.qDepth (s : State) (f q : Nat) : Nat :=
  let d := s.rd Reg.QCTRL.DEPTH (qix f q)
  if d = 0 then 65536 else d

/-- QCTRL.ACTIVE. -/
def State.qActive (s : State) (f q : Nat) : Bool := s.isSet Reg.QCTRL.ACTIVE (qix f q)

/-- Queue fault (R60): the first code stays in QCTRL.FAULT; the queue's bit in FN_QFAULT and FN_EVENT.QFAULT are set; fault 4 discards
completions. -/
def State.queueFault (s : State) (f q code : Nat) : State :=
  let i := qix f q
  let s := if s.rd Reg.QCTRL.FAULT i = 0 then s.wr Reg.QCTRL.FAULT i code else s
  let s := if code = 4 then s.setQ f q { s.qrt f q with discard := true } else s
  (s.wrBit Reg.FN_QFAULT.Q f q true).fnEvent f Reg.FN_EVENT.QFAULT 2

/-- Return HQD credits that a queue's entries hold (01, R28: when the completion is posted). -/
def State.hqdReturn (s : State) (f q n : Nat) : State :=
  (s.subFloor Reg.HIF_FN_HQD.OCC f n).setQ f q { s.qrt f q with credits := (s.qrt f q).credits - n }

/-- The bit of HIF_PORT_ERR for the way a host access ended (02, R96). -/
def State.linkError (s : State) (p : Nat) (how : LinkEnd) : State :=
  match how with
  | .ok => s
  | .timeout => s.riseOf (2 + p) (s.wr Reg.HIF_PORT_ERR.CPL_TIMEOUT p 1)
  | .unsupported => s.riseOf (2 + p) (s.wr Reg.HIF_PORT_ERR.UR_CA p 1)
  | .completerAbort => s.riseOf (2 + p) (s.wr Reg.HIF_PORT_ERR.UR_CA p 1)
  | .poisoned => s.riseOf (2 + p) (s.wr Reg.HIF_PORT_ERR.POISONED p 1)

/-- Count a sealed record whose completion a running function reset does not post (02, R86). -/
def State.silent (s : State) (f n : Nat) : State :=
  let r := s.fnRt f
  match r.reset with
  | some x => s.setFn f { r with reset := some { x with silent := x.silent + n } }
  | none => s

/-- Count a discarded completion for the function's next reset report (02, R60, R86). -/
def State.discard (s : State) (f : Nat) : State := s.setFn f { s.fnRt f with discards := (s.fnRt f).discards + 1 }

/-- CQ slots in use. -/
def State.cqUsed (s : State) (f q : Nat) : Nat :=
  let d := s.qDepth f q
  (s.rd Reg.QSTATUS.CQTAIL (qix f q) + d - (s.qrt f q).cqHead) % d

/-- Write one completion at the CQ tail, with the interrupt rules of R75 and R76; its HQD credit returns. -/
def State.writeCpl (s : State) (f q : Nat) (c : Cpl) : State :=
  let i := qix f q
  let x := s.qrt f q
  let d := s.qDepth f q
  let tail := s.rd Reg.QSTATUS.CQTAIL i
  let nxt := (tail + 1) % d
  let fire := c.status != 0 || x.coalCount ≤ x.coal + 1
  let s := (s.wr Reg.QSTATUS.CQTAIL i nxt).setQ f q
    { x with phase := if nxt = 0 then !x.phase else x.phase, coal := if fire then 0 else x.coal + 1 }
  let s := s.dlogWrite f (s.rd Reg.QCQ_BASE.ADDR i * 16 + tail * 16) 16
  let s := (s.addWrap Reg.HIF_PORT_WR_BYTES.BYTES (portOf f) 16).send (.cqe f q tail c.res0 c.res1 c.cid c.status x.phase)
  let s := s.hqdReturn f q 1
  if fire then s.msix f (s.rd Reg.QCTRL.VEC i) else s

/-- Post a completion (02, R47, R59, R60, R83): none of a function whose squash runs or that is SAVED, or of a queue that is not active;
discarded and counted after fault 4; held while the CQ is full or the function is in D3hot. -/
def State.post (s : State) (f q : Nat) (c : Cpl) : State :=
  if !s.fnOpen f || !s.qActive f q then s
  else if (s.qrt f q).discard then (s.hqdReturn f q 1).discard f
  else if !s.fnLive f || (s.qrt f q).held ≠ [] || s.qDepth f q ≤ s.cqUsed f q + 1 then
    s.setQ f q { s.qrt f q with held := (s.qrt f q).held ++ [c] }
  else s.writeCpl f q c

/-- Post held completions while slots are free; at most `n`. -/
def State.postHeld (s : State) (f q : Nat) : Nat → State
  | 0 => s
  | n + 1 =>
    match (s.qrt f q).held with
    | [] => s
    | c :: r =>
      if !s.fnLive f || s.qDepth f q ≤ s.cqUsed f q + 1 then s
      else ((s.setQ f q { s.qrt f q with held := r }).writeCpl f q c).postHeld f q n

/-- Complete an entry with a status and results. -/
def State.complete (s : State) (f q cid status res0 res1 : Nat) : State := s.post f q ⟨cid, status, res0, res1⟩

/-- The first fetched entry of a queue, once checks of R66 before dispatch are done and while no save of its function has stopped dispatch
(02, R90). -/
def State.front (s : State) (f q : Nat) : Option FEntry :=
  match (s.qrt f q).fetched with
  | x :: _ => if x.sgOk && (s.fnRt f).save.isNone then some x else none
  | [] => none

/-- Remove the first fetched entry. -/
def State.popFront (s : State) (f q : Nat) : State :=
  s.setQ f q { s.qrt f q with fetched := (s.qrt f q).fetched.tail }

/-- Fetch and dispatch serve a queue in this power state (01, R39; 11, R414): I/O queues in ACTIVE, PF admin queues also in READY; none before
ADMIN_READY (10, R390) and none once PWR_FAIL# is asserted (05, R215). -/
def State.served (s : State) (f q : Nat) : Bool :=
  s.mainOn && s.isSet Reg.DEV_STATUS.ADMIN_READY 0 && !s.isSet Reg.AON_STATUS.PWR_FAIL 0 && (s.power = 0 || (isPf f && q = 0 && s.power = 1))

/-- A command refused with LIFECYCLE_STATE in IMAGE_RECOVERY and HALTED (10, R389): all but GET_LOG of log 0x60, and in IMAGE_RECOVERY ATTEST and
WRITE_CONFIG_IMAGE. -/
def State.modeRefuses (s : State) (e : Entry) : Bool :=
  if s.bootMode = 0 then false
  else if e.opc = 0x84 then e.bytes 32 1 != 0x60
  else !(s.bootMode = 1 && (e.opc = 0x8E || e.opc = 0x87))

/-- An admin command that READY turns away with BUSY_RETRY (11, R414): RELEASE_EXTENTS RELEASE, ASSAY_CONTROL START, RESUME and EVACUATE,
RANK_CONTROL other than QUERY and LOCATE. -/
def State.readyRefuses (s : State) (e : Entry) : Bool :=
  s.power = 1 && ((e.opc = 0x88 && e.bytes 32 1 = 1) || (e.opc = 0x89 && [1, 3, 6].contains (e.bytes 32 1)) ||
    (e.opc = 0x8F && !([9, 10].contains (e.bytes 32 1))))

/-- An admin command that needs the Keeper, while the pair is halted (12, R454): settings, anchors, images, UNLOCK, ATTEST, escrow blobs. -/
def State.keeperRefuses (s : State) (e : Entry) : Bool :=
  s.isSet Reg.KPR_STATUS.HALTED 0 && ([0x80, 0x85, 0x87, 0x8D, 0x8E].contains e.opc.toNat || (e.opc = 0x84 && e.bytes 32 1 = 0x40))

/-- A host command that may wait runs on the first fetched entry of a queue when that entry carries its opcode and the function is live
(02, R33, R66): `run` takes the entry off where it is done. An entry that failed a check ends in its turn, in whichever row comes.
Otherwise the row has nothing to act on and the state stays (log entry 6). -/
def State.frontCmd (s : State) (f q opc : Nat) (run : FEntry → State → State) : State :=
  match s.front f q with
  | some x =>
    if s.fnLive f ∧ s.served f q ∧ x.bad.isSome then (s.popFront f q).complete f q x.e.cid.toNat (x.bad.getD 0) 0 0
    else if x.e.opc.toNat = opc ∧ s.fnLive f ∧ s.served f q then
      if s.modeRefuses x.e then (s.popFront f q).complete f q x.e.cid.toNat 0x0504 0 0
      else if s.keeperRefuses x.e then (s.popFront f q).complete f q x.e.cid.toNat 0x0502 0 0
      else if s.readyRefuses x.e then (s.popFront f q).complete f q x.e.cid.toNat 0x0404 0 0
      else run x s
    else s
  | none => s

/-- A host command runs on the first fetched entry of a queue, which is taken off (02, R33, R66; log entry 6). -/
def State.hostCmd (s : State) (f q opc : Nat) (run : FEntry → State → State) : State :=
  s.frontCmd f q opc fun x s => run x (s.popFront f q)

/-- A command with a SUBOP in byte 32: the row of SUBOP `sub` acts on its own entries; an entry whose SUBOP none of the `n` rows has ends
with FIELD_INVALID in whichever of them runs (03, R111 check 10.6), unless an earlier check of the command, `pre` (status and RES1), refuses it. -/
def State.subCmd (s : State) (f q opc sub n : Nat) (pre : FEntry → Option (Nat × Nat)) (run : FEntry → State → State) : State :=
  s.frontCmd f q opc fun x s =>
    let b := x.e.bytes 32 1
    if b = sub then run x (s.popFront f q)
    else if b = 0 ∨ n < b then
      let st := (pre x).getD (0x0103, 0)
      (s.popFront f q).complete f q x.e.cid.toNat st.1 0 st.2
    else s

/-- Every command-specific byte outside the listed ranges (first byte, length) is 0. -/
def onlyBytes (e : Entry) (used : List (Nat × Nat)) : Bool :=
  (List.range 32).all fun i => e.bytes (32 + i) 1 = 0 || used.any fun u => u.1 ≤ 32 + i && 32 + i < u.1 + u.2

/-- Write data to a command's buffer, element by element (02, R68). -/
def State.hostScatter (s : State) (f : Nat) : List (Nat × Nat) → List Nat → State
  | [], _ => s
  | (a, n) :: r, c => if c = [] then s else (s.hostWrite f a (min n c.length) (c.take n)).hostScatter f r (c.drop n)

/-- The parts of a buffer that hold `n` bytes from offset `off` (02, R68). -/
def sgPart : List (Nat × Nat) → Nat → Nat → List (Nat × Nat)
  | [], _, _ => []
  | (a, m) :: r, off, n =>
    if n = 0 then []
    else if m ≤ off then sgPart r (off - m) n
    else (a + off, min n (m - off)) :: sgPart r 0 (n - min n (m - off))

/-- Issue the reads of part of a command's buffer (01, R18; 02, R68). -/
def State.hostReads (s : State) (f : Nat) (sg : List (Nat × Nat)) (off n : Nat) : State :=
  (sgPart sg off n).foldl (fun t x => t.send (.hostRead f x.1 x.2)) s

/-- A number as `n` bytes, little-endian (00, R6). -/
def leBytes (v : Nat) : Nat → List Nat
  | 0 => []
  | n + 1 => v % 256 :: leBytes (v / 256) n

/-! ### Settings (03, R133–R139) -/

/-- The live value of a setting: what was set, or its default. -/
def State.setting (s : State) (sid : Nat) : Nat :=
  match Tab.find sid s.set.live with
  | some v => v
  | none => match settingDef? sid with
    | some d => d.dflt
    | none => 0

/-! ### Status codes (20, R637) -/

namespace Status
def SUCCESS : Nat := 0x0000
def OPCODE_INVALID : Nat := 0x0101
def LENGTH_RANGE : Nat := 0x0102
def FIELD_INVALID : Nat := 0x0103
def LEDGER_UNKNOWN : Nat := 0x0104
def LEDGER_CLOSED : Nat := 0x0105
def HOST_CRC_MISMATCH : Nat := 0x0106
def BUFFER_FAULT : Nat := 0x0107
def BUFFER_SHORT : Nat := 0x0108
def LEDGER_UNBOUND : Nat := 0x0109
def LOCATOR_INVALID : Nat := 0x010A
def RECORD_RELEASED : Nat := 0x010B
def RECORD_VOID : Nat := 0x010C
def RECORD_ABSENT : Nat := 0x010D
def SEAL_MISMATCH : Nat := 0x0201
def CHAIN_BREAK : Nat := 0x0202
def ROLLBACK_DETECTED : Nat := 0x0203
def UNIT_CRC_MISMATCH : Nat := 0x0204
def PROOF_UNAVAILABLE : Nat := 0x0205
def KEY_UNAVAILABLE : Nat := 0x0206
def ANCHOR_INVALID : Nat := 0x0207
def ENTROPY_UNAVAILABLE : Nat := 0x0208
def IMAGE_INVALID : Nat := 0x0209
def MEDIA_UNRECOVERED : Nat := 0x0301
def RANK_DEGRADED : Nat := 0x0302
def PORT_RESET : Nat := 0x0303
def MEDIA_FULL : Nat := 0x0304
def PORT_UNSUITABLE : Nat := 0x0305
def NO_EXTENT : Nat := 0x0401
def NO_LEDGER : Nat := 0x0402
def QUOTA_EXCEEDED : Nat := 0x0403
def BUSY_RETRY : Nat := 0x0404
def NOT_AUTHORISED : Nat := 0x0501
def DEVICE_LOCKED : Nat := 0x0502
def QUORUM_REQUIRED : Nat := 0x0503
def LIFECYCLE_STATE : Nat := 0x0504
def EXTENT_HELD : Nat := 0x0505
def TAMPER_ACTIVE : Nat := 0x0506
def CARD_REMOVED : Nat := 0x0507
def CARD_ERROR : Nat := 0x0508
def ABORTED_BY_RESET : Nat := 0x0601
def ABORTED_BY_HOST : Nat := 0x0602
def ABORTED_BY_TAMPER : Nat := 0x0603
end Status

end Sys2Proof.Machine
end

