-- ==== Sys2Proof/Machine/Codec.lean ====
section
/-!
DEFINITION. Machine/Codec.lean: the record as bytes and numbers: CRC-32C, stored size, header, labels, locator, tag and chain values.
-/

namespace Sys2Proof.Machine

/-- One bit of the reflected CRC-32C (02, R65: polynomial 0x1EDC6F41, reflected 0x82F63B78). -/
def crcBit (c : Nat) : Nat := if c % 2 = 1 then (c / 2) ^^^ 0x82F63B78 else c / 2

/-- One byte of it. -/
def crcByte (c : Nat) (b : Byte) : Nat :=
  crcBit (crcBit (crcBit (crcBit (crcBit (crcBit (crcBit (crcBit (c ^^^ b.toNat))))))))

/-- CRC-32C of some bytes (02, R65). -/
def crc32c (bs : List Byte) : Nat := (bs.foldl crcByte 0xFFFFFFFF) ^^^ 0xFFFFFFFF

/-- The stored size of a record of a payload length (03, R97). -/
def storedSize (len : Nat) : Nat := 16 * ((80 + len + 15) / 16)

/-- The TYPE code of a record type (03, R99). -/
def RType.code : RType → Nat
  | .data => 1
  | .void => 2
  | .openRec => 3
  | .close => 4
  | .bind => 5
  | .timeGap => 6

/-- A header as the numbers that stand for its bytes (03, R99). -/
def headerNums (h : Header) : List Nat :=
  [h.hver, h.ty, h.ledger, h.tenant, h.flags, h.seq, h.length, h.setepoch, h.ticks, h.extent, h.keygen, h.offset, h.label,
    if h.reservedZero then 0 else 1]

/-- A locator (03, R102). -/
def locator (extent offset keygen ty : Nat) : Nat :=
  extent * 2 ^ 42 + offset / 16 * 2 ^ 16 + keygen % 256 * 2 ^ 8 + ty

/-- The fields of a locator: extent, offset, KEYGEN bits 7:0, TYPE (03, R102). -/
def locExtent (l : Nat) : Nat := l / 2 ^ 42
def locOffset (l : Nat) : Nat := l / 2 ^ 16 % 2 ^ 26 * 16
def locKeygen (l : Nat) : Nat := l / 2 ^ 8 % 2 ^ 8
def locType (l : Nat) : Nat := l % 2 ^ 8

/-- The LABEL of a void record (03, R99): bytes 48–51 extent, 52 cause, 53–55 length, 56–63 offset, byte 48 lowest. -/
def voidLabel (extent cause length offset : Nat) : Nat :=
  extent + cause * 2 ^ 32 + length * 2 ^ 40 + offset * 2 ^ 64

/-- The LABEL of a void record whose slot recovery does not know (03, R99). -/
def voidLabelUnknown (cause : Nat) : Nat := voidLabel 0xFFFFFFFF cause 0xFFFFFF (2 ^ 64 - 1)

/-- The LABEL of a BIND record (03, R99): function, queue, previous function and queue, cause. -/
def bindLabel (fn q pfn pq cause : Nat) : Nat := fn + q * 2 ^ 8 + pfn * 2 ^ 16 + pq * 2 ^ 24 + cause * 2 ^ 32

/-- The type a record is stored as: VOID where it is void (03, R101). -/
def Rec.ty' (r : Rec) : RType := if r.voidCause = 0 then r.ty else .void

/-- The header of a numbered record of a ledger as it is stored (03, R99–R101). -/
def Rec.header (r : Rec) (ledger seq : Nat) : Header :=
  { hver := 1, ty := r.ty'.code, ledger := ledger, tenant := r.tenant,
    flags := (if r.crcv && r.voidCause = 0 then 1 else 0) + (if r.dur then 2 else 0) + (if r.ckpt then 4 else 0),
    seq := seq, length := if r.voidCause = 0 then r.length else 0, setepoch := r.setepoch, ticks := r.ticks,
    extent := r.extent, keygen := r.keygen, offset := r.offset,
    label := if r.voidCause = 0 then r.label else voidLabel r.slotExt r.voidCause r.length r.slotOff, reservedZero := true }

/-- The locator of a record. -/
def Rec.locator (r : Rec) : Nat := Sys2Proof.Machine.locator r.extent r.offset r.keygen r.ty'.code

/-- The key of a record in the record table. -/
def recKey (ledger seq : Nat) : Nat := ledger * 2 ^ 64 + seq

/-- The extent key of a tenant's extent (05, R184; log entry 4). -/
def extentKey (tk extent keygen : Nat) : Nat := Config.kdf tk [0x455854, extent, keygen]

/-- The tag of a record (04, R146–R148; log entry 4): key, IV from the offset, header, payload. -/
def recordTag (key : Nat) (h : Header) (payload : List Byte) : Nat :=
  Config.gcmTag key h.offset (headerNums h ++ payload.map BitVec.toNat)

/-- The initial chain value of a ledger (06, R225; log entry 4). -/
def initialChain (ledger openTicks archEpoch : Nat) : Nat :=
  Config.sha384 [0x4358344348414954, Config.serial, ledger, openTicks, archEpoch % 2 ^ 24]

/-- The next chain value (06, R225; log entry 4). -/
def chainStep (c : Nat) (h : Header) (tag : Nat) : Nat := Config.sha384 (c :: tag :: headerNums h)

end Sys2Proof.Machine
end

