-- ==== Sys2Proof/Machine/Extents.lean ====
section
/-!
DEFINITION. Machine/Extents.lean: ranks and bays, tenants, the extent table, open sets and placement (05, R202–R206; 07, R275–R285), and
the journal's list of changes (05, R211).
-/

namespace Sys2Proof.Machine

/-! ### Ranks -/

/-- A rank of the rank table. -/
def State.rank? (s : State) (r : Nat) : Option RankRt := Tab.find r s.media.rank

/-- Replace a rank. -/
def State.setRank (s : State) (r : Nat) (x : RankRt) : State := { s with media.rank := Tab.put r x s.media.rank }

/-- Unit size U (07, R275). -/
def RankRt.unitSize (x : RankRt) : Nat := if x.unit64 then 65536 else 16384

/-- Payload bytes of a stripe, kP (07, R280). -/
def RankRt.stripeBytes (x : RankRt) : Nat := x.k * (x.unitSize - 32)

/-- Stripes of an extent, N_s (07, R280). -/
def RankRt.stripes (x : RankRt) : Nat := (2 ^ 30 + x.stripeBytes - 1) / x.stripeBytes

/-- First bay zone F = 3 + J (07, R273). -/
def RankRt.firstZone (x : RankRt) : Nat := 3 + x.journalZones

/-- Slots not IN_SERVICE. -/
def RankRt.out (x : RankRt) : Nat := (x.slots.filter fun y => y.st ≠ 0).length

/-- Rank state (07, R279): 0 ABSENT, 1 OPTIMAL, 2 DEGRADED, 3 CRITICAL, 4 FAILED. -/
def RankRt.state (x : RankRt) : Nat :=
  if x.out = 0 then 1 else if x.out < x.m then 2 else if x.out = x.m then 3 else 4

/-- State of rank `r`, 0 where it does not exist. -/
def State.rankState (s : State) (r : Nat) : Nat :=
  match s.rank? r with
  | some x => x.state
  | none => 0

/-- Bays neither held by an extent nor used as log bays (07, CPR_RANK_FREE); the control reserve's bays are held. -/
def RankRt.freeCount (x : RankRt) : Nat := x.bays - x.used.length - x.logBays.length

/-- The lowest free bay. -/
def RankRt.lowestBay (x : RankRt) : Option Nat :=
  (List.range (min x.bays (x.used.length + x.logBays.length + 1))).find? fun b => !x.used.contains b && !x.logBays.contains b

/-- The data slot of unit `x` of stripe `st` (07, R281). -/
def RankRt.slotOf (r : RankRt) (st x : Nat) : Nat := (x + st) % (r.k + r.m)

/-- The port state (07, R264). -/
def State.portState (s : State) (p : Nat) : Nat := s.rd Reg.MPX_PORT_STATUS.STATE p

/-! ### The extent table -/

/-- Number of extents: 4,194,304, or 2,097,152 on the CX4-128-IT (00, R2). -/
def extentSpace : Nat := if Config.part128 then 2097152 else 4194304

/-- An extent-table entry. -/
def State.ext (s : State) (e : Nat) : Extent := Tab.getD s.key.ext e (Extent.unused s.key.freshGen)

/-- Replace an entry; the change is one for the journal (05, R211). -/
def State.setExt (s : State) (e : Nat) (x : Extent) : State :=
  { s with key.ext := Tab.store (Extent.unused s.key.freshGen) e x s.key.ext, key.journal := s.key.journal ++ [JEntry.entry e x] }

/-- Replace an entry whose change no journal commit needs (FILL, AGE). -/
def State.touchExt (s : State) (e : Nat) (x : Extent) : State := { s with key.ext := Tab.store (Extent.unused s.key.freshGen) e x s.key.ext }

/-- The FILL field (05, R202). -/
def Extent.fill (x : Extent) : Nat := if x.st = .openE then (x.next + 65535) / 65536 else if x.st = .free then 0 else 16384

/-- The STATE code (05, R203). -/
def EState.code : EState → Nat
  | .free => 0
  | .openE => 1
  | .sealedE => 2
  | .migrating => 3
  | .releasePending => 4
  | .retired => 5

/-- The 128-bit entry as stored (05, R202). -/
def Extent.word (x : Extent) : Nat :=
  x.keygen + x.placegen * 2 ^ 24 + (if x.st = .free ∨ x.st = .retired then 0 else x.tenant) * 2 ^ 48 + x.rank * 2 ^ 56 +
    x.bay * 2 ^ 62 + x.st.code * 2 ^ 86 + x.fill * 2 ^ 90 + x.age * 2 ^ 105 + (if x.hold then 2 ^ 120 else 0)

/-- Extents that are not FREE. -/
def State.notFree (s : State) : Nat := (s.key.ext.filter fun x => x.2.st ≠ .free).length

/-- A tenant's use (05, R206). -/
def State.tenantUse (s : State) (t : Nat) : Nat :=
  (s.key.ext.filter fun x => x.2.tenant = t && (x.2.st = .openE || x.2.st = .sealedE || x.2.st = .migrating || x.2.st = .releasePending)).length

/-- The lowest FREE extent outside the control reserve (05, R205). -/
def State.lowestFree (s : State) : Option Nat :=
  (List.range (min extentSpace (s.key.ext.length + s.key.reserve.length + 1))).find? fun e =>
    (s.ext e).st = .free && !s.key.reserve.contains e

/-! ### Tenants -/

/-- A tenant. -/
def State.tenant (s : State) (t : Nat) : Tenant := Tab.getD s.key.tenants t Tenant.none

/-- Replace a tenant. -/
def State.setTenant (s : State) (t : Nat) (x : Tenant) : State := { s with key.tenants := Tab.put t x s.key.tenants }

/-- A tenant's key: what its slot holds, 0 where it is not ACTIVE. -/
def State.tenantKey (s : State) (t : Nat) : Nat :=
  if (s.tenant t).st = 1 then (match Tab.find t s.key.slots with | some k => k.key | none => 0) else 0

/-- The tenant's key is available (05, R220). -/
def State.keyAvailable (s : State) (t : Nat) : Bool :=
  (s.tenant t).st = 1 && (match Tab.find t s.key.slots with | some k => k.ty = 1 | none => false)

/-- The position `p` of a tenant's open set. -/
def Tenant.pos (x : Tenant) (p : Nat) : Pos := x.opens.getD p ⟨0, 0⟩

/-- Replace a position, growing the list as needed. -/
def Tenant.setPos (x : Tenant) (p : Nat) (v : Pos) : Tenant :=
  { x with opens := (x.opens ++ List.replicate (p + 1 - x.opens.length) (⟨0, 0⟩ : Pos)).set p v }

/-! ### Allocation (05, R205, R206) -/

/-- OPEN extents of a rank that hold units. -/
def State.openUnits (s : State) (r : Nat) : Nat :=
  (s.key.ext.filter fun x => x.2.st = .openE && x.2.rank = r && 0 < x.2.next).length

/-- The active-bay limit of a rank (07, R279): the smallest Max Active Resources of its members, less 3. -/
def State.activeLimit (s : State) (x : RankRt) : Nat :=
  let mars := (x.slots.filter fun y => y.st = 0).filterMap fun y => (Tab.find y.port s.media.port).bind fun z => z.drive.map (·.mar)
  match mars with
  | [] => 0
  | a :: r => r.foldl min a - 3

/-- The rank is in service for an allocation (07, R279). -/
def State.rankInService (s : State) (r : Nat) : Bool :=
  match s.rank? r with
  | some x => (x.state = 1 || x.state = 2) && s.openUnits r < s.activeLimit x
  | none => false

/-- A member of the rank is at WEAR_LIMIT (08, R324): it takes no new extent or migration target. -/
def State.rankWorn (s : State) (x : RankRt) : Bool :=
  x.slots.any fun y => match Tab.find y.port s.asy.drive with | some d => d.limit && d.nguid = y.nguid | none => false

/-- The ranks of the mask that are in service, have a free bay, and may take an extent (08, R324, R325). -/
def State.candidateRanks (s : State) (mask : Nat) : List Nat :=
  (List.range 32).filter fun r => mask.testBit r && s.rankInService r &&
    (match s.rank? r with | some x => x.lowestBay.isSome && !x.evacuate && !s.rankWorn x | none => false)

/-- Among ranks, the one with the most free bays and, on a tie, the lowest (05, R205). -/
def State.mostFree (s : State) : List Nat → Option Nat
  | [] => none
  | r :: rs =>
    match s.mostFree rs with
    | none => some r
    | some b =>
      let fr := match s.rank? r with | some x => x.freeCount | none => 0
      let fb := match s.rank? b with | some x => x.freeCount | none => 0
      if fb ≤ fr then some r else some b

/-- The rank for a tenant's new extent: one that holds no other position's current extent where the mask allows it. -/
def State.chooseRank (s : State) (t : Nat) : Option Nat :=
  let c := s.candidateRanks (s.tenant t).rankMask
  let busy := (s.tenant t).opens.filterMap fun p => if p.cur = 0 then none else some (s.ext (p.cur - 1)).rank
  let free := c.filter fun r => !busy.contains r
  s.mostFree (if free = [] then c else free)

/-- Take a bay of a rank. -/
def State.takeBay (s : State) (r b : Nat) : State :=
  match s.rank? r with
  | some x => s.setRank r { x with used := b :: x.used }
  | none => s

/-- Give a bay of a rank back. -/
def State.freeBay (s : State) (r b : Nat) : State :=
  match s.rank? r with
  | some x => s.setRank r { x with used := x.used.filter (· ≠ b) }
  | none => s

/-- A tenant's key is brought into the unwrapped-slot cache, least recently used out first (05, R189). -/
def State.unwrap (s : State) (slot : Nat) : State :=
  let l := slot :: s.key.ucache.filter (· ≠ slot)
  let s := if 512 < l.length then s.addSat Reg.STR_UCACHE_EVICT.COUNT 0 1 else s
  { s with key.ucache := l.take 512 }

/-- A key is entered in the derived-key cache (05, R190; its replacement: log entry 9). -/
def State.cacheKey (s : State) (k : Nat × Nat × Nat) : State :=
  { s with key.dkc := (k :: s.key.dkc.filter (· ≠ k)).take 16384 }

/-- When an extent enters a tenant's open set, its key is derived in advance (05, R190), where the tenant's key is available. -/
def State.prederive (s : State) (t e : Nat) : State :=
  if s.keyAvailable t && s.key.kek != 0 then (s.unwrap t).cacheKey (t, e, (s.ext e).keygen) else s

/-- How an allocation ends. -/
inductive Alloc where
  | ok (e : Nat) (s : State)
  | quota (s : State)
  | noExtent
  | mediaFull
  | reserveEmpty

/-- Allocate an extent for a tenant: OPEN, next offset 0, KEYGEN kept (05, R203, R205, R206). A control record that cannot get one so takes
an extent of the control reserve, and waits where the reserve is empty (03, R100). -/
def State.allocExtent (s : State) (t : Nat) (control : Bool) : Alloc :=
  let fromReserve (s : State) (other : Alloc) : Alloc :=
    if control then
      match s.key.reserve with
      | [] => .reserveEmpty
      | e :: rest =>
        let x := s.ext e
        .ok e ((({ s with key.reserve := rest }.setExt e { x with st := .openE, tenant := t, next := 0, age := 0, committed := false }).event
          Ev.EXT_RESERVE_USED).prederive t e)
    else other
  if (s.tenant t).extQuota ≤ s.tenantUse t then
    fromReserve s (.quota (s.event Ev.EXT_QUOTA_HIT))
  else
    match s.lowestFree with
    | none => fromReserve s .noExtent
    | some e =>
      match s.chooseRank t with
      | none => fromReserve s .mediaFull
      | some r =>
        match (match s.rank? r with | some x => x.lowestBay | none => none) with
        | none => fromReserve s .mediaFull
        | some b =>
          let x := s.ext e
          .ok e (((s.takeBay r b).setExt e
            { x with st := .openE, tenant := t, rank := r, bay := b, next := 0, age := 0, committed := false }).prederive t e)

/-- Refill the control reserve to 16 extents while FREE indices and bays last (05, R206). -/
def State.refillReserve (s : State) : Nat → State
  | 0 => s
  | n + 1 =>
    if 16 ≤ s.key.reserve.length then s
    else match s.lowestFree, s.mostFree (s.candidateRanks 0xFFFFFFFF) with
      | some e, some r =>
        match (match s.rank? r with | some x => x.lowestBay | none => none) with
        | some b =>
          let x := s.ext e
          ({ (s.takeBay r b).setExt e { x with rank := r, bay := b } with key.reserve := s.key.reserve ++ [e] }).refillReserve n
        | none => s
      | _, _ => s

/-- Close a stripe: padded, its unit appends to come (01, R20; 07, R285). -/
def State.closeStripes (s : State) (e : Nat) : State :=
  { s with media.stripes := s.media.stripes.map fun x => if x.extent = e && !x.closed then { x with closed := true, padded := true } else x }

/-- Seal an OPEN extent (05, R203): its open stripes close with padding, AGE returns to 0, every member finishes the zone (07, R285). -/
def State.sealExtent (s : State) (e : Nat) : State :=
  let x := s.ext e
  if x.st = .openE then
    ((s.closeStripes e).setExt e { x with st := .sealedE, age := 0 }).send (.nvme x.rank "finish" [x.bay])
  else s

/-- The surplus positions of a tenant's open set (05, R196): an extent whose stripes are all closed is sealed and leaves its position. -/
def State.sealSurplus (s : State) (t : Nat) : State :=
  let x := s.tenant t
  let due (v : Nat) : Bool := v != 0 && !(s.media.stripes.any fun y => y.extent = v - 1 && !y.closed)
  let ps := (List.range x.opens.length).filter fun p => x.openw ≤ p
  ps.foldl (fun (u : State) (p : Nat) =>
    let z := x.pos p
    let u := if due z.cur then u.sealExtent (z.cur - 1) else u
    let u := if due z.standby then u.sealExtent (z.standby - 1) else u
    u.setTenant t ((u.tenant t).setPos p ⟨if due z.cur then 0 else z.cur, if due z.standby then 0 else z.standby⟩)) s

/-- Close one open stripe before it is full (01, R20): zero padding, and the extent's next offset moves to the following stripe. -/
def State.padStripe0 (s : State) (e st : Nat) : State :=
  match s.media.stripes.find? fun x => x.extent = e && x.stripe = st && !x.closed, s.rank? (s.ext e).rank with
  | some _, some r =>
    let x := s.ext e
    let s := { s with media.stripes := s.media.stripes.map fun (y : Stripe) => if y.extent = e && y.stripe = st then { y with closed := true, padded := true } else y }
    s.touchExt e { x with next := min (2 ^ 30) (max x.next ((st + 1) * r.stripeBytes)) }
  | _, _ => s

/-- Close one open stripe before it is full (01, R20); an extent of a surplus position may then be sealed (05, R196). -/
def State.padStripe (s : State) (e st : Nat) : State := (s.padStripe0 e st).sealSurplus (s.ext e).tenant

/-- How a placement ends: an extent and offset; a wait for a commit; a refusal. -/
inductive Place where
  | at (e off : Nat) (s : State)
  | wait (s : State)
  | noExtent (s : State)
  | mediaFull
  deriving DecidableEq

/-- Allocate what a position lacks: its current extent, then its standby (05, R205). The standby's refusal is no error while the current
extent may still take the record. -/
def State.fillPos (s : State) (t p : Nat) (control : Bool) : Place :=
  let ps := (s.tenant t).pos p
  let addStandby (s : State) (c : Nat) : State :=
    match s.allocExtent t false with
    | .ok e s => s.setTenant t ((s.tenant t).setPos p ⟨c, e + 1⟩)
    | .quota s => s
    | _ => s
  if ps.cur = 0 then
    match s.allocExtent t control with
    | .ok e s => .wait (addStandby (s.setTenant t ((s.tenant t).setPos p ⟨e + 1, 0⟩)) (e + 1))
    | .quota s => .noExtent s
    | .noExtent => .noExtent s
    | .mediaFull => .mediaFull
    | .reserveEmpty => .wait s
  else .at (ps.cur - 1) 0 s

/-- The current extent is sealed and its standby becomes current; a new standby is allocated (05, R205). -/
def State.rollPos (s : State) (t p : Nat) (control : Bool) : Place :=
  let ps := (s.tenant t).pos p
  if ps.standby = 0 then
    match s.allocExtent t control with
    | .ok e s => .wait (s.setTenant t ((s.tenant t).setPos p ⟨ps.cur, e + 1⟩))
    | .quota s => .noExtent s
    | .noExtent => .noExtent s
    | .mediaFull => .mediaFull
    | .reserveEmpty => .wait s
  else if !(s.ext (ps.standby - 1)).committed then .wait s
  else
    let s := s.sealExtent (ps.cur - 1)
    let s := s.setTenant t ((s.tenant t).setPos p ⟨ps.standby, 0⟩)
    match s.allocExtent t false with
    | .ok e s => .at (ps.standby - 1) 0 (s.setTenant t ((s.tenant t).setPos p ⟨ps.standby, e + 1⟩))
    | .quota s => .at (ps.standby - 1) 0 s
    | _ => .at (ps.standby - 1) 0 s

/-- Where the next record of a tenant goes: extent and offset, or a wait or refusal (03, R98; 05, R205, R206). Nothing is assigned yet. -/
def State.findPlace (s : State) (t size : Nat) (control : Bool) : Place :=
  let x := s.tenant t
  let p := x.rot % max 1 x.openw
  match s.fillPos t p control with
  | .at e _ s =>
    let y := s.ext e
    if !y.committed then .wait s
    else if y.next + size ≤ 2 ^ 30 then .at e y.next s
    else s.rollPos t p control
  | r => r

/-- The stripes that the bytes `off` to `off + size` of an extent on a rank lie in. -/
def RankRt.stripesOf (x : RankRt) (off size : Nat) : List Nat :=
  let first := off / x.stripeBytes
  let last := (off + size - 1) / x.stripeBytes
  (List.range (last + 1 - first)).map (· + first)

/-- The stripes that a record at this place starts: those without a builder (01, R30). -/
def State.newStripes (s : State) (e off size : Nat) : List Nat :=
  match s.rank? (s.ext e).rank with
  | none => []
  | some x => (x.stripesOf off size).filter fun n => !s.media.stripes.any fun y => y.extent = e && y.stripe = n

/-- Builders in use: stripes not closed (01, R20). -/
def State.builders (s : State) : Nat := (s.media.stripes.filter fun x => !x.closed).length

/-- Assign the bytes of a record at its place (01, R17, R20; 05, R205): the next offset moves, each stripe it starts takes a builder, a full
stripe is closed, and the tenant's rotation moves on where a stripe boundary is reached. -/
def State.assign (s : State) (t e off size : Nat) : State :=
  let y := s.ext e
  match s.rank? y.rank with
  | none => s.touchExt e { y with next := off + size }
  | some x =>
    let kp := x.stripeBytes
    let fresh := (s.newStripes e off size).map fun n => (⟨e, n, y.rank, y.bay, 0, [], false, false⟩ : Stripe)
    let grow (z : Stripe) : Stripe :=
      if z.extent = e ∧ off / kp ≤ z.stripe ∧ z.stripe ≤ (off + size - 1) / kp then
        let n := min kp (off + size - z.stripe * kp)
        { z with assigned := max z.assigned n, closed := z.closed || n = kp }
      else z
    let s := { s with media.stripes := (s.media.stripes ++ fresh).map grow }
    let s := s.touchExt e { y with next := off + size }
    if off / kp < (off + size) / kp then
      let x := s.tenant t
      s.setTenant t { x with rot := (x.rot % max 1 x.openw + 1) % max 1 x.openw }
    else s

end Sys2Proof.Machine
end

