-- ==== Sys2Proof/Machine/Attention.lean ====
section
/-!
DEFINITION. Machine/Attention.lean: what many blocks ask of the extent keeper and the scheduler: journal commits and full persists (05,
R211, R214), zone resets of a bay (05, R211; 08, R334), the attention list (08, R310, R316), findings (08, R340), the abandoning of a migration
(08, R321), the accumulators of extents (08, R313).
-/

namespace Sys2Proof.Machine

/-! ### Commits and persists (05, R211–R214) -/

/-- The archive is read-only: ROLLBACK_DETECTED is in force (05, R217). -/
def State.archiveRo (s : State) : Bool := s.isSet Reg.DEV_STATUS.ARCHIVE_RO 0

/-- Work waits for the commit that carries the changes made so far. -/
def State.waitCommit (s : State) (w : JWait) : State := { s with key.jwait := s.key.jwait ++ [(s.key.journal.length, w)] }

/-- Start a full persist (05, R209): the image is captured; the generation that the latest root entry does not name is written. -/
def State.beginPersist (s : State) : State :=
  { s.wr Reg.EXT_STATUS.PERSIST_BUSY 0 1 with key.persistNow := true, key.leaves := some s.key.ext, key.persistAll := false }

/-- AON ticks of the 10 minutes between root commits (05, R214). -/
def rootGap : Nat := 600 * 32768

/-- Ask for a full persist (05, R214): at once where 10 minutes have passed since the previous root commit; ignored while one runs. -/
def State.callPersist (s : State) : State :=
  if s.key.persistNow || s.archiveRo then s
  else if s.key.root.seq = 0 || decide (s.key.lastRootTicks + rootGap ≤ s.ticks) then s.beginPersist
  else { s with key.persistAll := true }

/-- Call for the zone resets of a bay (05, R211): RESET_START is journalled, and the resets start once it is committed. `ext` is the extent
released + 1, or 0. -/
def State.resetBay (s : State) (r b ext : Nat) : State :=
  { s with key.journal := s.key.journal ++ [JEntry.resetStart r b] }.waitCommit (.bayReset r b ext)

/-! ### The attention list (08, R310, R316) -/

/-- Priority of a reason: 0 highest. -/
def attnPriority (reason : Nat) : Nat :=
  if reason = 7 then 0 else if reason = 1 ∨ reason = 2 then 1 else if reason = 3 then 2 else if reason = 4 then 4 else 3

/-- An entry comes before another: by priority, then by extent index. -/
def Attn.before (a b : Attn) : Bool :=
  attnPriority a.reason < attnPriority b.reason || (attnPriority a.reason = attnPriority b.reason && a.extent < b.extent)

/-- Replace the list, and ASY_ATTN with it. -/
def State.setAttn (s : State) (l : List Attn) : State := { s with asy.attn := l }.wr Reg.ASY_ATTN.COUNT 0 l.length

/-- The entry that comes last. -/
def lastAttn : List Attn → Option Attn
  | [] => none
  | a :: r =>
    match lastAttn r with
    | none => some a
    | some b => if a.before b then some b else some a

/-- Enter an extent (08, R310, R316): with the reason of highest priority; never at the last PLACEGEN or on a FAILED rank; a full list gives up
its last entry of lower priority. -/
def State.attend (s : State) (e reason : Nat) (target : Option (Nat × Nat)) : State :=
  let x := s.ext e
  let n : Attn := ⟨e, reason, target, s.ticks⟩
  if x.placegen = 0xFFFFFF then s.event Ev.ASY_PLACEGEN_MAX
  else if s.rankState x.rank = 4 then s
  else match s.asy.attn.find? fun a => a.extent = e with
    | some a =>
      if attnPriority reason < attnPriority a.reason then s.setAttn (s.asy.attn.map fun (b : Attn) => if b.extent = e then n else b) else s
    | none =>
      if s.asy.attn.length < 65536 then s.setAttn (s.asy.attn ++ [n])
      else match lastAttn s.asy.attn with
        | some w => if attnPriority reason < attnPriority w.reason then s.setAttn (s.asy.attn.erase w ++ [n]) else s
        | none => s

/-! ### Findings (08, R340) -/

/-- Log a finding in log 0x51 (the last 4,096); ASY_EVENT.FINDING; a run counts its own. -/
def State.finding (s : State) (kind source ledger extent place seq : Nat) : State :=
  let l := s.asy.findings ++ [⟨s.ticks, kind, source, ledger, extent, place, seq⟩]
  { s with asy.findings := l.drop (l.length - 4096) }.event Ev.ASY_FINDING

/-! ### Migrations (08, R318, R321, R341) -/

/-- Log 0x53 (the last 1,024 migrations). -/
def State.migLogged (s : State) (m : Mig) (outcome : Nat) : State :=
  let e : MigLog := ⟨m.start, m.extent, m.reason, outcome, m.srcRank, m.rank, m.srcBay, m.bay, m.gen, (s.ticks - m.start) * 1000 / 32768⟩
  let l := s.asy.migLog ++ [e]
  { s with asy.migLog := l.drop (l.length - 1024) }

/-- Replace the running migrations, and ASY_STATUS.MIGRATING with them. -/
def State.setMigs (s : State) (l : List Mig) : State := { s with asy.migs := l }.wr Reg.ASY_STATUS.MIGRATING 0 l.length

/-- A bay's zone resets run or wait. -/
def State.bayResetting (s : State) (r b : Nat) : Bool :=
  s.media.resets.any (fun x => x.1 = r && x.2.1 = b) ||
    (s.key.jwait.map (·.2) ++ s.key.jwaitNow).any fun w => match w with | .bayReset r' b' _ => r' = r && b' = b | _ => false

/-- A migration that an earlier start left, whose copy has not started again: its extent is on the list with its target (08, R322). -/
def Attn.resting (a : Attn) (s : State) : Option Mig :=
  a.target.map fun t => ⟨a.extent, a.reason, (s.ext a.extent).rank, (s.ext a.extent).bay, t.1, t.2, (s.ext a.extent).placegen + 1, s.ticks,
    false, false, 0, []⟩

/-- Abandon a migration (08, R321): ABANDON and SEALED unchanged are journalled, the target's zones are reset, and where `again` the extent
re-enters the list as RECOVERY. -/
def State.abandonMig (s : State) (m : Mig) (again : Bool) : State :=
  let s := (s.setMigs (s.asy.migs.filter fun x => x.extent ≠ m.extent)).setAttn
    (s.asy.attn.filter fun a => !(a.extent = m.extent && a.target.isSome))
  let s := { s with key.journal := s.key.journal ++ [JEntry.migration m.extent 3 m.rank m.bay] }
  let s := s.setExt m.extent { s.ext m.extent with st := .sealedE }
  let s := (if s.bayResetting m.rank m.bay then s else s.resetBay m.rank m.bay 0).migLogged m 2
  let s := (s.addSat Reg.ASY_MIG_ABANDON.COUNT 0 1).event Ev.ASY_MIG_ABANDON
  if again then s.attend m.extent 7 none else s

/-- Abandon the migrations that a predicate names. -/
def State.abandonMigs (s : State) (p : Mig → Bool) (again : Bool) : State :=
  ((s.asy.migs ++ s.asy.attn.filterMap fun a => a.resting s).filter p).foldl (fun t m => t.abandonMig m again) s

/-! ### Accumulators and seal records (08, R313) -/

/-- The four census bits of a ledger. -/
def censusBits (l : Nat) : Nat :=
  [0x9E37, 0x7F4B, 0xC2B5, 0x3A8D].foldl (fun v c => v ||| 2 ^ (l * c % 65536 / 64)) 0

/-- The accumulators of an extent. -/
def State.accOf (s : State) (e : Nat) : SealRec :=
  Tab.getD s.asy.acc e ⟨(s.ext e).tenant, (s.ext e).keygen, false, false, 0, 0, 0, 0, 0, []⟩

/-- Replace them. -/
def State.setAcc (s : State) (e : Nat) (x : SealRec) : State := { s with asy.acc := Tab.put e x s.asy.acc }

/-- A record chained in an extent: its header and tag enter the fold, its ledger the census. -/
def State.accumulate (s : State) (e l : Nat) (h : Header) (tag : Nat) : State :=
  let a := s.accOf e
  s.setAcc e { a with records := a.records + 1, fold := (a.fold + Config.sha384 (2 :: tag :: headerNums h)) % 2 ^ 384,
                      census := a.census ||| censusBits l }

/-- A slot is abandoned: its record became void. -/
def State.abandonSlot (s : State) (e off len : Nat) : State :=
  let a := s.accOf e
  s.setAcc e { a with abandoned := a.abandoned ++ [(off, len)] }

end Sys2Proof.Machine
end

