-- ==== Sys2Proof/Machine/Records.lean ====
section
/-!
DEFINITION. Machine/Records.lean: ledgers and records in flight: numbering and its credits (01, R17, R30), void records (01, R37), chaining
and receipts (03, R103; 06, R227–R229), checkpoint calls (06, R231), durability (01, R21) and the posting of completions (01, R22).
-/

namespace Sys2Proof.Machine

/-! ### Ledgers and records -/

/-- A ledger that is FREE. -/
def Ledger.blank : Ledger :=
  ⟨.free, 0, false, 0, 0, 0, 0, 0, 0, 0, 0, 0, false, false, 0, 0, 0, 0, 0, false, 0, 0, 0, 0xFF, 0, none, false⟩

/-- A ledger. -/
def State.ledger (s : State) (l : Nat) : Ledger := Tab.getD s.led.tab l Ledger.blank

/-- Replace a ledger. -/
def State.setLedger (s : State) (l : Nat) (x : Ledger) : State := { s with led.tab := Tab.put l x s.led.tab }

/-- A record in flight. -/
def State.rec? (s : State) (l n : Nat) : Option Rec := Tab.find (recKey l n) s.led.recs

/-- Replace a record. -/
def State.setRec (s : State) (l n : Nat) (r : Rec) : State := { s with led.recs := Tab.put (recKey l n) r s.led.recs }

/-- The ledger and the sequence number that a record key stands for. -/
def keyLedger (k : Nat) : Nat := k / 2 ^ 64
def keySeq (k : Nat) : Nat := k % 2 ^ 64

/-- The settings epoch in force for new dispatches. -/
def State.epoch (s : State) : Nat := s.rd Reg.DEV_SETTINGS_EPOCH.EPOCH 0

/-! ### Numbering (01, R17, R30; 03, R99) -/

/-- What a record to be numbered carries. -/
structure NewRec where
  ty : RType
  fn : Nat
  q : Nat
  cid : Nat
  ledger : Nat
  tenant : Nat
  length : Nat
  sg : List (Nat × Nat)
  crcv : Bool
  hcrc : Nat
  dur : Bool
  ckpt : Bool
  label : Nat

/-- The lane groups that take descriptors (01, R40; 04, R144): powered, not leaving the mask, with a lane in service. -/
def State.groupTakes (s : State) (g : Nat) : Bool :=
  s.isSet Reg.SLA_GRP_STATUS.POWERED g && !s.lane.leaving.contains g && 0 < s.rd Reg.SLA_GRP_STATUS.INSERVICE g

/-- The group for the next descriptor of a class, in rotating order after the one used last (04, R160). -/
def State.pickGroup (s : State) (last : Nat) (occ : Fld) (pool : Nat) : Option Nat :=
  ((List.range 16).map fun k => (last + 1 + k) % 16).find? fun g => s.groupTakes g && s.rd occ g < pool

/-- The KiB of the write pool that a payload takes (01, R30: rounded up to 4 KiB). -/
def pageKib (len : Nat) : Nat := (len + 4095) / 4096 * 4

/-- The write pool has room (01, R29–R31): what it holds and what reads and assay have borrowed stay within its size. -/
def State.writeRoom (s : State) (kib : Nat) : Bool :=
  s.rd Reg.QMS_POOL.OCC 0 + s.rd Reg.QMS_POOL_LENT.READ 0 + s.rd Reg.QMS_POOL_LENT.ASSAY 0 + kib ≤ s.setting 0x0010 * 1024

/-- Every credit of R30 for a record at a place, and the reorder rule: the lane group that would take it. -/
def State.credits (s : State) (l e off len : Nat) : Option Nat :=
  let x := s.ledger l
  if x.next - x.unchained < 64 ∧ s.rd Reg.SLA_LSC.OCC 0 < s.setting 0x3010 ∧ s.rd Reg.SCV_SCO.OCC 0 < s.setting 0x4010 ∧
      s.writeRoom (pageKib len) ∧ s.builders + (s.newStripes e off (storedSize len)).length ≤ s.setting 0x4011 then
    s.pickGroup s.lane.rotorW Reg.QMS_DLG.WRITE (s.setting 0x2010)
  else none

/-- Issue the payload reads of a record up to two segments ahead of the lane that seals it (01, R18). -/
def State.askPayload (s : State) (l n : Nat) : State :=
  match s.rec? l n with
  | some r =>
    let goal := min r.length ((if r.lane = 0 then 0 else r.data.length) + 16384)
    if r.asked < goal && r.voidCause = 0 && r.tag.isNone && s.fnLive r.fn then
      (s.hostReads r.fn r.sg r.asked (goal - r.asked)).setRec l n { r with asked := goal }
    else s
  | none => s

/-- Number a record at its place (01, R17, R30; 03, R99): the next sequence number, extent and offset, the settings epoch and the ticks;
its credits are taken; an empty record's descriptor enters its group's write queue at once (04, R160). -/
def State.number (s : State) (n : NewRec) (e off grp : Nat) : State :=
  let x := s.ledger n.ledger
  let seq := x.next
  let r : Rec :=
    { ty := n.ty, fn := n.fn, q := n.q, cid := n.cid, owed := true, length := n.length, sg := n.sg, asked := 0, crcv := n.crcv, hcrc := n.hcrc,
      dur := n.dur, ckpt := n.ckpt, setepoch := s.epoch, ticks := s.ticks, tenant := n.tenant, extent := e, keygen := (s.ext e).keygen,
      offset := off, label := n.label, data := [], grp := grp + 1, lane := 0, pages := pageKib n.length, lsc := true, sco := true, crc := 0,
      tag := none, voidCause := 0, slotExt := 0, slotOff := 0, placed := false, chained := false, before := 0, durable := false, lost := false,
      completed := false, status := Status.SUCCESS }
  let s := (s.assign n.tenant e off (storedSize n.length)).setRec n.ledger seq r
  let s := s.setLedger n.ledger { x with next := seq + 1 }
  let s := ((s.addWrap Reg.QMS_DLG.WRITE grp 1).addWrap Reg.SLA_LSC.OCC 0 1).addWrap Reg.SCV_SCO.OCC 0 1
  let s := s.addWrap Reg.QMS_POOL.OCC 0 (pageKib n.length)
  let s := { s with lane.rotorW := grp }
  if n.length = 0 then { s with lane.wq := s.lane.wq ++ [recKey n.ledger seq] }
  else s.askPayload n.ledger seq

/-- How a dispatch ends. -/
inductive Dispatch where
  | done (seq : Nat) (s : State)
  | wait (s : State)
  | refuse (status : Nat) (s : State)
  deriving DecidableEq

/-- Dispatch a record (01, R30; 03, R100, R115): it waits while a credit or a commit is wanting, and takes none of them then. -/
def State.dispatch (s : State) (n : NewRec) : Dispatch :=
  match s.findPlace n.tenant (storedSize n.length) (n.ty != .data) with
  | .wait s => .wait s
  | .noExtent t => .refuse Status.NO_EXTENT t
  | .mediaFull => .refuse Status.MEDIA_FULL s
  | .at e off t =>
    match t.credits n.ledger e off n.length with
    | some g => .done (t.ledger n.ledger).next (t.number n e off g)
    | none => .wait t

/-! ### Credits return -/

/-- The DLG slot of a record returns: its lane has finished with it (log entry 7). -/
def State.dropDlg (s : State) (l n : Nat) : State :=
  match s.rec? l n with
  | some r => if r.grp = 0 then s else (s.subFloor Reg.QMS_DLG.WRITE (r.grp - 1) 1).setRec l n { r with grp := 0, lane := 0 }
  | none => s

/-- The LSC slot returns: the record is chained. -/
def State.dropLsc (s : State) (l n : Nat) : State :=
  match s.rec? l n with
  | some r => if r.lsc then (s.subFloor Reg.SLA_LSC.OCC 0 1).setRec l n { r with lsc := false } else s
  | none => s

/-- The SCO handle and the staging bytes return: the record is durable (log entry 7). -/
def State.dropSco (s : State) (l n : Nat) : State :=
  match s.rec? l n with
  | some r =>
    if r.sco then ((s.subFloor Reg.SCV_SCO.OCC 0 1).subFloor Reg.QMS_POOL.OCC 0 r.pages).setRec l n { r with sco := false, pages := 0 }
    else s
  | none => s

/-! ### Lanes of records -/

/-- What a lane holds beside its registers. -/
def State.laneRt (s : State) (n : Nat) : LaneRt := Tab.getD s.lane.rt n ⟨none, none, none, none, 0, false, 0, none⟩

/-- Replace it. -/
def State.setLane (s : State) (n : Nat) (x : LaneRt) : State := { s with lane.rt := Tab.put n x s.lane.rt }

/-- SLA_LANE_STATUS.STATE (04, R174): 0 OFF, 1 IDLE, 2 WRITE, 3 READ, 4 ASSAY, 5 TEST, 6 RESET, 7 RETIRED. -/
def State.laneState (s : State) (n : Nat) : Nat := s.rd Reg.SLA_LANE_STATUS.STATE n

/-- The register that shows the settings epoch a unit runs under (03, R131): lane, media port, chain core, Cooper. A policy core's is its
control register EPOCHACK. -/
def unitEpoch (cls : Nat) : Fld :=
  if cls = 1 then Reg.SLA_LANE_EPOCH.EPOCH else if cls = 2 then Reg.MPX_PORT_EPOCH.EPOCH
  else if cls = 3 then Reg.SCV_CORE_EPOCH.EPOCH else Reg.CPR_EPOCH.EPOCH

/-- A unit takes up the settings epoch (03, R135): it lags no longer. -/
def State.takeUp (s : State) (cls i : Nat) : State :=
  let s := if cls = 5 then s else s.wr (unitEpoch cls) i s.epoch
  { s with set.laggards := s.set.laggards.filter fun x => !(x.1 = cls && x.2 = i) }

/-- A lane leaves its record or item: key register cleared; a reset or a KAT that waited for it starts (04, R146, R170, R174, R175). -/
def State.freeLane (s : State) (n : Nat) : State :=
  let x := s.laneRt n
  let st := if x.resetWait ≠ 0 then 6 else if x.katDue then 5 else 1
  ((s.setLane n { x with key := none, wantKey := none, record := none, item := none, resetWait := 0,
                         katDue := if x.resetWait = 0 then false else x.katDue,
                         katCause := if x.resetWait ≠ 0 then 3 else x.katCause }).wr Reg.SLA_LANE_STATUS.STATE n st).takeUp 1 n

/-! ### Void records (01, R37; 03, R101) -/

/-- The status of a record that becomes void (01, R37; 03, R99; causes 7 and 8 log entry 8). -/
def voidStatus (cause : Nat) : Nat :=
  if cause = 1 then Status.HOST_CRC_MISMATCH else if cause = 2 then Status.BUFFER_FAULT else if cause = 5 then Status.ABORTED_BY_TAMPER
  else if cause = 7 ∨ cause = 8 then Status.ABORTED_BY_HOST else Status.ABORTED_BY_RESET

/-- Make a record void once, if its tag is not released (01, R37, R38): its slot is abandoned, its descriptor leaves the queues, it waits
for its void seal. -/
def State.voidRecord (s : State) (l n cause : Nat) (owed : Bool) : State :=
  match s.rec? l n with
  | some r =>
    if r.voidCause ≠ 0 then s.setRec l n { r with owed := r.owed && owed }
    else if r.tag.isSome || r.chained then s
    else
      let s := s.setRec l n { r with voidCause := cause, slotExt := r.extent, slotOff := r.offset, owed := r.owed && owed,
                                     status := voidStatus cause, data := [] }
      let s := ({ s with lane.wq := s.lane.wq.filter (· ≠ recKey l n) }.dropDlg l n).abandonSlot r.extent r.offset r.length
      if r.lane = 0 then s else (s.freeLane (r.lane - 1)).setRec l n { (s.rec? l n).getD r with lane := 0 }
  | none => s

/-! ### Durability (01, R21) -/

/-- What a port holds beside its registers. -/
def State.portRt (s : State) (p : Nat) : PortRt := Tab.getD s.media.port p ⟨0, none, ⟨0, 0, 0, 0, 0⟩, false, 0⟩

/-- The NGUID of the drive on a port, 0 none. -/
def State.portNguid (s : State) (p : Nat) : Nat := match (s.portRt p).drive with | some d => d.nguid | none => 0

/-- The drive record of a port: a new one where the port's drive has none. -/
def State.driveRec (s : State) (p : Nat) : DriveRec :=
  let blank : DriveRec := ⟨s.portNguid p, 0, false, false, false, false, 0, 0, 0, 0, 0, [], 0, 0, 0, 0, 0, 0⟩
  match Tab.find p s.asy.drive with
  | some d => if d.nguid = s.portNguid p then d else blank
  | none => blank

/-- A command of a port's drive that read some bytes completes: counted (07, R306; 08, R308). -/
def State.driveRead (s : State) (p bytes : Nat) : State :=
  let d := s.driveRec p
  { s.addWrap Reg.MPX_PORT_CMDS.COUNT p 1 with asy.drive := Tab.put p { d with rdBytes := d.rdBytes + bytes } s.asy.drive }

/-- A migrated unit has been appended by a port's drive: counted (07, R306; 08, R308). -/
def State.driveWrote (s : State) (p bytes : Nat) : State :=
  let d := s.driveRec p
  { s.addWrap Reg.MPX_PORT_CMDS.COUNT p 1 with asy.drive := Tab.put p { d with wrBytes := d.wrBytes + bytes } s.asy.drive }

/-- A unit of a stripe is on a degraded bay-member, or its slot is not in service. -/
def State.excused (s : State) (x : Stripe) (r : RankRt) (i : Nat) : Bool :=
  s.media.degraded.contains (x.rank, x.bay, i) || (match r.slots[i]? with | some y => y.st != 0 | none => true)

/-- A closed stripe is durable (01, R21): every unit acknowledged but those of degraded bay-members and slots not in service, k at least. -/
def State.stripeDone (s : State) (x : Stripe) : Bool :=
  x.closed && (match s.rank? x.rank with
    | some r => decide (r.k ≤ x.acked.length) && (List.range (r.k + r.m)).all fun i => x.acked.contains i || s.excused x r i
    | none => true)

/-- A stripe can no longer reach durability (01, R21; 03, R116): fewer than k units are, or may still be, acknowledged. -/
def State.stripeLost (s : State) (x : Stripe) : Bool :=
  match s.rank? x.rank with
  | some r => decide (((List.range (r.k + r.m)).filter fun i => x.acked.contains i || !s.excused x r i).length < r.k)
  | none => false

/-- The record has no stripe left that is not durable. -/
def State.recStored (s : State) (r : Rec) : Bool :=
  match s.rank? (s.ext r.extent).rank with
  | some x => (x.stripesOf r.offset (storedSize (if r.voidCause = 0 then r.length else 0))).all fun n =>
      !s.media.stripes.any fun y => y.extent = r.extent && y.stripe = n
  | none => true

/-- A record that is durable and completed leaves the table. -/
def State.dropRecord (s : State) (k : Nat) : State :=
  match Tab.find k s.led.recs with
  | some r => if r.durable && r.completed then { s with led.recs := Tab.del k s.led.recs } else s
  | none => s

/-- Mark every chained record whose stripes are all durable (01, R21). -/
def State.settle (s : State) : State :=
  (Tab.keys s.led.recs).foldl (fun t k =>
    match Tab.find k t.led.recs with
    | some r =>
      if r.chained && !r.durable && t.recStored r then
        ((t.setRec (keyLedger k) (keySeq k) { r with durable := true }).dropSco (keyLedger k) (keySeq k)).dropRecord k
      else t
    | none => t) s

/-- Log 0x43 (07, R305): the last 1,024 rank events. -/
def State.rankLog (s : State) (ev rank slot port gen ext stripe detail nguid : Nat) : State :=
  let l := s.media.log ++ [⟨s.ticks, ev, rank, slot, port, gen, ext, stripe, detail, nguid⟩]
  { s with media.log := l.drop (l.length - 1024) }

/-- A rank event that concerns no drive: the spec gives its PORT and NGUID no value, so they are free values (log entry 3). -/
def State.rankLogNoDrive (s : State) (ev rank slot gen ext stripe detail : Nat) : State :=
  let a := s.draw
  let b := a.2.draw
  b.2.rankLog ev rank slot (a.1 % 256) gen ext stripe detail b.1

/-- A stripe that is not durable is lost (07, R293; 03, R116): logged, its records marked. -/
def State.loseStripe (s : State) (x : Stripe) : State :=
  let gen := match s.rank? x.rank with | some r => r.gen | none => 0
  let s := (s.rankLogNoDrive 9 x.rank 0xFF gen x.extent x.stripe 0).event Ev.CPR_STRIPE_LOST
  let kp := match s.rank? x.rank with | some r => r.stripeBytes | none => 1
  { s with
    led.recs := Tab.mapVal (fun _ (r : Rec) =>
      if r.extent = x.extent && r.offset / kp ≤ x.stripe && x.stripe ≤ (r.offset + storedSize r.length - 1) / kp && !r.durable then
        { r with lost := true } else r) s.led.recs
    media.stripes := s.media.stripes.filter fun (y : Stripe) => !(y.extent = x.extent && y.stripe = x.stripe) }

/-- Take the durable and the lost stripes off the list and settle the records (01, R20, R21; 03, R116). -/
def State.settleStripes (s : State) : State :=
  let s := (s.media.stripes.filter s.stripeLost).foldl State.loseStripe s
  { s with media.stripes := s.media.stripes.filter fun x => !s.stripeDone x }.settle


/-- Every record of a ledger up to `n` is durable. -/
def State.durableTo (s : State) (l n : Nat) : Bool :=
  n < (s.ledger l).unchained && s.led.recs.all fun x => keyLedger x.1 ≠ l || n < keySeq x.1 || x.2.durable

/-! ### Chaining (06, R225–R231; 03, R103, R105) -/

/-- Hold an orphan receipt (03, R105): a full table discards the oldest. -/
def State.orphan (s : State) (o : Orphan) : State :=
  if s.led.orphans.length < 131072 then { s with led.orphans := s.led.orphans ++ [o] }
  else match s.led.orphans with
    | [] => s
    | d :: rest =>
      let x := s.ledger d.ledger
      let s := s.setLedger d.ledger { x with rcptLost := true, lostFirst := if x.rcptLost then min x.lostFirst d.seq else d.seq }
      { s with led.orphans := rest ++ [o] }.event Ev.SCV_ORPHAN_LOST

/-- Write a record's receipt (03, R103; 02, R87). It waits while the function is in D3hot (02, R47); it is held as an orphan where the ledger
is bound to no running queue or the write fails with `how` (03, R105, R127; 02, R83). -/
def State.receipt (s : State) (l seq loc : Nat) (how : LinkEnd) : State :=
  let x := s.ledger l
  if (x.st = .bound ∨ x.st = .closing) ∧ s.fnOpen x.fn then
    if !s.fnLive x.fn then s.setFn x.fn { s.fnRt x.fn with receipts := (s.fnRt x.fn).receipts ++ [(l, seq, loc)] }
    else if how ≠ .ok then ((s.linkError (portOf x.fn) how).setLedger l { x with rcptFault := true }).orphan ⟨l, seq, loc⟩
    else
      let addr := x.rring + seq % 2 ^ x.rlog * 16
      ((s.dlogWrite x.fn addr 16).addWrap Reg.HIF_PORT_WR_BYTES.BYTES (portOf x.fn) 16).send (.receipt x.fn addr seq loc)
  else s.orphan ⟨l, seq, loc⟩

/-- Write the receipts that waited for D0 (02, R47). -/
def State.sendReceipts (s : State) (f : Nat) : State :=
  let l := (s.fnRt f).receipts
  l.foldl (fun t x => t.receipt x.1 x.2.1 x.2.2 .ok) (s.setFn f { s.fnRt f with receipts := [] })

/-- The receipts of a ledger that wait for D0 become orphans: it is no longer bound (03, R105). -/
def State.lateOrphans (s : State) (l : Nat) : State :=
  let f := (s.ledger l).fn
  let rt := s.fnRt f
  (rt.receipts.filter fun x => x.1 = l).foldl (fun t x => t.orphan ⟨x.1, x.2.1, x.2.2⟩)
    (s.setFn f { rt with receipts := rt.receipts.filter fun x => x.1 ≠ l })

/-- Call for a checkpoint of a ledger at a record; both counts restart (06, R231). -/
def State.callCkpt (s : State) (l n cause chain : Nat) : State :=
  let x := s.ledger l
  let s := s.setLedger l { x with chainedSince := 0, ckTicks := s.ticks }
  { s with scv.calls := s.scv.calls ++ [⟨l, n, cause, chain⟩] }

/-- A CHECKPOINT_NOW waits for this record (03, R125). -/
def State.ckptNamed (s : State) (l n : Nat) : Bool :=
  s.led.waits.any fun w => match w with
    | .ckpt _ _ _ l' n' _ => l' = l && n' = n
    | _ => false

/-- The cause of the checkpoint called for at a record just chained, 0 none (06, R231: the first in its order that holds; the time trigger
by the ticks passed). While LOCKED none by time, and none at a record numbered there (06, R258). -/
def State.ckptCause (s : State) (l n : Nat) (r : Rec) : Nat :=
  let x := s.ledger l
  if r.inLock then 0
  else if x.ckn ≤ x.chainedSince then 1
  else if s.lifecycle ≠ 3 ∧ x.ckt * 32768 ≤ (s.ticks - x.ckTicks) * 1000 then 2
  else if r.ckpt then 3
  else if s.ckptNamed l n then 4
  else if r.ty = .close then 5
  else 0

/-- The chain core of a ledger: L mod 16, or the next in service (06, R226, R230). -/
def State.coreOf (s : State) (l : Nat) : Nat :=
  (((List.range 16).map fun k => (l + k) % 16).find? fun c => s.rdBit Reg.SCV_STATUS.INSERVICE 0 c).getD (l % 16)

/-- Chain the record at the start of a ledger's reorder window (06, R225, R227, R229): chain value, receipt, checkpoint trigger, LSC slot. -/
def State.chainHead (s : State) (l : Nat) (how : LinkEnd) : State :=
  let x := s.ledger l
  let n := x.unchained
  match s.rec? l n with
  | some r =>
    match r.tag with
    | some tag =>
      if r.voidCause ≠ 0 && !r.placed then s
      else
        let c := chainStep x.chain (r.header l n) tag
        let s := (s.setRec l n { r with chained := true, before := x.chain }).accumulate r.extent l (r.header l n) tag
        let s := s.setLedger l { x with unchained := n + 1, chain := c, chainedSince := x.chainedSince + 1 }
        let s := s.wr Reg.SCV_CORE_EPOCH.EPOCH (s.coreOf l) r.setepoch
        let s := s.addWrap Reg.SCV_CHAIN_COUNT.COUNT 0 1
        let s := if r.voidCause = 0 then s else s.addWrap Reg.SCV_VOID_COUNT.COUNT 0 1
        let s := (s.receipt l n r.locator how).dropLsc l n
        let cause := s.ckptCause l n r
        let s := if cause = 0 then s else s.callCkpt l n cause c
        let s := if r.ty = .close && (s.ledger l).cutShort then s.setLedger l { s.ledger l with st := .closed } else s
        s.settleStripes
    | none => s
  | none => s

/-! ### Completions of records (01, R22; 03, R113, R117, R122–R124) -/

/-- The batch of a ledger's checkpoint at a record is signed. -/
def State.ckptSigned (s : State) (l n : Nat) : Bool :=
  s.scv.batches.any fun b => b.signed.isSome && b.entries.any fun e => e.ledger = l && e.seq = n && !e.dead

/-- A record meets its completion condition (01, R22; 03, R116, R117, R122–R124). -/
def State.recReady (s : State) (l n : Nat) (r : Rec) : Bool :=
  r.chained && (match r.ty with
    | .close => (r.durable || r.lost) && s.ckptSigned l n
    | .bind => true
    | .timeGap => true
    | _ => !r.dur || r.durable || r.lost)

/-- RES0 and RES1 of a record's completion (03, R113, R122; 04, R151). -/
def recResult (l n : Nat) (r : Rec) : Nat × Nat :=
  match r.ty with
  | .openRec => if r.voidCause = 0 then (l, 0) else (0, 0)
  | .data => (n, r.crc)
  | _ => (n, 0)

/-- The status of a record's completion (03, R116). -/
def recStatus (r : Rec) : Nat := if r.lost && r.dur && r.status = Status.SUCCESS then Status.MEDIA_UNRECOVERED else r.status

/-- A completion of a queue is written now: the function is live, the queue active and not discarding, nothing is held, a slot is free
(02, R47, R59, R60). -/
def State.cqOpen (s : State) (f q : Nat) : Bool :=
  s.fnLive f && s.qActive f q && !(s.qrt f q).discard && (s.qrt f q).held = [] && decide (s.cqUsed f q + 1 < s.qDepth f q)

/-- A completion write that fails faults its queue with 4 and is discarded (02, R60, R643). -/
def State.cqWriteEnd (s : State) (f q : Nat) (how : LinkEnd) : State :=
  if how ≠ .ok && s.cqOpen f q then (s.linkError (portOf f) how).queueFault f q 4 else s

/-- Complete the first uncompleted record of a ledger if it is ready (01, R22): post its completion where one is owed; `how` its write ends. -/
def State.completeHead (s : State) (l : Nat) (how : LinkEnd) : State :=
  let x := s.ledger l
  let n := x.uncompleted
  match s.rec? l n with
  | some r =>
    if s.recReady l n r && !r.completed then
      let s := s.setRec l n { r with completed := true }
      let s := s.setLedger l { x with uncompleted := n + 1, st := if r.ty = .close then .closed else x.st }
      let s := if r.owed then (s.cqWriteEnd r.fn r.q how).complete r.fn r.q r.cid (recStatus r) (recResult l n r).1 (recResult l n r).2
        else if r.voidCause = 0 then s.silent r.fn 1 else s
      s.dropRecord (recKey l n)
    else s
  | none => s

/-! ### Commands that wait (03, R125, R126) -/

/-- A checkpoint of a ledger at a record is formed. -/
def State.ckptFormed (s : State) (l n : Nat) : Bool :=
  (s.scv.entries ++ s.scv.outside ++ s.scv.batches.flatMap (·.entries)).any fun e => e.ledger = l && e.seq = n && !e.dead

/-- A waiting FLUSH or CHECKPOINT_NOW has what it waits for. -/
def State.waitMet (s : State) : LWait → Bool
  | .flush _ _ _ upTo _ => upTo.all fun x => s.durableTo x.1 x.2
  | .ckpt _ _ _ l n signed => if signed then s.ckptSigned l n else s.ckptFormed l n

/-- Complete one waiting command. -/
def State.endWait (s : State) : LWait → State
  | .flush f q cid _ res0 => s.complete f q cid Status.SUCCESS res0 0
  | .ckpt f q cid _ n _ => s.complete f q cid Status.SUCCESS n 0

/-- Complete every waiting FLUSH and CHECKPOINT_NOW that has what it waits for. -/
def State.resolve (s : State) : State :=
  (s.led.waits.filter s.waitMet).foldl State.endWait { s with led.waits := s.led.waits.filter fun w => !s.waitMet w }

/-! ### Binding -/

/-- A CLOSING ledger is cut short (03, R107): CLOSED once its CLOSE record, or the void in its place, is chained. -/
def State.cutClose (s : State) (l : Nat) : State :=
  let x := s.ledger l
  match x.st, x.closeSeq with
  | .closing, some n => s.setLedger l (if n < x.unchained then { x with st := .closed } else { x with cutShort := true })
  | _, _ => s

/-- The number that stands for no function: work whose function or queue is gone owes nothing to anyone. -/
def noFn : Nat := 256

/-- Unbind a ledger (03, R107; 02, R61 step 5, R83 step 6): a BOUND ledger becomes UNBOUND; a CLOSING one is cut short, with no completion. -/
def State.unbind (s : State) (l cause : Nat) : State :=
  let s := s.lateOrphans l
  let x := s.ledger l
  if x.st = .bound then s.setLedger l { x with st := .unbound, prevFn := x.fn, prevQ := x.q, unbindCause := cause, fn := 0, q := 0xFF }
  else if x.st = .closing then
    let s := match x.closeSeq with
      | some n => (match s.rec? l n with | some r => s.setRec l n { r with owed := false } | none => s)
      | none => s
    (s.setLedger l { x with fn := noFn, q := 0xFF }).cutClose l
  else s

/-- The ledgers bound to a queue of a function; every queue where `q` is none. -/
def State.boundTo (s : State) (f : Nat) (q : Option Nat) : List Nat :=
  (s.led.tab.filter fun x => (x.2.st = .bound || x.2.st = .closing) && x.2.fn = f && (q = none || q = some x.2.q)).map (·.1)

/-- The numbered records of a function (or of one of its queues) that are not chained. -/
def State.recsOf (s : State) (f : Nat) (q : Option Nat) : List Nat :=
  (s.led.recs.filter fun x => x.2.fn = f && (q = none || q = some x.2.q) && !x.2.chained).map (·.1)

/-- A queue has commands dispatched and not completed: they hold its HQD credits beyond those of what is fetched or on its way
(01, R28). -/
def State.openCmds (s : State) (f q : Nat) : Bool :=
  decide ((s.qrt f q).fetched.length + (s.qrt f q).inFetch.sum < (s.qrt f q).credits)

/-- Some queue of a function has. -/
def State.openFn (s : State) (f : Nat) : Bool := (List.range 64).any fun q => s.openCmds f q

/-! ### Work whose queue goes (02, R61, R83) -/

/-- The work is of this function, and of this queue where one is named. -/
def ofQueue (f : Nat) (q : Option Nat) (g k : Nat) : Bool := g = f && (q = none || q = some k)

/-- An item is of this function or queue. -/
def State.itemOf (s : State) (f : Nat) (q : Option Nat) (x : Item) : Bool :=
  match x.use with
  | .readCmd g k _ _ _ _ => ofQueue f q g k
  | .verify r => (match Tab.find r s.led.verify with | some v => ofQueue f q v.fn v.q | none => false)
  | _ => false

/-- An item whose command is gone: on a lane it runs on and gives nothing to anyone; otherwise its hold region is zeroed (04, R165). -/
def Item.drop (x : Item) : Item :=
  match x.use with
  | .readCmd _ q cid sg h n => { x with use := .readCmd noFn q cid sg h n, phase := if x.phase = .onLane then .onLane else .zeroing }
  | _ => { x with phase := if x.phase = .onLane then .onLane else .zeroing }

/-- Who waits for a PKE job, once the queue is gone. -/
def PkeJob.drop (f : Nat) (q : Option Nat) (j : PkeJob) : PkeJob :=
  match j.who with
  | .attest g k cid r sg n => if ofQueue f q g k then { j with who := .attest noFn k cid r sg n } else j
  | _ => j

/-- What waits for a commit, once the queue is gone. -/
def JWait.drop (f : Nat) (q : Option Nat) (w : JWait) : JWait :=
  match w with
  | .release g k cid n => if ofQueue f q g k then .release noFn k cid n else w
  | _ => w

/-- The waiting setting changes of a queue end without a completion; the exclusive order goes on (03, R128). -/
def State.dropSettings (s : State) (f : Nat) (q : Option Nat) : State :=
  let l := s.set.waiting.filter fun w => match w.who with | .admin g k _ => !ofQueue f q g k | _ => true
  if l = s.set.waiting then s else { s with set.waiting := l, set.excl := l ≠ [] }

/-- The commands of a function, or of one of its queues, that are under way post nothing any more: records owe no completion, reads and
verifications stop, waits end, policy commands are cancelled (02, R61, R83; 04, R165; 12, R464). -/
def State.dropWork (s : State) (f : Nat) (q : Option Nat) : State :=
  let items := Tab.mapVal (fun _ (x : Item) => if s.itemOf f q x then x.drop else x) s.lane.items
  let gone := fun i => match Tab.find i items with | some x => decide (x.phase = ItemPhase.zeroing) | none => false
  let tags := (s.cpu.polCmds.filter fun p => ofQueue f q p.fn p.q).length
  let s : State := { s with
    led.recs := Tab.mapVal (fun _ (r : Rec) => if ofQueue f q r.fn r.q then { r with owed := false } else r) s.led.recs,
    led.waits := s.led.waits.filter fun w => match w with
      | .flush g k _ _ _ => !ofQueue f q g k
      | .ckpt g k _ _ _ _ => !ofQueue f q g k,
    led.verify := Tab.keep (fun _ (v : VerifyRun) => !ofQueue f q v.fn v.q) s.led.verify,
    scv.proofs := s.scv.proofs.filter fun w => !ofQueue f q w.fn w.q,
    scv.jobs := s.scv.jobs.map (PkeJob.drop f q),
    scv.unit := Tab.mapVal (fun _ j => PkeJob.drop f q j) s.scv.unit,
    key.jwait := s.key.jwait.map fun w => (w.1, JWait.drop f q w.2),
    key.jwaitNow := s.key.jwaitNow.map (JWait.drop f q),
    rng.reqs := s.rng.reqs.filter fun r => match r.who with | .host g k _ _ => !ofQueue f q g k | _ => true,
    lane.items := items,
    lane.rq := s.lane.rq.filter fun i => !gone i,
    cpu.polCmds := s.cpu.polCmds.filter fun p => !ofQueue f q p.fn p.q }
  let s := if tags = 0 then s else s.event Ev.POL_CANCELLED
  s.dropSettings f q

end Sys2Proof.Machine
end

