-- ==== Sys2Proof/Machine/Host.lean ====
section
/-!
DEFINITION. Machine/Host.lean: host links, functions and their resets, queues, doorbells, fetch, completions, mailboxes, dirty logs and the
moving of virtual functions (02).
-/

namespace Sys2Proof.Machine

/-! ### Function resets (02, R81–R86) -/

/-- How many entries of a function are fetched and not dispatched. -/
def State.undispatched (s : State) (f : Nat) : Nat := (List.range 64).foldl (fun n q => n + (s.qrt f q).fetched.length) 0

/-- The registers of a function return to their reset values (02, R83 step 7, R96). -/
def State.resetFnRegs (s : State) (f : Nat) : State :=
  let gone (k : Nat) : Bool := functionFields.any fun x => k % fieldSpan = x.1 && k / fieldSpan / x.2 = f
  { s with regs := Tab.keep (fun k _ => !gone k) s.regs,
           host.q := Tab.keep (fun k _ => k / 64 ≠ f) s.host.q, host.vec := Tab.keep (fun k _ => k / 65 ≠ f) s.host.vec }

/-- The numbered record cannot finish: it is not on a lane, or its payload is not whole in staging (02, R83 step 4). -/
def Rec.unfinished (r : Rec) : Bool := r.tag.isNone && (r.lane = 0 || r.data.length ≠ r.length)

/-- Every receipt of a function that waits for D0 becomes an orphan (03, R105). -/
def State.orphanReceipts (s : State) (f : Nat) : State :=
  (s.fnRt f).receipts.foldl (fun t x => t.orphan ⟨x.1, x.2.1, x.2.2⟩) (s.setFn f { s.fnRt f with receipts := [] })

/-- Steps 2 to 5 of a squash (02, R83; 04, R163, R165): fetched entries are dropped and counted; records that cannot finish become void with
cause 4; the tags of its policy commands are cancelled and counted (12, R464); no command of the function completes any more. -/
def State.squash (s : State) (f : Nat) : State :=
  let dropped := s.undispatched f
  let keys := s.recsOf f none
  let victims := keys.filter fun k => match Tab.find k s.led.recs with | some r => r.unfinished && r.voidCause = 0 | none => false
  let tags := (s.cpu.polCmds.filter fun p => p.fn = f).length
  let s := victims.foldl (fun t k => t.voidRecord (keyLedger k) (keySeq k) 4 false) s
  let s := ({ s with host.q := Tab.mapVal (fun k (x : QRt) => if k / 64 = f then { x with fetched := [], held := [], inFetch := [] } else x) s.host.q }
    : State)
  let s := (s.dropWork f none).orphanReceipts f
  match (s.fnRt f).reset with
  | some x => s.setFn f { s.fnRt f with reset := some { x with
      drain := false, aborted := x.aborted + dropped + tags, voids := x.voids ++ victims.map fun k => (⟨keyLedger k, keySeq k⟩ : VoidRef) } }
  | none => s

/-- A drain that has nothing left to complete goes on as a squash (02, R82). -/
def State.drained (s : State) (f : Nat) : State := if s.draining f && !s.openFn f then s.squash f else s

/-- Complete every fetched, undispatched entry of a queue with a status (02, R61 step 2, R82). -/
def State.abortFetched (s : State) (f q status : Nat) : State :=
  let l := (s.qrt f q).fetched
  l.foldl (fun t x => t.complete f q x.e.cid.toNat status 0 0) (s.setQ f q { s.qrt f q with fetched := [] })

/-- Start the reset of one function (02, R51, R81, R82): none of a SAVED or absent function; a squash absorbs a further reset; a further
reset ends a drain. -/
def State.startReset1 (s : State) (f cause mode : Nat) (req : List (Nat × Nat × Nat)) : State :=
  let st := s.fnState f
  if st = 3 then s
  else if st = 2 then
    match (s.fnRt f).reset with
    | some x =>
      let s := s.setFn f { s.fnRt f with reset := some { x with req := x.req ++ req } }
      if x.drain then s.squash f else s
    | none => s
  else
    let drain := mode = 1 && st = 1
    let n := s.undispatched f
    let x : FnReset := ⟨cause, drain, if drain then 1 else 0, s.ticks, if drain then n else 0, 0, [], req⟩
    let s := (s.setFnState f 2).setFn f { s.fnRt f with reset := some x, save := none }
    if drain then ((List.range 64).foldl (fun t q => t.abortFetched f q Status.ABORTED_BY_RESET) s).drained f else s.squash f

/-- Start a function reset; a PF's includes all of its VFs (02, R81). A save that meets it ends with ABORTED_BY_RESET (R93). -/
def State.startReset (s : State) (f cause mode : Nat) (req : List (Nat × Nat × Nat)) : State :=
  let endSave (t : State) (g : Nat) : State :=
    match (t.fnRt g).save with
    | some v => t.complete v.reqFn v.reqQ v.cid Status.ABORTED_BY_RESET 0 0
    | none => t
  if isPf f then
    let vfs := (List.range 128).filterMap fun n => if n ≠ 0 && s.fnExists (f + n) then some (f + n) else none
    (f :: vfs).foldl (fun t g => (endSave t g).startReset1 g cause mode (if g = f then req else [])) s
  else (endSave s f).startReset1 f cause mode req

/-- The configuration of a VF that is absent or newly enabled (02, R51). -/
def State.clearVf (s : State) (f : Nat) : State :=
  let s := (s.wr Reg.HIF_FN_CFG.CONFIGURED f 0).wr Reg.HIF_FN_CFG.QUOTA f 0
  let s := ((s.wr Reg.HIF_FN_CFG.WEIGHT f 16).wr Reg.HIF_FN_CFG.TENANT f 0).setFnState f 0
  let s := ((s.wr Reg.HIF_FN_PASID.REQUIRE f 0).wr Reg.HIF_FN_PASID.WIDTH f 0).wr Reg.HIF_FN_PASID.BASE f 0
  s.wr Reg.HIF_FN_HQD.POOL f 32

/-- VF Enable and NumVFs of a PF, with the port's NUMVFS. -/
def State.setVfs (s : State) (p : Nat) (en : Bool) (num : Nat) : State :=
  (s.setPf p { s.pfCfg p with vfEnable := en, numVfs := num }).wr Reg.HIF_PORT_STATUS.NUMVFS p (if en then num else 0)

/-- Loss of link, hot reset or PERST# of a port (02, R48): a squash of every function that is not SAVED; the configuration space follows. -/
def State.linkLost (s : State) (p : Nat) (bit : Fld) : State :=
  let s1 := ((s.wr bit p 1).wr Reg.HIF_PORT_STATUS.LINK_UP p 0).wr Reg.HIF_PORT_STATUS.FLIT p 0
  let s1 := s.riseOf (2 + p) ((s1.wr Reg.HIF_PORT_STATUS.RATE p 0).wr Reg.HIF_PORT_STATUS.WIDTH p 0)
  let s1 := s1.setPf p { s1.pfCfg p with linkLost := true }
  let saved := (List.range 128).filter fun n => n ≠ 0 && s1.fnExists (p * 128 + n) && s1.fnState (p * 128 + n) = 3
  saved.foldl (fun t n => (t.clearVf (p * 128 + n)).resetFnRegs (p * 128 + n)) (s1.startReset (p * 128) 3 0 [])

/-- HOST_LINK_UP (02, R44): the port's link trains. -/
def execHostLinkUp (p : Fin 2) (rate : BitVec 3) (width : BitVec 5) (flit : Bool) (s : State) : Res :=
  .next <| if p.val = 1 ∧ s.setting 0x1001 = 0 then s
    else
      let s := (s.wr Reg.HIF_PORT_STATUS.LINK_UP p.val 1).wr Reg.HIF_PORT_STATUS.RATE p.val rate.toNat
      (s.wr Reg.HIF_PORT_STATUS.WIDTH p.val width.toNat).wr Reg.HIF_PORT_STATUS.FLIT p.val (if flit then 1 else 0)

/-- HOST_LINK_LOSS (02, R48). -/
def execHostLinkLoss (p : Fin 2) (s : State) : Res := .next (s.linkLost p.val Reg.HIF_PORT_ERR.LINK_DOWN)

/-- HOST_HOT_RESET (02, R48): HIF_PORT_ERR.HOT_RESET and the effect of a loss of link. -/
def execHostHotReset (p : Fin 2) (s : State) : Res := .next (s.linkLost p.val Reg.HIF_PORT_ERR.HOT_RESET)

/-- HOST_PERST (19, R624; 02, R48): SBD_EVENT.PERST_A or PERST_B; in SLEEP the assertion is recorded until READY. -/
def execHostPerst (p : Fin 2) (s : State) : Res :=
  .next <|
    let s := s.event (if p.val = 0 then Ev.SBD_PERST_A else Ev.SBD_PERST_B)
    if s.power = 2 then { s with host.perstPending := s.host.perstPending ++ [p.val] }
    else s.linkLost p.val Reg.HIF_PORT_ERR.LINK_DOWN

/-- VF_ENABLE_WRITE (02, R51, R644; 10, R389): NumVFs is capped at TotalVFs, which is 0 in IMAGE_RECOVERY and HALTED; new VFs are UNCONFIGURED; VFs no longer covered are squash-reset with
cause 5 and absent after it, and their blobs are invalidated. -/
def execVfEnableWrite (p : Fin 2) (en : Bool) (num : BitVec 16) (s : State) : Res :=
  .next <|
    let total := if s.bootMode = 0 then s.setting (if p.val = 0 then 0x1002 else 0x1003) else 0
    let n := min num.toNat total
    let base := p.val * 128
    let was := (List.range 128).filter fun i => i ≠ 0 && s.fnExists (base + i)
    let now := (List.range 128).filter fun i => i ≠ 0 && en && i ≤ n
    let gone := was.filter fun i => !now.contains i
    let fresh := now.filter fun i => !was.contains i
    let s := gone.foldl (fun t i =>
      let f := base + i
      let t := t.setFn f { t.fnRt f with blobValid := false }
      if t.fnState f = 3 then
        (t.boundTo f none).foldl (fun u l => u.unbind l 5) ((t.clearVf f).resetFnRegs f)
      else t.startReset f 5 0 []) s
    fresh.foldl (fun t i => t.clearVf (base + i)) (s.setVfs p.val en n)

/-- FLR (02, R81, R51): a squash reset of the function; no effect on a SAVED or absent function. -/
def execFlr (f : Fn) (s : State) : Res := .next (if s.fnExists f.val then s.startReset f.val 1 0 [] else s)

/-- Every vector of a function whose PBA bit is set and which may send does so (02, R77, R47, R83). -/
def State.flushVectors (s : State) (f : Nat) : State :=
  (List.range 65).foldl (fun t v =>
    let x := t.vec f v
    if x.pending && !x.mask && (t.fnRt f).msixEn && !(t.fnRt f).fmask && !(t.fnRt f).d3 && !t.fnMute f then
      (t.setVec f v { x with pending := false }).send (.msix f v)
    else t) s

/-- A function is back in D0 (02, R47): the receipts, payload reads and completions that waited go on, then the messages. -/
def State.backToD0 (s : State) (f : Nat) : State :=
  let s := s.sendReceipts f
  let s := (s.recsOf f none).foldl (fun t k => t.askPayload (keyLedger k) (keySeq k)) s
  ((List.range 64).foldl (fun t q => t.postHeld f q (t.qrt f q).held.length) s).flushVectors f

/-- MSIX_MASK_WRITE (02, R77): the write of a mask, an entry or MSI-X Enable; an unmasked vector whose PBA bit is set sends. -/
def execMsixMaskWrite (f : Fn) (w : MsixWrite) (s : State) : Res :=
  .next <| if !s.fnExists f.val then s
    else
      let s := match w with
        | .vectorMask v m => s.setVec f.val v.val { s.vec f.val v.val with mask := m }
        | .vectorEntry v a d => s.setVec f.val v.val { s.vec f.val v.val with addr := a.toNat, data := d.toNat }
        | .enable on => s.setFn f.val { s.fnRt f.val with msixEn := on }
        | .functionMask on => s.setFn f.val { s.fnRt f.val with fmask := on }
      s.flushVectors f.val

/-- The BIND cause of a function reset cause (03, R99: those of the reset report). -/
def State.unbindAll (s : State) (f cause : Nat) : State := (s.boundTo f none).foldl (fun t l => t.unbind l cause) s

/-- Void references in the order of the report (02, R86). -/
def sortVoids (l : List VoidRef) : List VoidRef :=
  let ins (x : VoidRef) : List VoidRef → List VoidRef := fun ys =>
    ys.filter (fun y => y.ledger < x.ledger || (y.ledger = x.ledger && y.seq < x.seq)) ++ x ::
      ys.filter (fun y => !(y.ledger < x.ledger || (y.ledger = x.ledger && y.seq < x.seq)))
  l.foldr ins []

/-- What a function's reset leaves of its configuration (02, R48, R51): after a loss of link, a hot reset or PERST# the configuration space of a PF
is at its reset values and its VFs are absent; a removed VF is absent. -/
def State.afterReset (s : State) (f cause : Nat) : State :=
  let p := portOf f
  let lost := cause = 3 || (s.pfCfg p).linkLost
  let s := if lost then s.setFn f { s.fnRt f with d3 := false, relaxed := true } else s
  if isPf f then
    if lost then (s.setVfs p false 0).setPf p { s.pfCfg p with vfEnable := false, numVfs := 0, pasidEn := false, cplTimeout := 0, linkLost := false }
    else s
  else if lost || cause = 5 || !s.fnExists f then s.clearVf f
  else s

/-- The records of a function or queue that are sealed, or to be sealed, and not completed: nothing of them is owed to it any more
(02, R84, R86). -/
def State.disown (s : State) (f : Nat) (q : Option Nat) : State :=
  { s with led.recs := Tab.mapVal (fun _ (r : Rec) => if ofQueue f q r.fn r.q then { r with fn := noFn } else r) s.led.recs }

/-- FUNCTION_RESET_DONE (02, R83 steps 6 and 7, R48, R86): once every record of the function has released its tag or become void, its
ledgers are unbound, its registers, queues, mailbox and MSI-X state are reset, the report is written, the function is READY (a VF without
configuration UNCONFIGURED) and its PF sees VF_RESET. `us` is the duration the report carries. A drain that has completed everything
squashes here (log entry 104). -/
def execFunctionResetDone (f : Fn) (us : BitVec 32) (s : State) : Res :=
  .next <|
    let f := f.val
    let s := s.drained f
    match (s.fnRt f).reset with
    | none => s
    | some x =>
      let busy := (s.recsOf f none).any fun k => match Tab.find k s.led.recs with
        | some r => r.tag.isNone && r.voidCause = 0
        | none => false
      if x.drain || busy then s
      else
        let rt := s.fnRt f
        let sealed := (s.led.recs.filter fun y => y.2.fn = f && !y.2.completed && y.2.voidCause = 0).length
        let s := ((s.unbindAll f x.cause).disown f none).resetFnRegs f
        let rep : FnReport :=
          ⟨x.cause, x.mode, us.toNat, x.start, x.aborted, x.voids.length, x.silent + sealed + rt.discards, (sortVoids x.voids).take 252⟩
        let s := { s with host.report := Tab.put f rep s.host.report }
        let s := if isPf f then { s with host.dlog := Tab.keep (fun k (_ : DLog) => k / 8 ≠ portOf f) s.host.dlog } else s
        let s := (s.setFn f { rt with reset := none, save := none, msixEn := false, fmask := false, discards := 0 }).wr Reg.HIF_FN_HQD.OCC f 0
        let s := (s.setFnState f (s.rd Reg.HIF_FN_CFG.CONFIGURED f)).afterReset f x.cause
        let s := if isPf f then s else s.fnEvent (pfOf f) Reg.FN_EVENT.VF_RESET 9
        x.req.foldl (fun t y => t.complete y.1 y.2.1 y.2.2 Status.SUCCESS 0 0) s

/-! ### Queues (02, R54–R63) -/

/-- Active queues of a function. -/
def State.activeQueues (s : State) (f : Nat) : Nat := ((List.range 64).filter fun q => s.qActive f q).length

/-- Refuse an enable (02, R55). -/
def State.refuseQueue (s : State) (i code : Nat) : State := (s.wr Reg.QCTRL.EN i 0).wr Reg.QCTRL.FAULT i code

/-- QCTRL_ENABLE (02, R55, R56, R75): accepted while ACTIVE = 0; FAULT clears, then the enable is refused with a code or the queue starts
empty, its phase bit 1, its coalescing limits taken (0: settings 0x1020, 0x1021). -/
def execQctrlEnable (f : Fn) (q : Q) (v : BitVec 32) (s : State) : Res :=
  .next <|
    let f := f.val
    let i := qix f q.val
    if !s.fnExists f || s.qActive f q.val || !v.getLsbD 31 then s
    else
      let vec := v.toNat / 2 ^ 16 % 128
      let depth := v.toNat % 2 ^ 16
      let s := ((s.wr Reg.QCTRL.FAULT i 0).wr Reg.QCTRL.RPV i (v.toNat / 2 ^ 30 % 2)).wr Reg.QCTRL.VEC i vec
      let s := s.wr Reg.QCTRL.DEPTH i depth
      if s.fnState f ≠ 1 then s.refuseQueue i 6
      else if s.rd Reg.HIF_FN_CFG.QUOTA f ≤ s.activeQueues f then s.refuseQueue i 6
      else if depth = 1 then s.refuseQueue i 5
      else if 63 < vec then s.refuseQueue i 5
      else if (s.qrt f q.val).sqLow ≠ 0 ∨ (s.qrt f q.val).cqLow ≠ 0 then s.refuseQueue i 5
      else
        let count := s.rd Reg.QCOAL.COUNT i
        let time := s.rd Reg.QCOAL.TIME i
        let x : QRt := { QRt.empty with coalCount := if count = 0 then s.setting 0x1020 else count,
                                        coalTime := if time = 0 then s.setting 0x1021 else time }
        let s := ((s.wr Reg.QCTRL.EN i 1).wr Reg.QCTRL.ACTIVE i 1).setQ f q.val x
        (s.wr Reg.QSTATUS.SQHEAD i 0).wr Reg.QSTATUS.CQTAIL i 0

/-- QCTRL_DISABLE (02, R55, R61 steps 1 to 3): a write with EN = 0 of a running queue stops fetch, aborts the fetched entries and lets the
dispatched records drain; of a queue that is not active it clears FAULT. -/
def execQctrlDisable (f : Fn) (q : Q) (s : State) : Res :=
  .next <|
    let f := f.val
    let i := qix f q.val
    if !s.fnExists f then s
    else if !s.qActive f q.val then (s.wr Reg.QCTRL.FAULT i 0).wr Reg.QCTRL.EN i 0
    else if !s.isSet Reg.QCTRL.EN i then s
    else
      let s := (s.wr Reg.QCTRL.EN i 0).setQ f q.val { s.qrt f q.val with draining := true }
      s.abortFetched f q.val Status.ABORTED_BY_HOST

/-- Requests of a queue on other functions, a save or a reset that it asked for, end without a completion. -/
def State.dropRequests (s : State) (f q : Nat) : State :=
  { s with host.fn := Tab.mapVal (fun _ (x : FnRt) => { x with
      save := x.save.map fun v => if v.reqFn = f && v.reqQ = q then { v with reqFn := noFn } else v,
      reset := x.reset.map fun v => { v with req := v.req.filter fun y => !(y.1 = f && y.2.1 = q) } }) s.host.fn }

/-- QUEUE_DISABLE_DONE (02, R60, R61 steps 4 to 6): once the queue's commands are completed or its drain window has passed, unsealed records
are void, its ledgers are unbound with cause 6, ACTIVE reads 0, its fault is cleared and QIDLE is set. -/
def execQueueDisableDone (f : Fn) (q : Q) (s : State) : Res :=
  .next <|
    let f := f.val
    let i := qix f q.val
    let x := s.qrt f q.val
    if !x.draining || (!x.expired && s.openCmds f q.val) then s
    else
      let s := (s.recsOf f (some q.val)).foldl (fun t k => t.voidRecord (keyLedger k) (keySeq k) 7 false) s
      let s := (s.dropWork f (some q.val)).dropRequests f q.val
      let s := ((s.boundTo f (some q.val)).foldl (fun t l => t.unbind l 6) s).disown f (some q.val)
      let s := ((s.hqdReturn f q.val x.credits).wr Reg.QCTRL.ACTIVE i 0).wr Reg.QCTRL.FAULT i 0
      let s := (s.wrBit Reg.FN_QFAULT.Q f q.val false).setQ f q.val QRt.empty
      s.fnEvent f Reg.FN_EVENT.QIDLE 3

/-- FN_SQT_WRITE (02, R57): a tail below the depth is taken; another faults the queue with 1; ignored unless the queue runs. -/
def execFnSqtWrite (f : Fn) (q : Q) (v : BitVec 32) (s : State) : Res :=
  .next <|
    let t := v.toNat % 65536
    if !s.fnExists f.val || !s.qActive f.val q.val || !s.isSet Reg.QCTRL.EN (qix f.val q.val) then s
    else if t < s.qDepth f.val q.val then s.setQ f.val q.val { s.qrt f.val q.val with sqTail := t }
    else s.queueFault f.val q.val 1

/-- FN_CQH_WRITE (02, R57, R59): a head below the depth and not past the tail releases slots, and held completions post; another faults
the queue with 2. -/
def execFnCqhWrite (f : Fn) (q : Q) (v : BitVec 32) (s : State) : Res :=
  .next <|
    let f := f.val
    let q := q.val
    let h := v.toNat % 65536
    let d := s.qDepth f q
    if !s.fnExists f || !s.qActive f q then s
    else if h < d && (h + d - (s.qrt f q).cqHead) % d ≤ s.cqUsed f q then
      let s := s.setQ f q { s.qrt f q with cqHead := h }
      s.postHeld f q (s.qrt f q).held.length
    else s.queueFault f q 2

/-- Read `n` entries of a queue's ring from slot `at_` (02, R62): in two reads where they pass the ring's end. -/
def State.ringRead (s : State) (f q at_ n : Nat) : State :=
  let base := s.rd Reg.QSQ_BASE.ADDR (qix f q) * 64
  let k := min n (s.qDepth f q - at_)
  let s := s.send (.hostRead f (base + at_ * 64) (k * 64))
  if k = n then s else s.send (.hostRead f base ((n - k) * 64))

/-- SQ_FETCH (02, R60, R62, R47, R90): a burst of `n` entries, at most setting 0x1004, while entries are available beyond the bursts on their way
and the function holds HQD credit for each. -/
def execSqFetch (f : Fn) (q : Q) (n : Fin 9) (s : State) : Res :=
  .next <|
    let f := f.val
    let q := q.val
    let i := qix f q
    let x := s.qrt f q
    let d := s.qDepth f q
    let at_ := (s.rd Reg.QSTATUS.SQHEAD i + x.inFetch.sum) % d
    let avail := (x.sqTail + d - at_) % d
    if n.val ≠ 0 ∧ n.val ≤ s.setting 0x1004 ∧ n.val ≤ avail ∧ s.qActive f q ∧ s.isSet Reg.QCTRL.EN i ∧
        s.rd Reg.QCTRL.FAULT i = 0 ∧ s.fnExists f ∧ s.fnState f = 1 ∧ !(s.fnRt f).d3 ∧ (s.fnRt f).save.isNone ∧ s.served f q ∧ s.aon.move.isNone ∧
        s.rd Reg.HIF_FN_HQD.OCC f + n.val ≤ s.rd Reg.HIF_FN_HQD.POOL f then
      let s := (s.addWrap Reg.HIF_FN_HQD.OCC f n.val).setQ f q { x with inFetch := x.inFetch ++ [n.val], credits := x.credits + n.val }
      s.ringRead f q at_ n.val
    else s

/-- The maximum LENGTH of an opcode (02, R642), none where it has none. -/
def maxLength (opc : Nat) : Option Nat :=
  if opc = 1 ∨ opc = 2 then some 1048576 else if opc = 3 then some 32768 else if opc = 4 then some 16
  else if opc = 5 ∨ opc = 6 ∨ opc = 9 then some 0 else if opc = 7 ∨ opc = 8 then some 65536 else if opc = 0x0A then none
  else if opc = 0x0B then some 4096 else if opc = 0x80 ∨ opc = 0x81 ∨ opc = 0x82 ∨ opc = 0x83 ∨ opc = 0x89 then some 0
  else if opc = 0x8A ∨ opc = 0x8F then none else if opc = 0x84 ∨ opc = 0x8E then some 65536 else if opc = 0x85 then some 16384
  else if opc = 0x86 then some 4096 else if opc = 0x87 then some 1048576 else if opc = 0x88 then some 2048
  else if opc = 0x8B ∨ opc = 0x8C then some 16384 else if opc = 0x8D then some 5184 else some 1048576

/-- The first of the checks 1 to 7 of R66 that an entry of a queue fails: its status. -/
def State.entryFault (s : State) (f q : Nat) (e : Entry) : Option Nat :=
  let opc := e.opc.toNat
  let admin := 0x80 ≤ opc && opc ≤ 0x8F
  let io := 1 ≤ opc && opc ≤ 0x0B
  let policy := 0xC0 ≤ opc
  let w := s.rd Reg.HIF_FN_PASID.WIDTH f
  let base := s.rd Reg.HIF_FN_PASID.BASE f
  if admin && !isPf f then some Status.NOT_AUTHORISED
  else if !(admin || io || policy) || (admin && q ≠ 0) || (io && isPf f && q = 0) then some Status.OPCODE_INVALID
  else if e.rsv1 ≠ 0 ∨ e.rsv8 ≠ 0 ∨ e.rsv20 ≠ 0 then some Status.FIELD_INVALID
  else if e.pv && !(s.pfCfg (portOf f)).pasidEn then some Status.FIELD_INVALID
  else if (e.pv && !(base ≤ e.pasid.toNat && e.pasid.toNat < base + 2 ^ w)) || (!e.pv && s.isSet Reg.HIF_FN_PASID.REQUIRE f) then
    some Status.NOT_AUTHORISED
  else if (match maxLength opc with | some m => decide (m < e.length.toNat) | none => false) then some Status.LENGTH_RANGE
  else if 256 < e.sgcount.toNat ∨ (e.sgcount.toNat = 0 ∧ e.length.toNat ≠ 0) then some Status.FIELD_INVALID
  else none

/-- End the entries at the front of a queue's line whose turn it is to end with a status of their own; at most `n`. -/
def State.sweep (s : State) (f q : Nat) : Nat → State
  | 0 => s
  | n + 1 =>
    match (s.qrt f q).fetched with
    | x :: _ =>
      match x.bad with
      | some st => ((s.popFront f q).complete f q x.e.cid.toNat st 0 0).sweep f q n
      | none => s
    | [] => s

/-- Take one fetched entry in line for dispatch (02, R33, R66): one that a check fails is completed in its turn (log entry 105). -/
def State.takeEntry (s : State) (f q : Nat) (e : Entry) : State :=
  let bad := s.entryFault f q e
  let one := e.sgcount.toNat ≤ 1 || bad.isSome
  let x : FEntry := ⟨e, one, if e.sgcount.toNat = 1 then [(e.dptr.toNat, e.length.toNat)] else [], bad⟩
  (s.setQ f q { s.qrt f q with fetched := (s.qrt f q).fetched ++ [x] }).sweep f q 1

/-- A ring fetch fails (02, R60): fault 3; the credits of the entries on their way return. -/
def State.fetchFail (s : State) (f q : Nat) (how : LinkEnd) : State :=
  let x := s.qrt f q
  let s := ((s.linkError (portOf f) how).setQ f q { x with inFetch := [] }).hqdReturn f q x.inFetch.sum
  s.queueFault f q 3

/-- The head shadow is written (02, R58). -/
def State.writeShadow (s : State) (f q : Nat) : State :=
  let i := qix f q
  let a := s.rd Reg.QSHADOW.ADDR i
  if a = 0 then s
  else ((s.dlogWrite f (a * 8) 8).addWrap Reg.HIF_PORT_WR_BYTES.BYTES (portOf f) 8).send (.shadow f q (s.rd Reg.QSTATUS.SQHEAD i))

/-- SQ_FETCH_COMPLETE (02, R58, R60, R66): the oldest burst arrives: the head moves, its shadow is written, and the entries are checked in order; an error faults the
queue. It waits while the function is in D3hot (R47). Entries that arrive for a queue whose fetch has been stopped are discarded (R83 step 2). -/
def execSqFetchComplete (f : Fn) (q : Q) (r : FetchEnd) (s : State) : Res :=
  .next <|
    let f := f.val
    let q := q.val
    let i := qix f q
    let x := s.qrt f q
    if (s.fnRt f).d3 then s
    else match x.inFetch with
    | [] => s
    | n :: rest => match r with
      | .error how => s.fetchFail f q how
      | .entries es =>
        if es.length ≠ n then s
        else
          let s := (s.addWrap Reg.HIF_PORT_RD_BYTES.BYTES (portOf f) (64 * es.length)).setQ f q { x with inFetch := rest }
          let s := s.wr Reg.QSTATUS.SQHEAD i ((s.rd Reg.QSTATUS.SQHEAD i + es.length) % s.qDepth f q)
          let s := s.writeShadow f q
          if x.draining then es.foldl (fun t e => t.complete f q e.cid.toNat Status.ABORTED_BY_HOST 0 0) s
          else es.foldl (fun t e => t.takeEntry f q e) s

/-- The scatter list is well formed for a LENGTH (02, R66 check 9, R68). -/
def sgWellFormed (es : List SgElem) (len : Nat) : Bool :=
  es.all (fun e => e.len ≠ 0 && decide (e.len.toNat ≤ 1048576) && e.rsv = 0) && (es.map fun e => e.len.toNat).sum = len

/-- Replace the first entry whose list is still to be read, by what it becomes. -/
def markSg (l : List FEntry) (f : FEntry → FEntry) : List FEntry :=
  match l with
  | [] => []
  | x :: r => if x.sgOk then x :: markSg r f else f { x with sgOk := true } :: r

/-- The list of the queue's first entry that needs one fails with a status (02, R66 checks 8 and 9): the entry ends in its turn. -/
def State.sgFail (s : State) (f q st : Nat) : State :=
  (s.setQ f q { s.qrt f q with fetched := markSg (s.qrt f q).fetched fun x => { x with bad := some st } }).sweep f q 1

/-- SCATTER_LIST_FETCH (02, R66 checks 8 and 9, R69): the list of the queue's first entry that needs one. -/
def execScatterListFetch (f : Fn) (q : Q) (r : SgEnd) (s : State) : Res :=
  .next <|
    let f := f.val
    let q := q.val
    let x := s.qrt f q
    match x.fetched.find? fun y => !y.sgOk with
    | none => s
    | some y =>
      match r with
      | .error how => (s.linkError (portOf f) how).sgFail f q Status.BUFFER_FAULT
      | .elems es =>
        let s := s.addWrap Reg.HIF_PORT_RD_BYTES.BYTES (portOf f) (16 * es.length)
        if es.length = y.e.sgcount.toNat && sgWellFormed es y.e.length.toNat then
          s.setQ f q { s.qrt f q with fetched := markSg x.fetched fun z => { z with sg := es.map fun e => (e.addr.toNat, e.len.toNat) } }
        else s.sgFail f q Status.FIELD_INVALID

/-- PAYLOAD_SEGMENT_ARRIVE (01, R18; 04, R149): the next 8 KiB segment of a record's payload, or its rest, enters staging; the first one
puts the descriptor in its group's write queue; at most two segments are read ahead of the lane. -/
def execPayloadSegmentArrive (l : BitVec 16) (n : BitVec 64) (data : List (BitVec 8)) (s : State) : Res :=
  .next <|
    let l := l.toNat
    let n := n.toNat
    match s.rec? l n with
    | none => s
    | some r =>
      if r.voidCause ≠ 0 ∨ r.tag.isSome ∨ r.length ≤ r.data.length ∨ data.length ≠ min 8192 (r.length - r.data.length) ∨
          r.asked < r.data.length + data.length then s
      else
        let s := (s.addWrap Reg.HIF_PORT_RD_BYTES.BYTES (portOf r.fn) data.length).setRec l n { r with data := r.data ++ data }
        (if r.data = [] then { s with lane.wq := s.lane.wq ++ [recKey l n] } else s).askPayload l n

/-- A payload read of a record fails (02, R70): void with cause 2. -/
def State.payloadFail (s : State) (l n : Nat) (how : LinkEnd) : State :=
  match s.rec? l n with
  | some r => if r.data.length < r.length && r.tag.isNone && r.voidCause = 0 then (s.linkError (portOf r.fn) how).voidRecord l n 2 true else s
  | none => s

/-- PAYLOAD_READ_FAIL (02, R70). -/
def execPayloadReadFail (l : BitVec 16) (n : BitVec 64) (how : LinkEnd) (s : State) : Res :=
  .next <| if how = .ok then s else s.payloadFail l.toNat n.toNat how

/-- HOST_READ_TIMEOUT (02, R643, R60, R70): as the failure of the read that timed out. -/
def execHostReadTimeout (r : HostRead) (s : State) : Res :=
  .next <| match r with
    | .payload l n => s.payloadFail l.toNat n.toNat .timeout
    | .ring f q => if (s.qrt f.val q.val).inFetch = [] then s else s.fetchFail f.val q.val .timeout
    | .scatter f q =>
      match (s.qrt f.val q.val).fetched.find? fun y => !y.sgOk with
      | none => s
      | some _ => (s.linkError (portOf f.val) .timeout).sgFail f.val q.val Status.BUFFER_FAULT

/-- CQ_COAL_TIMER (02, R75): completions counted since the last interrupt raise one. -/
def execCqCoalTimer (f : Fn) (q : Q) (s : State) : Res :=
  .next <|
    let x := s.qrt f.val q.val
    if x.coal = 0 || !s.qActive f.val q.val then s
    else (s.setQ f.val q.val { x with coal := 0 }).msix f.val (s.rd Reg.QCTRL.VEC (qix f.val q.val))

/-- The FN_EVENT fields by bit (02, R96). -/
def fnEvents : List Fld :=
  [Reg.FN_EVENT.MBX_IN, Reg.FN_EVENT.MBX_ACK, Reg.FN_EVENT.QFAULT, Reg.FN_EVENT.QIDLE, Reg.FN_EVENT.EPOCH, Reg.FN_EVENT.POWER,
    Reg.FN_EVENT.LOCK, Reg.FN_EVENT.DLOG, Reg.FN_EVENT.VF_MBX, Reg.FN_EVENT.VF_RESET]

/-- FN_EVENT_EN_WRITE (02, R74): a message on vector 64 if an enable bit is set whose event bit is already 1. -/
def execFnEventEnWrite (f : Fn) (v : BitVec 32) (s : State) : Res :=
  .next <| if !s.fnExists f.val then s
  else
    let old := s.rd Reg.FN_EVENT_EN.EN f.val
    let new := v.toNat % 1024
    let hit := (List.range 10).any fun b => new.testBit b && !old.testBit b && s.isSet (fnEvents.getD b Reg.FN_EVENT.MBX_IN) f.val
    let s := s.wr Reg.FN_EVENT_EN.EN f.val new
    if hit then s.msix f.val 64 else s

/-! ### Mailboxes (02, R78–R80): of the functions that exist -/

/-- MBX_POST (02, R79, R80): the message crosses; OUT_FULL and IN_FULL are set and the receiver's event raised; no effect while OUT_FULL. -/
def execMbxPost (f : Fn) (peer : Bool) (s : State) : Res :=
  .next <|
    let f := f.val
    if !s.fnExists f then s
    else if peer then
      if s.isSet Reg.MBX_STATUS.IN_FULL f then s else (s.wr Reg.MBX_STATUS.IN_FULL f 1).fnEvent f Reg.FN_EVENT.MBX_IN 0
    else if s.isSet Reg.MBX_STATUS.OUT_FULL f then s
    else if isPf f then s.riseOf (portOf f) (s.wr Reg.MBX_STATUS.OUT_FULL f 1)
    else (s.wr Reg.MBX_STATUS.OUT_FULL f 1).fnEvent (pfOf f) Reg.FN_EVENT.VF_MBX 8

/-- MBX_ACK (02, R79): both flags clear and the sender sees MBX_ACK (policy firmware sees its flag fall). -/
def execMbxAck (f : Fn) (peer : Bool) (s : State) : Res :=
  .next <|
    let f := f.val
    if !s.fnExists f then s
    else if peer then
      if s.isSet Reg.MBX_STATUS.OUT_FULL f then (s.wr Reg.MBX_STATUS.OUT_FULL f 0).fnEvent f Reg.FN_EVENT.MBX_ACK 1 else s
    else if s.isSet Reg.MBX_STATUS.IN_FULL f then
      let s := s.wr Reg.MBX_STATUS.IN_FULL f 0
      if isPf f then s else s.fnEvent (pfOf f) Reg.FN_EVENT.MBX_ACK 1
    else s

/-- MBX_OUT_WRITE (02, R80): a word of the outgoing message, or OVERRUN while it is full. -/
def execMbxOutWrite (f : Fn) (peer : Bool) (n : Fin 16) (v : BitVec 32) (s : State) : Res :=
  .next <|
    let f := f.val
    if !s.fnExists f then s
    else if peer then
      if s.isSet Reg.MBX_STATUS.IN_FULL f then s.wr Reg.PEER_STATUS.OVERRUN f 1 else s.wr Reg.MBX_IN.DATA (f * 16 + n.val) v.toNat
    else if s.isSet Reg.MBX_STATUS.OUT_FULL f then s.wr Reg.MBX_STATUS.OVERRUN f 1
    else s.wr Reg.MBX_OUT.DATA (f * 16 + n.val) v.toNat

/-! ### Dirty logs (02, R87–R89, R94) -/

/-- FN of an admin command of this chapter, bytes 34–35 (02, R94). -/
def entryFn (e : Entry) : Nat := e.bytes 34 2

/-- The status with which a command naming a function ends where it may not (02, R49, R94): a function that does not exist, or that is not
the issuing PF or one of its VFs. -/
def State.fnRefused (s : State) (pf g : Nat) : Option Nat :=
  if !s.fnExists g then some Status.FIELD_INVALID
  else if pfOf g ≠ pf then some Status.NOT_AUTHORISED
  else none

/-- The same for an entry, before its SUBOP is looked at. -/
def State.fnPre (s : State) (pf : Nat) (x : FEntry) : Option (Nat × Nat) := (s.fnRefused pf (entryFn x.e)).map fun st => (st, 0)

/-- End an entry with a status and no results. -/
def State.fail (s : State) (f q : Nat) (x : FEntry) (st : Nat) : State := s.complete f q x.e.cid.toNat st 0 0

/-- DIRTY_LOG_START (02, R87, R94). -/
def execDirtyLogStart (f : Fn) (q : Q) (s : State) : Res :=
  .next <| s.subCmd f.val q.val 0x8A 1 3 (s.fnPre f.val) fun x s =>
    let g := entryFn x.e
    let slot := x.e.bytes 33 1
    let e := x.e.bytes 36 1
    let key := portOf f.val * 8 + slot
    match s.fnRefused f.val g with
    | some st => s.fail f.val q.val x st
    | none =>
      if !onlyBytes x.e [(32, 5)] ∨ isPf g ∨ 7 < slot ∨ e < 9 ∨ 20 < e ∨ x.e.dptr.toNat % 4096 ≠ 0 ∨ (Tab.find key s.host.dlog).isSome then
        s.fail f.val q.val x Status.FIELD_INVALID
      else
        let i := f.val * 8 + slot
        let s := { s with host.dlog := Tab.put key ⟨g, x.e.dptr.toNat, e, true, []⟩ s.host.dlog }
        let s := ((s.wr Reg.FN_DLOG_STATUS.ACTIVE i 1).wr Reg.FN_DLOG_STATUS.TAIL i 0).wr Reg.FN_DLOG_STATUS.OVERFLOW i 0
        (s.wr Reg.FN_DLOG_HEAD.HEAD i 0).fail f.val q.val x Status.SUCCESS

/-- A slot does not log this function. -/
def State.slotIdle (s : State) (key g : Nat) : Bool :=
  match Tab.find key s.host.dlog with
  | some d => d.fn != g
  | none => true

/-- DIRTY_LOG_SYNC (02, R89, R94): every write before it has its page in the ring, so it completes; an idle slot gives FIELD_INVALID. -/
def execDirtyLogSync (f : Fn) (q : Q) (s : State) : Res :=
  .next <| s.subCmd f.val q.val 0x8A 2 3 (s.fnPre f.val) fun x s =>
    let g := entryFn x.e
    let slot := x.e.bytes 33 1
    match s.fnRefused f.val g with
    | some st => s.fail f.val q.val x st
    | none =>
      if !onlyBytes x.e [(32, 4)] ∨ 7 < slot ∨ s.slotIdle (portOf f.val * 8 + slot) g then
        s.fail f.val q.val x Status.FIELD_INVALID
      else s.fail f.val q.val x Status.SUCCESS

/-- DIRTY_LOG_STOP (02, R88, R89, R94): logging ends, the slot is free, the overflow flag clears. -/
def execDirtyLogStop (f : Fn) (q : Q) (s : State) : Res :=
  .next <| s.subCmd f.val q.val 0x8A 3 3 (s.fnPre f.val) fun x s =>
    let g := entryFn x.e
    let slot := x.e.bytes 33 1
    let key := portOf f.val * 8 + slot
    match s.fnRefused f.val g with
    | some st => s.fail f.val q.val x st
    | none =>
      if !onlyBytes x.e [(32, 4)] ∨ 7 < slot ∨ s.slotIdle key g then
        s.fail f.val q.val x Status.FIELD_INVALID
      else
        let i := f.val * 8 + slot
        let s := { s with host.dlog := Tab.del key s.host.dlog }
        ((s.wr Reg.FN_DLOG_STATUS.ACTIVE i 0).wr Reg.FN_DLOG_STATUS.OVERFLOW i 0).fail f.val q.val x Status.SUCCESS

/-- FN_DLOG_HEAD_WRITE (02, R88): a PF's next unconsumed entry; a VF window holds no such register. -/
def execFnDlogHeadWrite (f : Fn) (slot : Fin 8) (v : BitVec 32) (s : State) : Res :=
  .next <| if isPf f.val then s.wr Reg.FN_DLOG_HEAD.HEAD (f.val * 8 + slot.val) v.toNat else s

/-! ### Moving a virtual function (02, R90–R93) -/

/-- The blob of a VF as it stands (02, R90 step 3, R91): each enabled queue's head is rewound to its first undispatched entry. -/
def State.makeBlob (s : State) (g counter : Nat) : Blob :=
  let qs := (List.range 64).filter fun q => s.qActive g q
  { fn := g, tenant := s.rd Reg.HIF_FN_CFG.TENANT g, quota := s.rd Reg.HIF_FN_CFG.QUOTA g, weight := s.rd Reg.HIF_FN_CFG.WEIGHT g,
    pasidW := s.rd Reg.HIF_FN_PASID.WIDTH g, pasidBase := s.rd Reg.HIF_FN_PASID.BASE g, pasidReq := s.rd Reg.HIF_FN_PASID.REQUIRE g,
    queues := qs.map fun q =>
      let i := qix g q
      let x := s.qrt g q
      let d := s.qDepth g q
      { q := q, sqBase := s.rd Reg.QSQ_BASE.ADDR i, cqBase := s.rd Reg.QCQ_BASE.ADDR i, shadow := s.rd Reg.QSHADOW.ADDR i,
        rpv := s.rd Reg.QCTRL.RPV i, vec := s.rd Reg.QCTRL.VEC i, depth := s.rd Reg.QCTRL.DEPTH i,
        coalReg := s.rd Reg.QCOAL.TIME i * 65536 + s.rd Reg.QCOAL.COUNT i,
        sqHead := (s.rd Reg.QSTATUS.SQHEAD i + d - x.fetched.length % d) % d, cqTail := s.rd Reg.QSTATUS.CQTAIL i, fault := s.rd Reg.QCTRL.FAULT i,
        rt := { x with fetched := [], inFetch := [], credits := 0 } },
    vectors := (List.range 65).map fun v => let y := s.vec g v; (v, y.addr, y.data, y.mask, y.pending),
    mbxOut := (List.range 16).map fun n => s.rd Reg.MBX_OUT.DATA (g * 16 + n),
    mbxIn := (List.range 16).map fun n => s.rd Reg.MBX_IN.DATA (g * 16 + n),
    mbxFlags := s.rd Reg.MBX_STATUS.OUT_FULL g + 2 * s.rd Reg.MBX_STATUS.IN_FULL g,
    ledgers := (s.boundTo g none).map fun l => (l, (s.ledger l).q), counter := counter }

/-- The end of a save's drain (02, R90 steps 3 and 4): once every dispatched command of the VF is completed, the blob is written and the VF is
SAVED. -/
def State.finishSave (s : State) (g : Nat) : State :=
  match (s.fnRt g).save with
  | none => s
  | some v =>
    if s.openFn g || (s.fnRt v.reqFn).d3 then s
    else
      let c := (s.fnRt g).saveCounter + 1
      let b := s.makeBlob g c
      let s := { s with host.blobs := Tab.put g b s.host.blobs,
                        host.q := Tab.mapVal (fun k (x : QRt) => if k / 64 = g then { x with fetched := [], inFetch := [], credits := 0 } else x) s.host.q }
      let s := (s.wr Reg.HIF_FN_HQD.OCC g 0).setFn g { s.fnRt g with save := none, saveCounter := c, blobValid := true }
      let s := s.setFnState g 3
      (if s.fnLive v.reqFn then s.hostWrite v.reqFn v.dptr 16384 [] else s).complete v.reqFn v.reqQ v.cid Status.SUCCESS 0 0

/-- POST_COMPLETION (01, R22): the completion of a ledger's first uncompleted record, once it meets the ledger's completion mode; `how` its
write ends (02, R60). A save or a drain that waited for it goes on. -/
def execPostCompletion (l : BitVec 16) (how : LinkEnd) (s : State) : Res :=
  .next <|
    let f := match s.rec? l.toNat (s.ledger l.toNat).uncompleted with | some r => r.fn | none => noFn
    ((s.completeHead l.toNat how).finishSave f).drained f

/-- VF_STATE_SAVE (02, R90, R93, R94): fetch on the VF stops and its dispatched records run to completion; with none open the blob is written
at once. -/
def execVfStateSave (f : Fn) (q : Q) (s : State) : Res :=
  .next <| s.hostCmd f.val q.val 0x8B fun x s =>
    let g := entryFn x.e
    match s.fnRefused f.val g with
    | some st => s.fail f.val q.val x st
    | none =>
      if !onlyBytes x.e [(34, 2)] ∨ isPf g ∨ x.e.length.toNat < 16384 ∨ x.e.sgcount.toNat ≠ 1 then s.fail f.val q.val x Status.FIELD_INVALID
      else if s.fnState g = 2 ∨ s.fnState g = 3 ∨ (s.fnRt g).save.isSome then s.fail f.val q.val x Status.BUSY_RETRY
      else if s.fnState g ≠ 1 then s.fail f.val q.val x Status.FIELD_INVALID
      else (s.setFn g { s.fnRt g with save := some ⟨f.val, q.val, x.e.cid.toNat, x.e.dptr.toNat⟩ }).finishSave g

/-- The queues of all existing functions (02, R54). -/
def State.quotaSum (s : State) : Nat := (s.functions.map fun g => s.rd Reg.HIF_FN_CFG.QUOTA g).sum

/-- Install a blob's queue on a target (02, R91, R92). -/
def State.installQueue (s : State) (g : Nat) (b : SavedQueue) : State :=
  let i := qix g b.q
  let s := ((s.wr Reg.QSQ_BASE.ADDR i b.sqBase).wr Reg.QCQ_BASE.ADDR i b.cqBase).wr Reg.QSHADOW.ADDR i b.shadow
  let s := ((s.wr Reg.QCTRL.RPV i b.rpv).wr Reg.QCTRL.VEC i b.vec).wr Reg.QCTRL.DEPTH i b.depth
  let s := ((s.wr Reg.QCOAL.TIME i (b.coalReg / 65536)).wr Reg.QCOAL.COUNT i (b.coalReg % 65536)).wr Reg.QSTATUS.SQHEAD i b.sqHead
  let s := ((s.wr Reg.QCTRL.EN i (if b.rt.draining then 0 else 1)).wr Reg.QCTRL.ACTIVE i 1).wr Reg.QSTATUS.CQTAIL i b.cqTail
  ((s.wr Reg.QCTRL.FAULT i b.fault).wrBit Reg.FN_QFAULT.Q g b.q (b.fault ≠ 0)).setQ g b.q b.rt

/-- Install a blob on a target VF (02, R92): the ledgers still bound to the source go with it; a source that is still SAVED is UNCONFIGURED. -/
def State.installBlob (s : State) (g src : Nat) (b : Blob) : State :=
  let s := (s.wr Reg.HIF_FN_CFG.CONFIGURED g 1).wr Reg.HIF_FN_CFG.QUOTA g b.quota
  let s := (s.wr Reg.HIF_FN_CFG.WEIGHT g b.weight).wr Reg.HIF_FN_CFG.TENANT g b.tenant
  let s := ((s.wr Reg.HIF_FN_PASID.WIDTH g b.pasidW).wr Reg.HIF_FN_PASID.BASE g b.pasidBase).wr Reg.HIF_FN_PASID.REQUIRE g b.pasidReq
  let s := b.queues.foldl (fun t x => t.installQueue g x) s
  let s := b.vectors.foldl (fun t x => t.setVec g x.1 ⟨x.2.1, x.2.2.1, x.2.2.2.1, x.2.2.2.2⟩) s
  let s := (List.range 16).foldl (fun t n => (t.wr Reg.MBX_OUT.DATA (g * 16 + n) (b.mbxOut.getD n 0)).wr Reg.MBX_IN.DATA (g * 16 + n)
    (b.mbxIn.getD n 0)) s
  let s := (s.wr Reg.MBX_STATUS.OUT_FULL g (b.mbxFlags % 2)).wr Reg.MBX_STATUS.IN_FULL g (b.mbxFlags / 2)
  let s := b.ledgers.foldl (fun t x =>
    let y := t.ledger x.1
    if (y.st = .bound || y.st = .closing) && y.fn = src && y.q = x.2 then t.setLedger x.1 { y with fn := g } else t) s
  let s := (s.setFn src { s.fnRt src with blobValid := false }).setFnState g 1
  if src = g || !(s.fnExists src && s.fnState src = 3) then s else (s.clearVf src).resetFnRegs src

/-- VF_STATE_RESTORE (02, R92, R94): the blob the host gives names its source and save counter; `gmacOk` says whether its GMAC verifies. -/
def execVfStateRestore (f : Fn) (q : Q) (src : Fn) (counter : BitVec 64) (gmacOk : Bool) (s : State) : Res :=
  .next <| s.hostCmd f.val q.val 0x8C fun x s =>
    let g := entryFn x.e
    match s.fnRefused f.val g with
    | some st => s.fail f.val q.val x st
    | none =>
      if !onlyBytes x.e [(34, 2)] ∨ x.e.length.toNat < 16384 ∨ x.e.sgcount.toNat ≠ 1 ∨ isPf g then s.fail f.val q.val x Status.FIELD_INVALID
      else if s.fnState g = 2 then s.fail f.val q.val x Status.ABORTED_BY_RESET
      else match Tab.find src.val s.host.blobs with
        | none => s.fail f.val q.val x Status.NOT_AUTHORISED
        | some b =>
          if !gmacOk || b.counter ≠ counter.toNat || !(s.fnRt src.val).blobValid then s.fail f.val q.val x Status.NOT_AUTHORISED
          else if !((g = src.val ∧ s.fnState g = 3) ∨ s.fnState g = 0) then s.fail f.val q.val x Status.FIELD_INVALID
          else
            let left := if g ≠ src.val ∧ s.fnExists src.val ∧ s.fnState src.val = 3 then s.rd Reg.HIF_FN_CFG.QUOTA src.val else 0
            if 64 < b.queues.length ∨ 4096 < s.quotaSum - s.rd Reg.HIF_FN_CFG.QUOTA g - left + b.quota then s.fail f.val q.val x Status.FIELD_INVALID
            else (s.installBlob g src.val b).fail f.val q.val x Status.SUCCESS

/-- DRAIN_WINDOW_EXPIRE (02, R61, R82, R90): a drain reset goes on as a squash; a queue disable's unsealed records become void; a save ends
with BUSY_RETRY and fetch resumes, unless nothing of the VF is left open (log entry 104). -/
def execDrainWindowExpire (w : DrainOf) (s : State) : Res :=
  .next <| match w with
    | .functionReset f => (match (s.fnRt f.val).reset with | some x => if x.drain then s.squash f.val else s | none => s)
    | .queueDisable f q =>
      let x := s.qrt f.val q.val
      if x.draining then
        (s.recsOf f.val (some q.val)).foldl (fun t k => t.voidRecord (keyLedger k) (keySeq k) 7 true)
          (s.setQ f.val q.val { x with expired := true })
      else s
    | .vfSave f =>
      match (s.fnRt f.val).save with
      | some v => if !s.openFn f.val then s.finishSave f.val else (s.setFn f.val { s.fnRt f.val with save := none }).complete v.reqFn v.reqQ v.cid Status.BUSY_RETRY 0 0
      | none => s

/-! ### FUNCTION_CONTROL (02, R94) -/

/-- The sum of the HQD pools of all existing functions (01, R28). -/
def State.hqdSum (s : State) : Nat := (s.functions.map fun g => s.rd Reg.HIF_FN_HQD.POOL g).sum

/-- FUNCTION_CONFIGURE (02, R94, R50, R51; 01, R28). -/
def execFunctionConfigure (f : Fn) (q : Q) (s : State) : Res :=
  .next <| s.subCmd f.val q.val 0x83 1 4 (s.fnPre f.val) fun x s =>
    let g := entryFn x.e
    let tenant := x.e.bytes 36 1
    let quota := x.e.bytes 37 1
    let weight := if x.e.bytes 38 1 = 0 then s.setting 0x1022 else x.e.bytes 38 1
    let w := x.e.bytes 39 1 % 32
    let req := x.e.bytes 39 1 / 128
    let base := x.e.bytes 40 4
    let hqd := if x.e.bytes 44 2 = 0 then s.setting 0x1010 else x.e.bytes 44 2
    match s.fnRefused f.val g with
    | some st => s.fail f.val q.val x st
    | none =>
      if s.fnState g = 2 then s.fail f.val q.val x Status.BUSY_RETRY
      else if !onlyBytes x.e [(32, 1), (34, 12)] ∨ (s.tenant tenant).st = 0 ∨ 64 < quota ∨ quota < s.activeQueues g ∨
          x.e.bytes 39 1 / 32 % 4 ≠ 0 ∨ 20 < w ∨ 2 ^ 20 ≤ base ∨ base % 2 ^ w ≠ 0 ∨ hqd < 4 ∨ 256 < hqd ∨ s.fnState g = 3 ∨
          (tenant ≠ s.rd Reg.HIF_FN_CFG.TENANT g ∧ s.activeQueues g ≠ 0) ∨
          4096 < s.quotaSum - s.rd Reg.HIF_FN_CFG.QUOTA g + quota ∨ 8192 < s.hqdSum - s.rd Reg.HIF_FN_HQD.POOL g + hqd then
        s.fail f.val q.val x Status.FIELD_INVALID
      else
        let s := (s.wr Reg.HIF_FN_CFG.CONFIGURED g 1).wr Reg.HIF_FN_CFG.QUOTA g quota
        let s := ((s.wr Reg.HIF_FN_CFG.WEIGHT g weight).wr Reg.HIF_FN_CFG.TENANT g tenant).wr Reg.HIF_FN_HQD.POOL g hqd
        let s := ((s.wr Reg.HIF_FN_PASID.WIDTH g w).wr Reg.HIF_FN_PASID.BASE g base).wr Reg.HIF_FN_PASID.REQUIRE g req
        (s.setFnState g 1).fail f.val q.val x Status.SUCCESS

/-- FUNCTION_RESET (02, R81, R94): a VF's completes at its step 7; a PF's own posts no completion. -/
def execFunctionReset (f : Fn) (q : Q) (s : State) : Res :=
  .next <| s.subCmd f.val q.val 0x83 2 4 (s.fnPre f.val) fun x s =>
    let g := entryFn x.e
    let mode := x.e.bytes 33 1
    match s.fnRefused f.val g with
    | some st => s.fail f.val q.val x st
    | none =>
      if !onlyBytes x.e [(32, 4)] ∨ 1 < mode ∨ s.fnState g = 3 then s.fail f.val q.val x Status.FIELD_INVALID
      else if g = f.val then (s.hqdReturn f.val q.val 1).startReset g 2 mode []
      else s.startReset g 2 mode [(f.val, q.val, x.e.cid.toNat)]

/-- FUNCTION_DISCARD (02, R94, R51): a SAVED VF's blob is invalidated, its ledgers unbound, and it is UNCONFIGURED. -/
def execFunctionDiscard (f : Fn) (q : Q) (s : State) : Res :=
  .next <| s.subCmd f.val q.val 0x83 3 4 (s.fnPre f.val) fun x s =>
    let g := entryFn x.e
    match s.fnRefused f.val g with
    | some st => s.fail f.val q.val x st
    | none =>
      if s.fnState g = 2 then s.fail f.val q.val x Status.BUSY_RETRY
      else if !onlyBytes x.e [(32, 1), (34, 2)] ∨ s.fnState g ≠ 3 then s.fail f.val q.val x Status.FIELD_INVALID
      else
        let s := (s.setFn g { s.fnRt g with blobValid := false }).unbindAll g 2
        ((s.resetFnRegs g).clearVf g).fail f.val q.val x Status.SUCCESS

/-- The HIF_FN_CFG word of a function (02, R96). -/
def State.fnCfgWord (s : State) (g : Nat) : Nat :=
  s.rd Reg.HIF_FN_CFG.CONFIGURED g * 2 ^ 31 + s.rd Reg.HIF_FN_CFG.QUOTA g * 2 ^ 24 + s.rd Reg.HIF_FN_CFG.WEIGHT g * 2 ^ 16 +
    s.rd Reg.HIF_FN_CFG.TENANT g * 2 ^ 8 + s.rd Reg.HIF_FN_CFG.STATE g

/-- The HIF_FN_PASID word of a function (02, R96). -/
def State.fnPasidWord (s : State) (g : Nat) : Nat :=
  s.rd Reg.HIF_FN_PASID.REQUIRE g * 2 ^ 31 + s.rd Reg.HIF_FN_PASID.WIDTH g * 2 ^ 20 + s.rd Reg.HIF_FN_PASID.BASE g

/-- FUNCTION_QUERY (02, R94): RES0 holds HIF_FN_CFG and, above it, HIF_FN_PASID. -/
def execFunctionQuery (f : Fn) (q : Q) (s : State) : Res :=
  .next <| s.subCmd f.val q.val 0x83 4 4 (s.fnPre f.val) fun x s =>
    let g := entryFn x.e
    match s.fnRefused f.val g with
    | some st => s.fail f.val q.val x st
    | none =>
      if !onlyBytes x.e [(32, 1), (34, 2)] then s.fail f.val q.val x Status.FIELD_INVALID
      else s.complete f.val q.val x.e.cid.toNat Status.SUCCESS (s.fnCfgWord g + s.fnPasidWord g * 2 ^ 32) 0

/-- UNEXPECTED_COMPLETION (02, R96): HIF_PORT_ERR.UNEXP_CPL, which asserts the port's shared source. -/
def execUnexpectedCompletion (p : Fin 2) (s : State) : Res :=
  .next (s.riseOf (2 + p.val) (s.wr Reg.HIF_PORT_ERR.UNEXP_CPL p.val 1))

end Sys2Proof.Machine
end

