-- ==== Sys2Proof/Machine/Firewall.lean ====
section
/-!
DEFINITION. Machine/Firewall.lean: the fabric firewall (14, R510–R515): hardwired rules, register classes, the window table, denials and
the commit of the staged windows.
-/

namespace Sys2Proof.Machine

/-- A master's bit in a mask of masters (R510): 0 KEEPER, 1 CORE0, 2 CORE1, 3 PF0, 4 PF1, 5 PDMA0, 6 PDMA1, 7 EXT, 8 ASY, 15 DEBUG. -/
def mKeeper : Nat := 0x0001
def mPfKeeper : Nat := 0x0019
def mCoresKeeper : Nat := 0x0007
def mPfCoresKeeper : Nat := 0x001F

/-- STG_LOW (R496): the lowest address of the policy staging region. -/
def State.stgLow (s : State) : Nat := s.rd Reg.FWL_STG_LOW.ADDR 0 * 0x100000

/-- The function whose window a PF's HIF offset holds, or whose mailbox peer entry it is (02, R53, R78). -/
def peerFn (a : Nat) : Nat := (a - 0x40040000) / 0x100

/-- The first hardwired rule of R511 that denies a request, as its RULE code. -/
def State.hardRule (s : State) (m a : Nat) (write : Bool) : Option Nat :=
  if m = 15 ∧ s.lifecycle ≠ 0 ∧ s.lifecycle ≠ 1 then some 0x81
  else if 0x40B01000 ≤ a ∧ a ≤ 0x40B02FFF ∧ write ∧ m ≠ 0 then some 0x82
  else if ((0x00400000 ≤ a ∧ a ≤ 0x007FFFFF) ∨ (0x40E08000 ≤ a ∧ a ≤ 0x40E097FF)) ∧ m ≠ 0 then some 0x83
  else if 0x20000000 ≤ a ∧ a < s.stgLow ∧ a ≤ 0x23FFFFFF ∧ m ≠ 0 then some 0x84
  else if 0x30000000 ≤ a ∧ a ≤ 0x33FFFFFF ∧ write ∧ m ≠ 0 ∧ m ≠ 7 then some 0x85
  else if 0x40000000 ≤ a ∧ a ≤ 0x4000FFFF ∧ m ≠ 0 ∧ m ≠ 3 then some 0x86
  else if 0x40010000 ≤ a ∧ a ≤ 0x4001FFFF ∧ m ≠ 0 ∧ m ≠ 4 then some 0x86
  else if 0x40040000 ≤ a ∧ a ≤ 0x4004FFFF ∧
      ¬ (if isPf (peerFn a) then m = 0 ∨ m = 1 ∨ m = 2 else m = 0 ∨ m = 3 + portOf (peerFn a)) then some 0x86
  else if (m = 5 ∨ m = 6) ∧ ¬ (s.stgLow ≤ a ∧ a ≤ 0x23FFFFFF) ∧ ¬ (0x10000000 ≤ a ∧ a ≤ 0x1007FFFF) then some 0x87
  else none

/-- Shared sources locked to the Keeper (13, R484). -/
def lockedSource (n : Nat) : Bool := n = 18 || n = 19 || n = 22 || n = 25 || n = 26

/-- The masters that the owning chapters admit to a register, by address (R511 step 2). -/
def registerClass (a : Nat) (write : Bool) : Nat :=
  let sla := a - 0x40200000
  if 0x40C01000 ≤ a ∧ a < 0x40C01F00 ∧ write ∧ lockedSource ((a - 0x40C01000) / 8) then mKeeper -- 13, R494
  else if 0x40C00000 ≤ a ∧ a < 0x40C00200 then
    -- POL core registers: a core reaches its own only; POL_CORE_CTRL is written by PF0, PF1 and the Keeper only (12, R466)
    let own := if a < 0x40C00100 then 0x0002 else 0x0004
    if write ∧ a % 0x100 = 0 then mPfKeeper else 0xFFF9 ||| own
  else if 0x40C03000 ≤ a ∧ a < 0x40C03800 then
    let own := if a < 0x40C03400 then 0x0002 else 0x0004
    if write then own else mPfKeeper ||| own                                       -- 14, R516
  else if 0x40C01000 ≤ a ∧ a < 0x40C03000 then (if write then mCoresKeeper else 0xFFFF) -- 13, R494
  else if 0x40B01000 ≤ a ∧ a ≤ 0x40B02FFF then (if write then mKeeper else mPfCoresKeeper) -- 14, R517
  else if 0x40E09800 ≤ a ∧ a ≤ 0x40E09FFF then mCoresKeeper                        -- 11, R429
  else if ¬ write then 0xFFFF
  else if a = 0x40080080 then mPfKeeper                                             -- 02, R96 DEV_RESET
  else if 0x40200000 ≤ a ∧ a < 0x40300000 then
    if (sla < 264 * 0x100 ∧ sla % 0x100 = 8) ∨ (0x20000 ≤ sla ∧ sla < 0x21000 ∧ sla % 0x100 = 4) ∨ sla = 0x30000 ∨
        (0x30020 ≤ sla ∧ sla ≤ 0x30040) then mPfKeeper else 0xFFFF                  -- 04, R182
  else if a = 0x40300040 then mKeeper                                               -- 05, R224 STR_CTRL
  else if a = 0x40500060 then mPfKeeper                                             -- 05, R224 EXT_CTRL
  else if 0x40900000 ≤ a ∧ a < 0x40980000 then (if a % 0x1000 = 4 then mPfKeeper else 0xFFFF) -- 07, R304
  else if a = 0x40A00004 then mPfKeeper                                             -- 08, R342 ASY_CTRL
  else if a = 0x40700004 ∨ a = 0x40700400 then mPfKeeper                            -- 09, R361
  else if a = 0x40F03060 then mKeeper                                               -- 10, OTP_CTRL
  else if a = 0x40E00040 then mKeeper                                               -- 11, AON_CTRL
  else if a = 0x40E00020 ∨ a = 0x40E00024 then 0x0101                               -- 11, AON_CAL
  else if a = 0x40E00034 then mPfKeeper                                             -- 11, AON_ALERT_EN
  else if 0x40B00000 ≤ a ∧ a < 0x40B01000 then 0                                    -- 12, R467
  else if 0x40D00000 ≤ a ∧ a < 0x40D00400 then                                      -- 15, R531
    if a < 0x40D00100 ∨ (0x40D00200 ≤ a ∧ a < 0x40D00300) then mKeeper else if a < 0x40D00200 then 0x0002 else 0x0004
  else if 0x40D00900 ≤ a ∧ a < 0x40D00940 then (if a < 0x40D00920 then 0x0003 else 0x0005) -- 15, R532 EFL_WP
  else if a = 0x40E01014 then mKeeper                                               -- 16, TMP_CTRL
  else if a = 0x40E01008 ∨ a = 0x40E0100C ∨ a = 0x40E01010 ∨ a = 0x40E01030 ∨ a = 0x40E01034 then mPfKeeper -- 16, R565
  else if a = 0x40F00004 then mKeeper                                               -- 17, CRD_CTRL
  else if a = 0x40F00008 ∨ a = 0x40F00060 ∨ a = 0x40F00064 then mPfKeeper           -- 17, R585
  else if a = 0x40F01010 ∨ (0x40F01100 ≤ a ∧ a < 0x40F01200) then mKeeper           -- 18, R605
  else if a = 0x40F01014 ∨ (0x40F01200 ≤ a ∧ a < 0x40F01280) then mCoresKeeper
  else if (0x40F01020 ≤ a ∧ a ≤ 0x40F01030) ∨ a = 0x40F010A0 ∨ a = 0x40F010A4 ∨ a = 0x40F010B0 then mPfCoresKeeper
  else if a = 0x40F04010 ∨ a = 0x40F04014 then mPfCoresKeeper                       -- 19, R629
  else if 0x40100000 ≤ a ∧ a < 0x40100400 then mPfKeeper                            -- 21, R641
  else 0xFFFF

/-- A core. -/
def State.core (s : State) (c : Nat) : Core := if c = 0 then s.cpu.core0 else if c = 1 then s.cpu.core1 else s.cpu.keeper

/-- Replace a core. -/
def State.setCore (s : State) (c : Nat) (x : Core) : State :=
  if c = 0 then { s with cpu.core0 := x } else if c = 1 then { s with cpu.core1 := x } else { s with cpu.keeper := x }

/-- The window table's decision (R512): the enabled window of lowest number that contains the page; outside all of them only the
Keeper is admitted. -/
def State.windowRule (s : State) (m a : Nat) (write : Bool) : Option Nat :=
  let page := a / 4096
  match (List.range 128).find? fun w => s.isSet Reg.FWL_AWIN_BASE.EN w && s.rd Reg.FWL_AWIN_BASE.PAGE w ≤ page &&
      page ≤ s.rd Reg.FWL_AWIN_LIMIT.PAGE w with
  | some w => if s.rdBit (if write then Reg.FWL_AWIN_PERM.WMASK else Reg.FWL_AWIN_PERM.RMASK) w m then none else some w
  | none => if m = 0 then none else some 0x80

/-- The RULE code of the first check of R511 that denies a request of master `m`, or none if it is admitted. -/
def State.denied (s : State) (m a : Nat) (write : Bool) : Option Nat :=
  match s.hardRule m a write with
  | some r => some r
  | none => if (registerClass a write).testBit m then s.windowRule m a write else some 0x88

/-- The report of a denial (R513): count, ring entry, event, and the core's MPU_FAULT with CAUSE 6 (R509). -/
def State.recordDenial (s : State) (m a rule : Nat) (write : Bool) : State :=
  let i := s.rd Reg.FWL_DENY_HEAD.NEXT 0
  let s := s.addSat Reg.FWL_DENY_COUNT.COUNT 0 1
  let s := s.wr Reg.FWL_DENY_ADDR.ADDR i a
  let s := ((s.wr Reg.FWL_DENY_INFO.TICKS i s.ticks).wr Reg.FWL_DENY_INFO.RULE i rule).wr Reg.FWL_DENY_INFO.WRITE i (if write then 1 else 0)
  let s := (s.wr Reg.FWL_DENY_INFO.MASTER i m).wr Reg.FWL_DENY_HEAD.NEXT 0 (i + 1)
  s.event Ev.FWL_DENY

/-- The regions of a core's MPU that are enabled and contain an address, lowest first (R497). -/
def State.regionsAt (s : State) (c a : Nat) : List Nat :=
  (List.range 16).filter fun r =>
    let i := c * 16 + r
    s.isSet Reg.MPU_RGN_ATTR.EN i && s.rd Reg.MPU_RGN_BASE.ADDR i ≤ a / 64 && a / 64 ≤ s.rd Reg.MPU_RGN_LIMIT.ADDR i

/-- A fault of a policy core's MPU, a denial of its access or a failed tag fill is recorded (R509): `access` 0 fetch, 1 load, 2 store, 3 tag fill. The
Keeper has no MPU (R495). -/
def State.mpuFault (s : State) (c a cause access : Nat) : State :=
  if 2 ≤ c then s
  else
    let rs := s.regionsAt c a
    let s := if s.isSet Reg.MPU_FAULT.VALID c then s.wr Reg.MPU_FAULT.OVER c 1 else s
    let s := (s.wr Reg.MPU_FAULT.VALID c 1).wr Reg.MPU_FAULT.REGION c (rs.headD 0)
    let s := (s.wr Reg.MPU_FAULT.REGION2 c (if cause = 3 then rs.tail.headD 0 else 0)).wr Reg.MPU_FAULT.CAUSE c cause
    let s := (s.wr Reg.MPU_FAULT.ACCESS c access).wr Reg.MPU_FAULT.PRIV c (if (s.core c).priv = 0 then 0 else 1)
    s.wr Reg.MPU_FAULT_ADDR.ADDR c a

/-- An imprecise exception is detected (13, R473; 12, R449): it waits to be taken, or, where one waits already or WEXC or EADDR of the last has not been
read, it is dropped and counted. A wide-domain exception that waits sets WEXC. -/
def State.detect (s : State) (c code : Nat) (a : Word) (hold : Nat) : State :=
  let x := s.core c
  if x.impPending.isSome || x.impUnread then s.setCore c { x with wexcLost := min 65535 (x.wexcLost + 1) }
  else s.setCore c { x with impPending := some (code, a), impHold := hold, wexc := if code = 9 then a else x.wexc }

/-- The core behind a master ID (R510): CORE0, CORE1, KEEPER. -/
def coreOfMaster (m : Nat) : Option Nat := if m = 1 then some 0 else if m = 2 then some 1 else if m = 0 then some 2 else none

/-- The outcome of a denied write (R513): dropped; a core's was posted, so it raises the imprecise STORE_FAULT (R508). -/
def State.refuseWrite (s : State) (m a rule : Nat) : State :=
  let s := s.recordDenial m a rule true
  match coreOfMaster m with
  | some c => (s.mpuFault c a 6 2).detect c 8 (BitVec.ofNat 32 a) 0
  | none => s

/-- A register write of master `m` at internal address `a`: the effect if the firewall admits it, otherwise the denial. In SLEEP and
WATCH no write of the main domains is taken; the shadow counts the drop (11, R415). -/
def State.guardWrite (s : State) (m a : Nat) (effect : State → State) : State :=
  if !s.mainOn then { s with aon.shadowDrops := s.aon.shadowDrops + 1 }
  else match s.denied m a true with
  | none => effect s
  | some r => s.refuseWrite m a r

/-- Copy one staged window into the active table (R515 step 4). -/
def State.copyWindow (s : State) (w : Nat) : State :=
  let s := (s.wr Reg.FWL_AWIN_BASE.PAGE w (s.rd Reg.FWL_SWIN_BASE.PAGE w)).wr Reg.FWL_AWIN_BASE.EN w (s.rd Reg.FWL_SWIN_BASE.EN w)
  let s := s.wr Reg.FWL_AWIN_LIMIT.PAGE w (s.rd Reg.FWL_SWIN_LIMIT.PAGE w)
  (s.wr Reg.FWL_AWIN_PERM.RMASK w (s.rd Reg.FWL_SWIN_PERM.RMASK w)).wr Reg.FWL_AWIN_PERM.WMASK w (s.rd Reg.FWL_SWIN_PERM.WMASK w)

/-- A commit begins (R515 steps 1 and 2). Every request from here on is stalled until the commit ends and then checked against the new table, so
the staged windows are copied here: no request can tell (log entry 18). What is written to the staged registers meanwhile waits for the next commit. -/
def State.beginWindows (s : State) : State := (List.range 128).foldl State.copyWindow (s.wr Reg.FWL_STATUS.BUSY 0 1)

/-- The end of a commit with `late` requests still open at step 3′ (R515 steps 3 to 5). -/
def State.endWindows (s : State) (late : Nat) : State :=
  let s := if late = 0 then s else (s.addSat Reg.FWL_STATUS.LATE 0 late).event Ev.FWL_LATE
  let s := (s.wr Reg.FWL_STATUS.BUSY 0 0).addSat Reg.FWL_STATUS.COMMITS 0 1
  s.event Ev.FWL_COMMIT

/-- FWL_CTRL.COMMIT (R515): a COMMIT while BUSY = 1 has no effect; a write that is not the Keeper's is denied (hardwired rule 2). -/
def execFwlCommit (m : Fin 16) (s : State) : Res :=
  .next <| s.guardWrite m.val 0x40B01000 fun s => if s.isSet Reg.FWL_STATUS.BUSY 0 then s else s.beginWindows

/-- FWL_COMMIT_DONE (R515): where a commit runs, BUSY clears and FWL_EVENT.COMMIT is set. -/
def execFwlCommitDone (late : Nat) (s : State) : Res :=
  .next <| if s.isSet Reg.FWL_STATUS.BUSY 0 then s.endWindows late else s

/-- Write one staged window. -/
def State.stageWindow (s : State) (w lo hi rmask wmask : Nat) : State :=
  let s := ((s.wr Reg.FWL_SWIN_BASE.PAGE w (lo / 4096)).wr Reg.FWL_SWIN_BASE.EN w 1).wr Reg.FWL_SWIN_LIMIT.PAGE w (hi / 4096)
  (s.wr Reg.FWL_SWIN_PERM.RMASK w rmask).wr Reg.FWL_SWIN_PERM.WMASK w wmask

/-- The windows the Keeper commits at boot step 11 (R514), `locked` for LOCKED and RETIRED; every other window is disabled. -/
def State.keeperWindows (s : State) (locked : Bool) : State :=
  let s := (List.range 128).foldl (fun t w => t.wr Reg.FWL_SWIN_BASE.EN w 0) s
  let dbg := if s.lifecycle ≤ 1 then 0x8000 else 0
  let s := s.stageWindow 0 0x00000000 0x003FFFFF 0x0007 0
  let s := s.stageWindow 1 0x00400000 0x007FFFFF 0x0001 0x0001
  let s := s.stageWindow 2 0x20000000 0x23FFFFFF 0x0067 0x0067
  let s := s.stageWindow 3 0x30000000 0x33FFFFFF 0x0087 0x0081
  let s := s.stageWindow 4 0x40000000 (if locked then 0x400FFFFF else 0x40FFFFFF) (0x019F ||| dbg) (0x019F ||| dbg)
  let s := s.stageWindow 5 0x60000000 0x60000FFF 0x0007 0x0007
  let s := if locked then s.stageWindow 6 0x40100000 0x40FFFFFF 0x019F 0x0187 else s
  s.beginWindows.endWindows 0

end Sys2Proof.Machine
end

