-- ==== Sys2Proof/Machine/Items.lean ====
section
/-!
DEFINITION. Machine/Items.lean: read and assay items: what a READ, a VERIFY_RANGE or an assay reserves, waits for and ends with (01, R23,
R31, R646; 03, R118, R121, R648; 04, R156, R164; 07, R290–R292).
-/

namespace Sys2Proof.Machine

/-- An item. -/
def State.item? (s : State) (i : Nat) : Option Item := Tab.find i s.lane.items

/-- Replace an item. -/
def State.setItem (s : State) (i : Nat) (x : Item) : State := { s with lane.items := Tab.put i x s.lane.items }

/-- The KiB that a stored size takes of a pool (01, R646: whole 4 KiB). -/
def spanKib (size : Nat) : Nat := (size + 4095) / 4096 * 4

/-- The part of a span that must be borrowed from the write pool, or none where that is not allowed (01, R29, R31). -/
def State.borrow (s : State) (cls : Cls) (kib : Nat) : Option Nat :=
  let c := if cls = .assay then 2 else 1
  let lent := if cls = .assay then s.rd Reg.QMS_POOL_LENT.ASSAY 0 else s.rd Reg.QMS_POOL_LENT.READ 0
  let own := s.setting (if cls = .assay then 0x0012 else 0x0011) * 1024 - (if cls = .assay then 0 else s.setting 0x4017 * 1024)
  let used := s.rd Reg.QMS_POOL.OCC c - lent
  let b := kib - (own - used)
  if b = 0 then some 0
  else if (s.setting 0x0014).testBit (if cls = .assay then 1 else 0) &&
      decide (s.rd Reg.QMS_POOL.OCC 0 + s.rd Reg.QMS_POOL_LENT.READ 0 + s.rd Reg.QMS_POOL_LENT.ASSAY 0 + b ≤
        (s.setting 0x0010 - s.setting 0x0013) * 1024) then some b
  else none

/-- Reserve a span of a pool, `b` KiB of it borrowed. -/
def State.reserveSpan (s : State) (cls : Cls) (kib b : Nat) : State :=
  let s := s.addWrap Reg.QMS_POOL.OCC (if cls = .assay then 2 else 1) kib
  s.addWrap (if cls = .assay then Reg.QMS_POOL_LENT.ASSAY else Reg.QMS_POOL_LENT.READ) 0 b

/-- The data units (stripe, unit) that hold some bytes of an extent on a rank (07, R281). -/
def RankRt.unitsOf (x : RankRt) (off size : Nat) : List (Nat × Nat) :=
  let p := x.unitSize - 32
  let first := off / p
  let last := (off + size - 1) / p
  (List.range (last + 1 - first)).map fun j => ((first + j) / x.k, (first + j) % x.k)

/-- The DLG field and pool of a read class. -/
def clsDlg (cls : Cls) : Fld := if cls = .assay then Reg.QMS_DLG.ASSAY else Reg.QMS_DLG.READ

/-- The lane group for a read or assay item (04, R160, R645). -/
def State.readGroup (s : State) (cls : Cls) : Option Nat :=
  if cls = .assay then s.pickGroup s.lane.rotorA Reg.QMS_DLG.ASSAY (s.setting 0x2012)
  else s.pickGroup s.lane.rotorR Reg.QMS_DLG.READ (s.setting 0x2011)

/-- Start an item: its DLG slot is taken, its header's units are asked for (04, R645; 01, R646). -/
def State.startItem (s : State) (x : Item) : State :=
  let s := s.addWrap (clsDlg x.cls) x.grp 1
  let s := if x.cls = .assay then { s with lane.rotorA := x.grp } else { s with lane.rotorR := x.grp }
  let i := s.lane.nextItem
  { s.setItem i x with lane.nextItem := i + 1 }

/-! ### Looking a record up (03, R118, R121; 01, R646) -/

/-- Steps 2 and 3 of R118 for a locator: the status where one fails. -/
def State.locatorFault (s : State) (t loc : Nat) : Option Nat :=
  let y := s.ext (locExtent loc)
  if extentSpace ≤ locExtent loc ∨ y.st = .free ∨ y.st = .releasePending ∨ y.st = .retired ∨ y.keygen % 256 ≠ locKeygen loc then
    some Status.RECORD_RELEASED
  else if y.tenant ≠ t ∨ y.fill * 65536 ≤ locOffset loc ∨ (y.st = .openE ∧ y.next ≤ locOffset loc) then some Status.LOCATOR_INVALID
  else none

/-- The item that looks a locator up (01, R646): it needs the units that hold the 64-byte header. -/
def State.newItem (s : State) (cls : Cls) (use : ItemUse) (f l seq t loc span borrowed grp : Nat) : Item :=
  let y := s.ext (locExtent loc)
  let need := match s.rank? y.rank with | some r => r.unitsOf (locOffset loc) 64 | none => []
  ⟨cls, use, f, l, seq, t, locExtent loc, y.keygen, y.rank, y.bay, locOffset loc, 64, need, none, span, borrowed, grp, false, false, 0, .media,
    false, 0, false⟩

/-- Start the next record of a VERIFY_RANGE, or end it where its locator leads nowhere (R121 step 1). It waits while no DLG slot is free. -/
def State.verifyNext (s : State) (r : Nat) : State :=
  match Tab.find r s.led.verify with
  | none => s
  | some v =>
    let t := (s.ledger v.ledger).tenant
    match v.locs with
    | [] => s
    | loc :: _ =>
      match s.locatorFault t loc with
      | some st => { s with led.verify := Tab.del r s.led.verify }.complete v.fn v.q v.cid st v.seq v.compared
      | none =>
        match s.readGroup .read with
        | some g => s.startItem (s.newItem .read (.verify r) v.fn v.ledger v.seq t loc 0 0 g)
        | none => s

/-- Every VERIFY_RANGE whose next record is not under way goes on (R121): a DLG slot may be free again. -/
def State.resumeVerify (s : State) : State :=
  ((s.led.verify.filter fun v => !s.lane.items.any fun i => i.2.use = .verify v.1 && i.2.phase ≠ .zeroing).map (·.1)).foldl State.verifyNext s

/-- Start the tag checks that a migration left (08, R319), one item each while DLG slots last. -/
def State.resumeChecks (s : State) : State :=
  s.asy.checks.foldl (fun t c =>
    match t.readGroup .assay with
    | some g =>
      let s : State := { t with asy.checks := t.asy.checks.erase c }
      let y := s.ext c.1
      if y.st = .free ∨ y.st = .releasePending ∨ y.st = .retired then s
      else s.startItem (s.newItem .assay .check 0 0 0 y.tenant (locator c.1 c.2 y.keygen 1) 0 0 g)
    | none => t) s

/-- The item's credits return and it is gone (04, R156, R645; 01, R31). -/
def State.releaseItem (s : State) (i : Nat) : State :=
  match s.item? i with
  | none => s
  | some x =>
    let s := s.subFloor (clsDlg x.cls) x.grp 1
    let s := if x.clr then s.subFloor (if x.cls = .assay then Reg.CPR_CLR.ASSAY else Reg.CPR_CLR.READ) x.grp 1 else s
    let s := s.subFloor Reg.QMS_POOL.OCC (if x.cls = .assay then 2 else 1) x.span
    let s := s.subFloor (if x.cls = .assay then Reg.QMS_POOL_LENT.ASSAY else Reg.QMS_POOL_LENT.READ) 0 x.borrowed
    let s := if x.lhd then s.subFloor Reg.HIF_PORT_LHD.OCC (portOf x.fn) 1 else s
    { s with lane.items := Tab.del i s.lane.items, lane.rq := s.lane.rq.filter (· ≠ i), lane.aq := s.lane.aq.filter (· ≠ i) }

/-- What becomes of the command of an item that ends: a READ completes; a VERIFY_RANGE ends at its record; an assay learns it. -/
def State.itemResult (s : State) (x : Item) (status res0 res1 : Nat) : State :=
  match x.use with
  | .readCmd fn q cid _ _ _ => s.complete fn q cid status res0 res1
  | .verify r =>
    match Tab.find r s.led.verify with
    | some v => { s with led.verify := Tab.del r s.led.verify }.complete v.fn v.q v.cid status v.seq v.compared
    | none => s
  | .check => if status = Status.SUCCESS then s
    else match x.stored with
      | some c => s.finding 10 3 c.hdr.ledger x.extent x.offset c.hdr.seq
      | none => let d := s.draw; d.2.finding 10 3 0xFFFF x.extent x.offset d.1
  | .assay r => { s with lane.assayDone := s.lane.assayDone ++ [(r, status, x.stored, x.recon)] }

/-- End an item that holds no plaintext: its command ends and its credits return. -/
def State.endItem (s : State) (i status res0 res1 : Nat) : State :=
  match s.item? i with
  | some x => (s.itemResult x status res0 res1).releaseItem i
  | none => s

/-- End an item whose span must be zeroed first (04, R156). -/
def State.zeroItem (s : State) (i status res0 res1 : Nat) : State :=
  match s.item? i with
  | some x => (s.itemResult x status res0 res1).setItem i { x with phase := .zeroing }
  | none => s

/-- A runnable item enters its class queue with a CLR credit (04, R160, R645). -/
def State.makeRunnable (s : State) (i : Nat) (x : Item) : State :=
  let s := (s.setItem i { x with phase := .runnable, clr := true }).addWrap (if x.cls = .assay then Reg.CPR_CLR.ASSAY else Reg.CPR_CLR.READ) x.grp
    (if x.clr then 0 else 1)
  if x.cls = .assay then { s with lane.aq := s.lane.aq ++ [i] } else { s with lane.rq := s.lane.rq ++ [i] }

/-- The stored header leads to the requested record (03, R118 step 4). -/
def headerMatches (x : Item) (h : Header) : Bool :=
  h.hver = 1 && 1 ≤ h.ty && h.ty ≤ 6 && h.reservedZero && h.tenant = x.tenant && h.extent = x.extent && h.offset = x.offset &&
    (match x.use with | .assay _ => true | .check => true | _ => h.ledger = x.ledger && h.seq = x.seq)

/-- The stored record is known (03, R118 steps 4 and 5; 01, R646): its header decides whether the item ends, or what more it needs. An item
of VERIFY_RANGE or the assay waits while its span cannot be reserved. -/
def State.itemHeader (s : State) (i : Nat) (x : Item) (c : Stored) : State :=
  if !headerMatches x c.hdr then
    match x.use with
    | .assay _ => ({ s with lane.items := Tab.put i { x with stored := some c } s.lane.items }).endItem i Status.LOCATOR_INVALID 0 0
    | _ => s.endItem i Status.LOCATOR_INVALID 0 0
  else
    let size := storedSize c.hdr.length
    let rest (s : State) (x : Item) : State :=
      match s.rank? x.rank with
      | some r =>
        let need := (r.unitsOf x.offset size).filter fun u => !(r.unitsOf x.offset 64).contains u || x.need.contains u
        let y := { x with stored := some c, size := size, need := need }
        if need = [] then s.makeRunnable i y else s.setItem i y
      | none => s
    match x.use with
    | .readCmd _ _ _ _ _ buf => if buf < c.hdr.length then s.endItem i Status.BUFFER_SHORT 0 c.hdr.length else rest s x
    | _ =>
      match s.borrow x.cls (spanKib size) with
      | some b => rest (s.reserveSpan x.cls (spanKib size) b) { x with span := spanKib size, borrowed := b }
      | none => s

/-- A unit or a stripe of an item has been read: what is still needed, and what follows. -/
def State.itemGot (s : State) (i : Nat) (x : Item) (content : Option Stored) : State :=
  match x.stored, content with
  | some _, _ => if x.need = [] then s.makeRunnable i x else s.setItem i x
  | none, some c => if x.need = [] then s.itemHeader i x c else s.setItem i x
  | none, none => s.setItem i x

/-- Report a bad unit to Retention, refresh and assay, once (07, R292; 08, R316: reason BAD_UNIT). -/
def State.reportBad (s : State) (e st slot : Nat) : State :=
  if s.media.bad.contains ⟨e, st, slot⟩ then s else ({ s with media.bad := s.media.bad ++ [(⟨e, st, slot⟩ : BadUnit)] } : State).attend e 1 none

/-- The port of the drive that holds a unit of a stripe of a rank (07, R281). -/
def State.unitPort (s : State) (rank stripe unit : Nat) : Nat :=
  match s.rank? rank with
  | some k => (k.slots.getD (k.slotOf stripe unit) ⟨0, 0, 0⟩).port
  | none => 0

/-- UNIT_READ_DONE (07, R290, R291; 03, R648): a unit that an item needs; its stripe must be durable or lost. A good unit enters staging;
`content` is the stored record, given with the last unit that holds its header. A displaced unit is searched for again; a bad one waits
for reconstruction and is reported. -/
def execUnitReadDone (i : Nat) (stripe : Nat) (unit : Fin 16) (r : UnitRead) (content : Option Stored) (s : State) : Res :=
  .next <|
    match s.item? i with
    | none => s
    | some x =>
      if x.phase ≠ .media ∨ !x.need.contains (stripe, unit.val) ∨
          (s.media.stripes.any fun y => y.extent = x.extent && y.stripe = stripe) then s
      else
        let s := s.driveRead (s.unitPort x.rank stripe unit.val) (match s.rank? x.rank with | some k => k.unitSize | none => 0)
        match r with
        | .good => s.itemGot i { x with need := x.need.filter (· ≠ (stripe, unit.val)) } content
        | .displaced => s.send (.nvme (s.unitPort x.rank stripe unit.val) "read" [x.extent, stripe, unit.val])
        | .bad =>
          match s.rank? x.rank with
          | some k => s.reportBad x.extent stripe (k.slotOf stripe unit.val)
          | none => s

/-- RECONSTRUCT_STRIPE (07, R292; 01, R24): the missing units of a stripe of an item are solved for from the slots in `good` (those read and
passing R290), if there are k of them; otherwise the item ends with MEDIA_UNRECOVERED. -/
def execReconstructStripe (i : Nat) (stripe : Nat) (good : BitVec 20) (content : Option Stored) (s : State) : Res :=
  .next <|
    match s.item? i with
    | none => s
    | some x =>
      match s.rank? x.rank with
      | none => s
      | some k =>
        let miss := x.need.filter fun u => u.1 = stripe
        if x.phase ≠ .media ∨ miss = [] ∨ (s.media.stripes.any fun y => y.extent = x.extent && y.stripe = stripe) then s
        else if ((List.range (k.k + k.m)).filter fun j => good.getLsbD j).length < k.k then s.endItem i Status.MEDIA_UNRECOVERED 0 0
        else
          let s := (s.addWrap Reg.CPR_REC_BYTES.BYTES 0 (miss.length * k.unitSize)).event Ev.CPR_RECON
          let s := miss.foldl (fun t u => t.reportBad x.extent stripe (k.slotOf stripe u.2)) s
          s.itemGot i { x with need := x.need.filter fun u => u.1 ≠ stripe, recon := true } content

end Sys2Proof.Machine
end

