-- ==== Sys2Proof/Machine/Lanes.lean ====
section
/-!
DEFINITION. Machine/Lanes.lean: the seal lanes: descriptors, keys, the ends of records and items, self-test, retirement, resets and group
power (04).
-/

namespace Sys2Proof.Machine

/-! ### Lanes and slots -/

/-- The group of a lane that serves a slot. -/
def State.laneGroup (s : State) (n : Nat) : Nat := s.rd Reg.SLA_LANE_STATUS.GROUP n

/-- The lane serves a slot. -/
def State.mapped (s : State) (n : Nat) : Bool := s.isSet Reg.SLA_LANE_STATUS.MAPPED n

/-- The lane is fused off (00, R3; 04, R143). -/
def laneFused (n : Nat) : Bool := 128 ≤ n && n < 256 && Config.part128

/-- The group is fused off. -/
def groupFused (g : Nat) : Bool := 8 ≤ g && Config.part128

/-- The lanes that serve a group's slots. -/
def State.groupLanes (s : State) (g : Nat) : List Nat :=
  (List.range 16).filterMap fun i => if s.isSet Reg.SLA_GRP_MAP.VALID (g * 16 + i) then some (s.rd Reg.SLA_GRP_MAP.LANE (g * 16 + i)) else none

/-- INSERVICE and EMPTY of a group follow from its map (04, R144). -/
def State.refreshGroup (s : State) (g : Nat) : State :=
  if groupFused g then s
  else
    let empty := (List.range 16).foldl (fun v i => if s.isSet Reg.SLA_GRP_MAP.VALID (g * 16 + i) then v else v + 2 ^ i) 0
    (s.wr Reg.SLA_GRP_STATUS.INSERVICE g (s.groupLanes g).length).wr Reg.SLA_GRP_STATUS.EMPTY g empty

/-- An entry of the lane log: the last 256 are kept (04, R181). -/
def State.laneEvent (s : State) (lane event detail ledger seq extent : Nat) : State :=
  let l := s.lane.log ++ [⟨s.ticks, lane, event, detail, ledger, seq, extent⟩]
  { s with lane.log := l.drop (l.length - 256) }

/-- The lane log's ledger, sequence number and extent for what a lane works on (04, R181). -/
def State.laneWork (s : State) (n : Nat) : Nat × Nat × Nat :=
  match (s.laneRt n).record, (s.laneRt n).item with
  | some k, _ => (keyLedger k, keySeq k, match Tab.find k s.led.recs with | some r => r.extent | none => 0)
  | none, some i =>
    match s.item? i with
    | some x => if x.cls = .assay then (0xFFFF, 0, x.extent) else (x.ledger, x.seq, x.extent)
    | none => (0xFFFF, 0, 0)
  | none, none => (0xFFFF, 0, 0)

/-- Log an event of a lane with the record it works on. -/
def State.laneEventW (s : State) (n event detail : Nat) : State :=
  let w := s.laneWork n
  s.laneEvent n event detail w.1 w.2.1 w.2.2

/-- A lane starts its KAT. -/
def State.startKat (s : State) (n cause : Nat) : State :=
  (s.setLane n { s.laneRt n with katCause := cause, katDue := false }).wr Reg.SLA_LANE_STATUS.STATE n 5

/-- Put the next free spare under test for a slot, or leave the slot empty (04, R144, R171). -/
def State.substitute (s : State) (slot : Nat) : State :=
  match (List.range 8).find? fun j => s.rdBit Reg.SLA_SPARE_STATUS.FREE 0 j with
  | some j =>
    let n := 256 + j
    let s := s.wrBit Reg.SLA_SPARE_STATUS.FREE 0 j false
    (s.setLane n { s.laneRt n with subst := some slot }).startKat n 6
  | none => (s.event Ev.SLA_SPARES_EXHAUSTED).event Ev.SLA_GROUP_SHORT

/-- Retire a lane (04, R171–R173): RCAUSE and SLA_RETIRED are set, its slot is emptied and a spare is tried. -/
def State.retireLane (s : State) (n rcause : Nat) : State :=
  let x := s.laneRt n
  let slot := if s.mapped n then some (s.laneGroup n * 16 + s.rd Reg.SLA_LANE_STATUS.SLOT n) else x.subst
  let s := s.laneEventW n 1 rcause
  let s := ((s.wr Reg.SLA_LANE_STATUS.STATE n 7).wr Reg.SLA_LANE_STATUS.RCAUSE n rcause).wrBit Reg.SLA_RETIRED.LANE (n / 32) (n % 32) true
  let s := ((s.wr Reg.SLA_LANE_STATUS.MAPPED n 0).wr Reg.SLA_LANE_STATUS.GROUP n 0).wr Reg.SLA_LANE_STATUS.SLOT n 0
  let s := (s.setLane n ⟨none, none, none, none, 0, false, 0, none⟩).event Ev.SLA_LANE_RETIRED
  let s := if n < 256 then s
    else ((s.wrBit Reg.SLA_SPARE_STATUS.RETIRED 0 (n - 256) true).wrBit Reg.SLA_SPARE_STATUS.USED 0 (n - 256) false).wrBit
      Reg.SLA_SPARE_STATUS.FREE 0 (n - 256) false
  let s := s.takeUp 1 n
  match slot with
  | some i => ((s.wr Reg.SLA_GRP_MAP.VALID i 0).refreshGroup (i / 16)).substitute i
  | none => s

/-- A lane's item is abandoned: for a lane cause it runs once more, then ends with ABORTED_BY_RESET; for a key erase with
ABORTED_BY_TAMPER (04, R163, R164). Its span is zeroed. -/
def State.abandonItem (s : State) (i : Nat) (tamper : Bool) : State :=
  match s.item? i with
  | none => s
  | some x =>
    let y := { x with lane := 0, phase := .zeroing, avoid := x.lane }
    if tamper then (s.setItem i y).zeroItem i Status.ABORTED_BY_TAMPER 0 0
    else if x.rerun then (s.setItem i y).zeroItem i Status.ABORTED_BY_RESET 0 0
    else s.setItem i { y with rerun := true, stored := none, need := [] }

/-- A lane abandons what it works on (04, R163): its record becomes void with the cause (a void seal is sealed again, 06, R228), its item
runs again or ends. -/
def State.abandon (s : State) (n cause : Nat) : State :=
  let x := s.laneRt n
  let s := match x.record with
    | none => s
    | some k =>
      match Tab.find k s.led.recs with
      | none => s
      | some r =>
        if r.voidCause = 0 then s.voidRecord (keyLedger k) (keySeq k) cause true
        else s.setRec (keyLedger k) (keySeq k) { r with placed := false, lane := 0 }
  let s := match x.item with
    | none => s
    | some i => s.abandonItem i (cause = 5)
  s.freeLane n

/-! ### Records on lanes -/

/-- A key is in the derived-key cache (05, R190). -/
def State.keyCached (s : State) (k : Nat × Nat × Nat) : Bool := s.key.dkc.contains k

/-- A lane asks for its key: a hit delivers it, a miss waits for KEY_DERIVE (04, R146; 05, R190, R191). -/
def State.askKey (s : State) (n : Nat) (k : Nat × Nat × Nat) : State :=
  if s.keyCached k then
    let s := { s with key.dkc := k :: s.key.dkc.filter (· ≠ k) }.addWrap Reg.STR_DKC_HIT.COUNT 0 1
    s.setLane n { s.laneRt n with key := some k, wantKey := none }
  else (s.addWrap Reg.STR_DKC_MISS.COUNT 0 1).setLane n { s.laneRt n with key := none, wantKey := some k }

/-- The lane may take a descriptor: idle, in a slot, and the lowest such slot of its group (04, R161, R170). -/
def State.laneReady (s : State) (n : Nat) : Bool :=
  s.laneState n = 1 && s.mapped n && (s.groupLanes (s.laneGroup n)).all fun m =>
    s.rd Reg.SLA_LANE_STATUS.SLOT n ≤ s.rd Reg.SLA_LANE_STATUS.SLOT m || s.laneState m ≠ 1

/-- LANE_ACCEPT_WRITE (04, R149, R160, R161; 06, R228): a void seal first, otherwise the first write descriptor of the lane's group. -/
def execLaneAcceptWrite (n : Lane) (s : State) : Res :=
  .next <|
    let n := n.val
    if !s.laneReady n then s
    else
      let g := s.laneGroup n
      let own := s.lane.wq.find? fun k => match Tab.find k s.led.recs with | some r => r.grp = g + 1 | none => false
      let pick := match s.lane.voids with
        | v :: _ => some v
        | [] => own
      match pick with
      | none => s
      | some k =>
        match Tab.find k s.led.recs with
        | none => { s with lane.voids := s.lane.voids.filter (· ≠ k) }
        | some r =>
          let s := { s with lane.wq := s.lane.wq.filter (· ≠ k), lane.voids := s.lane.voids.filter (· ≠ k) }
          let s := s.setRec (keyLedger k) (keySeq k) { r with lane := n + 1 }
          let s := (s.setLane n { s.laneRt n with record := some k }).wr Reg.SLA_LANE_STATUS.STATE n 2
          (s.askPayload (keyLedger k) (keySeq k)).askKey n (r.tenant, r.extent, r.keygen)

/-- KEY_DERIVE (05, R189, R191): the tenant's key is unwrapped where it is not cached (`fails`: how many copies of its slot fail to
unwrap; with both the key is unavailable until restored), EK and H go to the cache and to every lane that waits for them. -/
def execKeyDerive (n : Lane) (fails : Fin 3) (s : State) : Res :=
  .next <|
    match (s.laneRt n.val).wantKey with
    | none => s
    | some k =>
      let cached := s.key.ucache.contains k.1
      let s := if !cached && fails.val ≠ 0 then s.event Ev.STR_UNWRAP_FAIL else s
      if !cached && fails.val = 2 then s.setTenant k.1 { s.tenant k.1 with st := 2 }
      else if !s.keyAvailable k.1 then s
      else
        let s := (s.unwrap k.1).cacheKey k
        { s with lane.rt := Tab.mapVal (fun _ (x : LaneRt) => if x.wantKey = some k then { x with key := some k, wantKey := none } else x) s.lane.rt }

/-- The key number a lane seals with: EK of its record's extent (05, R184). -/
def State.ek (s : State) (k : Nat × Nat × Nat) : Nat := extentKey (s.tenantKey k.1) k.2.1 k.2.2

/-- LANE_RECORD_END (04, R150–R152, R177; 01, R37): with the whole payload in staging the lane computes tag and CRC-32C; the tag is released
unless the host's CRC-32C differs or a staging word could not be read (`ue`); `corrected` words were corrected. -/
def execLaneRecordEnd (n : Lane) (ue : Bool) (corrected : BitVec 16) (s : State) : Res :=
  .next <|
    let n := n.val
    match (s.laneRt n).record, (s.laneRt n).key with
    | some k, some key =>
      match Tab.find k s.led.recs with
      | none => s.freeLane n
      | some r =>
        let l := keyLedger k
        let q := keySeq k
        let isSeal := decide (r.voidCause ≠ 0)
        if !isSeal && r.data.length ≠ r.length then s
        else
          let crc := crc32c r.data
          let s := (s.addWrap Reg.SLA_LANE_RECORDS.COUNT n 1).addWrap Reg.SLA_LANE_BYTES.BYTES n (if isSeal then 0 else r.length)
          let s := (s.addSat Reg.SLA_LANE_ERRS.CORRECTED n corrected.toNat).wr Reg.SLA_LANE_EPOCH.EPOCH n r.setepoch
          let bad := !isSeal && (ue || (r.crcv && decide (crc ≠ r.hcrc)))
          let s := if ue then (s.laneEventW n 5 0).event Ev.SLA_STAGING_UE else s
          let s := s.freeLane n
          let r' := { r with crc := if isSeal then r.crc else crc, lane := 0 }
          if bad then (s.setRec l q r').voidRecord l q (if ue && !r.crcv then 2 else 1) true
          else
            (s.setRec l q { r' with tag := some (recordTag (s.ek key) (r.header l q) (if isSeal then [] else r.data)), data := [] }).dropDlg l q
    | _, _ => s

/-- LANE_ACCEPT_READ (04, R154, R160, R161): the first runnable descriptor of a class for the lane's group; its span is the hold region. A
re-run does not go to the lane that abandoned the item (R164). -/
def execLaneAcceptRead (n : Lane) (assay : Bool) (s : State) : Res :=
  .next <|
    let n := n.val
    if !s.laneReady n then s
    else
      let g := s.laneGroup n
      match (if assay then s.lane.aq else s.lane.rq).find? fun i => match s.item? i with
          | some x => x.grp = g && (x.avoid ≠ n + 1 || (s.groupLanes g).length ≤ 1)
          | none => false with
      | none => s
      | some i =>
        match s.item? i with
        | none => s
        | some x =>
          let s := { s with lane.rq := s.lane.rq.filter (· ≠ i), lane.aq := s.lane.aq.filter (· ≠ i) }
          let s := s.setItem i { x with lane := n + 1, phase := .onLane }
          let s := (s.setLane n { s.laneRt n with item := some i }).wr Reg.SLA_LANE_STATUS.STATE n (if assay then 4 else 3)
          s.askKey n (x.tenant, x.extent, x.keygen)

/-- RES1 of a READ of a void record (03, R118 step 7): the cause and the abandoned length of its LABEL. -/
def voidResult (label : Nat) : Nat := label / 2 ^ 32 % 256 * 2 ^ 24 + label / 2 ^ 40 % 2 ^ 24

/-- A header's 64 bytes (03, R99). -/
def headerBytes (h : Header) : List Nat :=
  [h.hver, h.ty] ++ leBytes h.ledger 2 ++ [h.tenant, h.flags, 0, 0] ++ leBytes h.seq 8 ++ leBytes h.length 4 ++ leBytes h.setepoch 4 ++
    leBytes h.ticks 8 ++ leBytes h.extent 4 ++ leBytes h.keygen 3 ++ [0] ++ leBytes h.offset 8 ++ leBytes h.label 16

/-- Whether a checkpoint that the device holds names this record with another chain value, and how many name it (03, R121). -/
def State.ckptCompare (s : State) (l n c : Nat) : Bool × Nat :=
  let es := (s.scv.batches.flatMap (·.entries) ++ s.scv.entries ++ s.scv.outside).filter fun e => e.ledger = l && e.seq = n && !e.dead
  (es.all fun e => e.chain = c, es.length)

/-- A verified record of a VERIFY_RANGE (03, R121 steps 3 and 4): the chain value is compared with every checkpoint at that number; the last
record completes the command. -/
def State.verifyStep (s : State) (r : Nat) (c : Stored) : State :=
  match Tab.find r s.led.verify with
  | none => s
  | some v =>
    let chain := chainStep v.chain c.hdr c.tag
    let cmp := s.ckptCompare v.ledger v.seq chain
    if !cmp.1 then
      { s with led.verify := Tab.del r s.led.verify }.complete v.fn v.q v.cid Status.CHAIN_BREAK v.seq (v.compared + cmp.2)
    else
      match v.locs with
      | [] => s
      | [_] => { s with led.verify := Tab.del r s.led.verify }.complete v.fn v.q v.cid Status.SUCCESS v.seq (v.compared + cmp.2)
      | _ :: rest =>
        let w := { v with seq := v.seq + 1, locs := rest, chain := chain, compared := v.compared + cmp.2 }
        { s with led.verify := Tab.put r w s.led.verify }.verifyNext r

/-- LANE_READ_VERDICT (04, R154, R157, R165; 03, R118 steps 6 to 8; 01, R23, R27): the computed tag is compared with the stored one; a failure
or an unreadable staging word (`ue`) zeroes the hold region with no plaintext released; a verified READ queues its DMA job with an LHD
credit, and waits on the lane while none is free or its function is in D3hot (02, R47). -/
def execLaneReadVerdict (n : Lane) (ue : Bool) (s : State) : Res :=
  .next <|
    let n := n.val
    match (s.laneRt n).item, (s.laneRt n).key with
    | some i, some key =>
      match s.item? i with
      | none => s.freeLane n
      | some x =>
        match x.stored with
        | none => s
        | some c =>
          let ok := c.tag = recordTag (s.ek key) c.hdr c.payload
          let live := match x.use with | .readCmd fn _ _ _ _ _ => s.fnOpen fn | _ => true
          let asleep := match x.use with | .readCmd fn _ _ _ _ _ => live && !s.fnLive fn | _ => false
          let job := (match x.use with | .readCmd _ _ _ _ _ _ => ok && !ue && c.hdr.ty ≠ 2 && live | _ => false)
          if asleep || (job && s.setting 0x1011 ≤ s.rd Reg.HIF_PORT_LHD.OCC (portOf x.fn)) then s
          else
            let s := (s.addWrap Reg.SLA_LANE_RECORDS.COUNT n 1).addWrap Reg.SLA_LANE_BYTES.BYTES n c.hdr.length
            let s := s.wr Reg.SLA_LANE_EPOCH.EPOCH n s.epoch
            let s := if ue then (s.laneEventW n 5 0).event Ev.SLA_STAGING_UE
              else if ok then s else ((s.laneEventW n 3 0).addSat Reg.SLA_LANE_ERRS.TAGFAIL n 1).event Ev.SLA_TAG_FAIL
            let s := (s.freeLane n).setItem i { x with lane := 0 }
            if ue then s.zeroItem i Status.UNIT_CRC_MISMATCH 0 0
            else if !ok then s.zeroItem i Status.SEAL_MISMATCH 0 0
            else if !live then s.setItem i { x with lane := 0, phase := .zeroing }
            else
              match x.use with
              | .readCmd fn q cid _ hptr _ =>
                if c.hdr.ty = 2 then
                  let s := if hptr = 0 then s else s.hostWrite fn hptr 64 (headerBytes c.hdr)
                  (s.setItem i { x with lane := 0, phase := .zeroing }).complete fn q cid Status.RECORD_VOID 0 (voidResult c.hdr.label)
                else (s.addWrap Reg.HIF_PORT_LHD.OCC (portOf x.fn) 1).setItem i { x with lane := 0, lhd := true, phase := .leaving }
              | .verify r => (s.setItem i { x with lane := 0, phase := .zeroing }).verifyStep r c
              | .check => s.setItem i { x with lane := 0, phase := .zeroing }
              | .assay r => { s.setItem i { x with lane := 0, phase := .zeroing } with
                  lane.assayDone := s.lane.assayDone ++ [(r, Status.SUCCESS, some c, x.recon)] }
    | _, _ => s

/-- HOLD_ZERO_DONE (04, R156): the hold region is zero and its credits return; an item to be run again keeps them. -/
def execHoldZeroDone (i : Nat) (s : State) : Res :=
  .next <|
    match s.item? i with
    | none => s
    | some x => if x.phase ≠ .zeroing || (x.rerun && x.stored.isNone) then s else (s.releaseItem i).resumeVerify.resumeChecks

/-- READ_ITEM_RERUN (04, R164): an abandoned item, its span zeroed, is read from media again. -/
def execReadItemRerun (i : Nat) (s : State) : Res :=
  .next <|
    match s.item? i with
    | none => s
    | some x =>
      if x.phase ≠ .zeroing || !x.rerun || x.stored.isSome then s
      else match s.rank? x.rank with
        | some r => s.setItem i { x with phase := .media, need := r.unitsOf x.offset 64 }
        | none => s.endItem i Status.MEDIA_UNRECOVERED 0 0

/-! ### Self-test, resets, retirement -/

/-- LANE_PARITY_ERROR (04, R163, R174): a busy lane abandons its record with void cause 3 and is reset. -/
def execLaneParityError (n : Lane) (s : State) : Res :=
  .next <|
    let n := n.val
    if 2 ≤ s.laneState n ∧ s.laneState n ≤ 4 then
      let s := ((s.laneEventW n 4 0).event Ev.SLA_PARITY).abandon n 3
      (s.setLane n { s.laneRt n with katCause := 3, katDue := false }).wr Reg.SLA_LANE_STATUS.STATE n 6
    else s

/-- A unit reset of a lane (04, R174–R176): an idle or tested lane is reset; a busy one at its record's end (drain) or at once (abort); a
reset during a drain turns it into an abort; one during a reset is absorbed. -/
def State.unitReset (s : State) (n : Nat) (abort : Bool) : State :=
  let st := s.laneState n
  let x := s.laneRt n
  let hit (s : State) : State :=
    (s.setLane n { s.laneRt n with katCause := 3, katDue := false, resetWait := 0 }).wr Reg.SLA_LANE_STATUS.STATE n 6
  if st = 1 ∨ st = 5 then hit (s.laneEventW n 6 (if abort then 1 else 0))
  else if 2 ≤ st ∧ st ≤ 4 then
    if abort || x.resetWait ≠ 0 then hit ((s.laneEventW n 6 1).abandon n 3)
    else (s.laneEventW n 6 0).setLane n { x with resetWait := 1 }
  else s

/-- LANE_RESET (04, R175; R182). -/
def execLaneReset (m : Fin 16) (n : Lane) (abort : Bool) (s : State) : Res :=
  .next <| s.guardWrite m.val (0x40200008 + n.val * 0x100) fun s => s.unitReset n.val abort

/-- LANE_TEST (04, R170): an idle lane is tested, a busy one at its record's end. -/
def execLaneTest (m : Fin 16) (n : Lane) (s : State) : Res :=
  .next <| s.guardWrite m.val (0x40200008 + n.val * 0x100) fun s =>
    if s.laneState n.val = 1 then s.startKat n.val 2
    else if 2 ≤ s.laneState n.val ∧ s.laneState n.val ≤ 4 then s.setLane n.val { s.laneRt n.val with katDue := true, katCause := 2 }
    else s

/-- GROUP_RESET (04, R175): every lane in service in the group. -/
def execGroupReset (m : Fin 16) (g : Grp) (abort : Bool) (s : State) : Res :=
  .next <| s.guardWrite m.val (0x40220004 + g.val * 0x100) fun s => (s.groupLanes g.val).foldl (fun t n => t.unitReset n abort) s

/-- RESET_ALL (04, R175, R176): every lane in service. -/
def execResetAll (m : Fin 16) (abort : Bool) (s : State) : Res :=
  .next <| s.guardWrite m.val 0x40230000 fun s =>
    (List.range 16).foldl (fun t g => (t.groupLanes g).foldl (fun u n => u.unitReset n abort) t) s

/-- LANE_RESET_DONE (04, R174): the reset ends in a KAT. -/
def execLaneResetDone (n : Lane) (s : State) : Res :=
  .next <| if s.laneState n.val = 6 then s.startKat n.val 3 else s

/-- LANE_RETIRE_WRITE (04, R163, R173): each bit written 1 retires its lane with RCAUSE 4; a busy lane abandons its record. -/
def execLaneRetireWrite (m : Fin 16) (k : Fin 9) (v : BitVec 32) (s : State) : Res :=
  .next <| s.guardWrite m.val (0x40230020 + k.val * 4) fun s =>
    (List.range 32).foldl (fun t j =>
      let n := k.val * 32 + j
      if v.getLsbD j && n < 264 && !laneFused n && t.laneState n ≠ 7 then
        (if 2 ≤ t.laneState n ∧ t.laneState n ≤ 4 then t.abandon n 3 else t).retireLane n 4
      else t) s

/-- LANE_KAT_DONE (04, R169, R171, R174): a pass counts and the lane is idle (a spare under substitution is mapped into its slot); a
failure retires the lane with the cause of its test. -/
def execLaneKatDone (n : Lane) (pass : Bool) (s : State) : Res :=
  .next <|
    let n := n.val
    if s.laneState n ≠ 5 then s
    else
      let x := s.laneRt n
      if !pass then
        let s := if x.katCause = 5 then s.laneEventW n 7 0 else s
        s.retireLane n x.katCause
      else
        let s := s.addSat Reg.SLA_KAT_PASS.COUNT 0 1
        match x.subst with
        | some i =>
          let g := i / 16
          let s := (s.setLane n { x with subst := none }).wr Reg.SLA_LANE_STATUS.STATE n 1
          let s := ((s.wr Reg.SLA_LANE_STATUS.MAPPED n 1).wr Reg.SLA_LANE_STATUS.GROUP n g).wr Reg.SLA_LANE_STATUS.SLOT n (i % 16)
          let s := (s.wr Reg.SLA_GRP_MAP.VALID i 1).wr Reg.SLA_GRP_MAP.LANE i n
          let s := (s.wrBit Reg.SLA_SPARE_STATUS.USED 0 (n - 256) true).refreshGroup g
          (s.laneEvent n 2 i 0xFFFF 0 0).event Ev.SLA_SPARE_USED
        | none => s.wr Reg.SLA_LANE_STATUS.STATE n (if s.mapped n then 1 else 0)

/-- PERIODIC_KAT_DUE (04, R169, R170). -/
def execPeriodicKatDue (n : Lane) (s : State) : Res :=
  .next <|
    if s.laneState n.val = 1 then s.startKat n.val 2
    else if 2 ≤ s.laneState n.val ∧ s.laneState n.val ≤ 4 then s.setLane n.val { s.laneRt n.val with katDue := true, katCause := 2 }
    else s

/-! ### Group power (04, R166–R168) -/

/-- A group enters the mask: powered, every lane of it that is not retired is tested with cause 5 (1 at a reset). -/
def State.groupUp (s : State) (g cause : Nat) : State :=
  if groupFused g then s
  else
    let s := (s.groupLanes g).foldl (fun t n => if t.laneState n = 7 then t else t.startKat n cause) s
    { (s.wr Reg.SLA_GRP_STATUS.TRANSITION g 1) with lane.entering := s.lane.entering ++ [g], lane.leaving := s.lane.leaving.filter (· ≠ g) }

/-- A group leaves the mask. -/
def State.groupDown (s : State) (g : Nat) : State :=
  if s.isSet Reg.SLA_GRP_STATUS.POWERED g then { (s.wr Reg.SLA_GRP_STATUS.TRANSITION g 1) with lane.leaving := s.lane.leaving ++ [g] }
  else s

/-- A change of the power mask (04, R166, R167): groups in transition take it up when that transition ends. -/
def State.maskPower (s : State) : State :=
  if s.power ≠ 0 then s
  else (List.range 16).foldl (fun t g =>
    let want := (t.setting 0x2001).testBit g
    if t.lane.entering.contains g || t.lane.leaving.contains g then t
    else if want && !t.isSet Reg.SLA_GRP_STATUS.POWERED g then t.groupUp g 5
    else if !want && t.isSet Reg.SLA_GRP_STATUS.POWERED g then t.groupDown g
    else t) s

/-- GROUP_POWER_UP_DONE (04, R166, R167): once no lane of the group, and no spare for it, is under test, it takes descriptors. -/
def execGroupPowerUpDone (g : Grp) (s : State) : Res :=
  .next <|
    if !s.lane.entering.contains g.val || ((s.groupLanes g.val).any fun n => s.laneState n = 5) ||
        ((List.range 8).any fun j => match (s.laneRt (256 + j)).subst with | some i => decide (i / 16 = g.val) | none => false) then s
    else
      let s := { s with lane.entering := s.lane.entering.filter (· ≠ g.val) }
      let s := ((s.wr Reg.SLA_GRP_STATUS.POWERED g.val 1).wr Reg.SLA_GRP_STATUS.TRANSITION g.val 0).refreshGroup g.val
      let s := (s.groupLanes g.val).foldl (fun t n => t.wr Reg.SLA_LANE_EPOCH.EPOCH n t.epoch) s
      s.maskPower

/-- Gate a group: key registers cleared, lanes OFF (04, R166, R168). -/
def State.gateGroup (s : State) (g : Nat) : State :=
  let s := (s.groupLanes g).foldl (fun t n => if t.laneState n = 7 then t
    else (t.setLane n { t.laneRt n with key := none, wantKey := none, katDue := false, resetWait := 0 }).wr Reg.SLA_LANE_STATUS.STATE n 0) s
  let s := { s with lane.leaving := s.lane.leaving.filter (· ≠ g), lane.entering := s.lane.entering.filter (· ≠ g) }
  (s.wr Reg.SLA_GRP_STATUS.POWERED g 0).wr Reg.SLA_GRP_STATUS.TRANSITION g 0

/-- GROUP_POWER_DOWN_DONE (04, R166): a leaving group with no record, descriptor or zeroing left is gated. -/
def execGroupPowerDownDone (g : Grp) (s : State) : Res :=
  .next <|
    let busy := ((s.groupLanes g.val).any fun n => 2 ≤ s.laneState n && s.laneState n ≤ 6) || (s.led.recs.any fun x => x.2.grp = g.val + 1) ||
      (s.lane.items.any fun x => x.2.grp = g.val)
    if !s.lane.leaving.contains g.val || busy then s else (s.gateGroup g.val).maskPower

end Sys2Proof.Machine
end

