-- ==== Sys2Proof/Machine/Registers.lean ====
section
/-!
DEFINITION. Machine/Registers.lean: what the registers and the cores' interrupt entry share of 13 and 14: the level and the eligibility of sources, the core
TIMER, the colours of tagged memory.
-/

namespace Sys2Proof.Machine

/-- Level of a source (13, R479) by its ID for core `c`. -/
def State.srcLevel (s : State) (c id : Nat) : Nat :=
  if id < 32 then s.rd Reg.ICU_PCFG.LEVEL (c * 32 + id) else s.rd Reg.ICU_SRC_CFG.LEVEL (id - 32)

/-- The core's running level plus 1, 0 when ICU_NEST is 0 (13, R486). -/
def State.running (s : State) (c : Nat) : Nat :=
  (List.range 16).foldl (fun r l => if s.rdBit Reg.ICU_NEST.NEST c l then l + 1 else r) 0

/-- A source targets the core, is enabled and pending (13, R486). -/
def State.srcPending (s : State) (c id : Nat) : Bool :=
  if id < 32 then s.isSet Reg.ICU_PCFG.EN (c * 32 + id) && s.isSet Reg.ICU_PCFG.PEND (c * 32 + id)
  else s.rd Reg.ICU_SRC_CFG.TARGET (id - 32) = c && s.isSet Reg.ICU_SRC_CFG.EN (id - 32) &&
    s.rdBit Reg.ICU_PENDING.PEND ((id - 32) / 32) ((id - 32) % 32)

/-- The source IDs that can be pending: those the spec defines. -/
def sourceIds : List Nat := List.range 6 ++ (List.range 27).map (· + 32) ++ (List.range 32).map (· + 480)

/-- A source is eligible (13, R486). -/
def State.eligible (s : State) (c id : Nat) : Bool :=
  s.srcPending c id && s.rd Reg.ICU_THRESH.THRESH c ≤ s.srcLevel c id && s.running c ≤ s.srcLevel c id

/-- The source that would be taken now: the eligible source of highest level, among equals the lowest ID (13, R486, R487). -/
def State.bestSource (s : State) (c : Nat) : Option Nat :=
  sourceIds.foldl (fun best id =>
    if s.eligible c id then
      match best with
      | none => some id
      | some b => if s.srcLevel c b < s.srcLevel c id then some id else some b
    else best) none

/-- IDLE ends when an enabled source of the core is pending at a level at or above its threshold (13, R490). -/
def State.wakes (s : State) (c : Nat) : Bool := sourceIds.any fun id => s.srcPending c id && s.rd Reg.ICU_THRESH.THRESH c ≤ s.srcLevel c id

/-- The input of a core's TIMER source (13, R483). -/
def State.timerOn (s : State) (c : Nat) : Bool := s.rd Reg.ICU_TCMP.CMP c ≤ (s.core c).cycle

/-- A rise of it is an assertion (13, R480). -/
def State.timerRise (s0 : State) (c : Nat) (s : State) : State := if !s0.timerOn c && s.timerOn c then s.assertPrivate c 4 else s

/-- A granule of memory in a core's tagged memory and its colour (14, R503, R504): none outside tagged memory. -/
def State.colourAt (s : State) (c a : Nat) : Option Nat :=
  if 0x10000000 ≤ a ∧ a ≤ 0x1007FFFF then some (Tab.getD (s.core c).colours ((a - 0x10000000) / 64) 0)
  else if s.stgLow ≤ a ∧ a ≤ 0x23FFFFFF ∧ 0x20000000 ≤ a then some (Tab.getD s.cpu.stagingColours ((a - 0x20000000) / 64) 0)
  else none

end Sys2Proof.Machine
end

