-- ==== Sys2Proof/Machine/Settings.lean ====
section
/-!
DEFINITION. Machine/Settings.lean: settings and the settings epoch (03, R128–R140, R647), the configuration digest (10, R378), the end of a
KCALL service (12, R457).
-/

namespace Sys2Proof.Machine

/-- A KCALL service has its result (12, R457): the slot stays RUNNING until KCALL_DONE. -/
def State.kcallEnd (s : State) (c k result : Nat) (ret : List Nat) : State :=
  match Tab.find (c * 4 + k) s.cpu.kslots with
  | none => s
  | some x => if x.state ≠ 2 then s else { s with cpu.kslots := Tab.put (c * 4 + k) { x with result := result, ret := ret, ready := true } s.cpu.kslots }

/-- Reply to whoever asked for a setting change (03, R130; 12, R459): SET_SETTING has the epoch in RES0 and the class or reason in RES1; the
KCALL has epoch, class and reason in RET0 to RET2. -/
def State.settingReply (s : State) (who : SetIssuer) (status epoch cls reason : Nat) : State :=
  match who with
  | .admin f q cid => s.complete f q cid status epoch (cls + reason)
  | .kcall c k => s.kcallEnd c k status [epoch, cls, reason, 0]

/-- The class code of R130. -/
def ApplyClass.code : ApplyClass → Nat
  | .immediate => 0
  | .atBoundary => 1
  | .atRestart => 2

/-- The value a setting has for the bounds that tie settings together: a proposed one, the journalled one (which becomes live at the next
restart) or the live one. -/
def State.planned (s : State) (sid v other : Nat) : Nat :=
  if other = sid then v
  else match s.set.journal.find? fun x => x.1 = other with
    | some x => x.2
    | none => s.setting other

/-- The alert temperatures excluded from the SMBus address (19, R626, setting 0x0050). -/
def smbusReserved (v : Nat) : Bool := v = 0x0C || v = 0x28 || v = 0x37 || v = 0x61

/-- A value is in a setting's range, bounds that tie it to other settings included (03, R139; 01, R29; 08; 14; 16, R551; 19). A range whose
lowest value is above its highest spans 0 in two's complement. -/
def State.settingInRange (s : State) (d : SettingDef) (v : Nat) : Bool :=
  (if d.lo ≤ d.hi then d.lo ≤ v && v ≤ d.hi else d.lo ≤ v || v ≤ d.hi) &&
  (if d.sid = 0x0050 then !smbusReserved v
   else if d.sid = 0x7001 then v % 1024 = 0
   else if d.sid = 0x5005 ∨ d.sid = 0x5006 then s.planned d.sid v 0x5005 < s.planned d.sid v 0x5006
   else if d.sid = 0x0013 ∨ d.sid = 0x0010 then s.planned d.sid v 0x0013 ≤ s.planned d.sid v 0x0010
   else if d.sid = 0x4017 ∨ d.sid = 0x0011 then s.planned d.sid v 0x4017 < s.planned d.sid v 0x0011
   else if 0x7100 ≤ d.sid ∧ d.sid < 0x7114 then
     let f := tamperFloor (d.sid - 0x7100)
     v &&& f = f && v.testBit 0 && (!v.testBit 4 || (v.testBit 2 && v.testBit 3))
   else true)

/-- The sum rules of R28 and R29 that a setting is a member of hold with a proposed value. The printed defaults of the COM classes break
their own sum, so a sum is tested only when one of its members is set (log entry 11). -/
def State.sumsHold (s : State) (sid v : Nat) : Bool :=
  let p := s.planned sid v
  if sid = 0x2010 ∨ sid = 0x2011 ∨ sid = 0x2012 then p 0x2010 + p 0x2011 + p 0x2012 ≤ 128
  else if sid = 0x4013 ∨ sid = 0x4014 ∨ sid = 0x4015 then p 0x4013 + p 0x4014 + p 0x4015 ≤ 224
  else if sid = 0x0010 ∨ sid = 0x0011 ∨ sid = 0x0012 then p 0x0010 + p 0x0011 + p 0x0012 ≤ 64
  else true

/-- A custodian quorum session is open (16, R556). -/
def State.quorum (s : State) : Bool := s.rd Reg.TMP_STATUS.SESSION 0 = 2

/-- The change needs a quorum session (08, R336; 16, R551; 18, R604). -/
def State.needsQuorum (s : State) (sid v : Nat) : Bool :=
  let old := s.setting sid
  if sid = 0x5020 then old = 1 && v = 0
  else if sid = 0x7002 ∨ (0x7100 ≤ sid ∧ sid < 0x7114) then (old &&& v) != old
  else if sid = 0x8010 then old = 0 && v = 1
  else false

/-- The canonical encoding of the live settings, as the numbers that stand for its bytes (10, R378). -/
def State.canonical (s : State) : List Nat :=
  [0x43, 0x58, 0x34, 0x43, 0x46, 0x47, 1, if Config.part128 then 2 else 1] ++ leBytes settingTable.length 4 ++
    settingTable.flatMap fun d => leBytes d.sid 2 ++ [if s.set.locks.contains d.sid then 1 else 0] ++ leBytes (s.setting d.sid) 8

/-- The configuration digest (10, R378; log entry 4). -/
def State.cfgDigest (s : State) : Nat := Config.sha384 s.canonical % 2 ^ 384

/-- DEV_CFG_DIGEST shows the digest (03, R138). -/
def State.refreshDigest (s : State) : State :=
  let d := s.cfgDigest
  (List.range 12).foldl (fun t i => t.wr Reg.DEV_CFG_DIGEST.DIGEST i (d / 2 ^ (32 * i))) s

/-- Journal a change: an earlier entry for the setting is removed, the new one is last (03, R134). -/
def State.journalSetting (s : State) (sid v : Nat) : State :=
  { s with set.journal := s.set.journal.filter (fun x => x.1 ≠ sid) ++ [(sid, v)] }

/-- An entry of log 0x10: the last 1,024 are kept (03, R132). -/
def State.logSetting (s : State) (sid cls issuer old new : Nat) : State :=
  let l := s.set.changes ++ [⟨sid, cls, issuer, s.epoch, s.ticks, old, new⟩]
  { s with set.changes := l.drop (l.length - 1024) }

/-- The issuer code of log 0x10. -/
def SetIssuer.code : SetIssuer → Nat
  | .admin f _ _ => portOf f
  | .kcall _ _ => 2

/-- The chain cores that have a record to chain. -/
def State.busyCores (s : State) : List Nat :=
  (List.range 16).filter fun c => s.led.tab.any fun x => x.2.unchained < x.2.next && s.coreOf x.1 = c

/-- The MEMBER ports with units of a stripe not acknowledged (their stripe boundary is still to come). -/
def State.busyPorts (s : State) : List Nat :=
  (List.range 128).filter fun p => s.portState p = 2 && s.media.stripes.any fun y =>
    match s.rank? y.rank with
    | some r => (List.range (r.k + r.m)).any fun i => (match r.slots[i]? with | some z => z.st = 0 && z.port = p | none => false) && !y.acked.contains i
    | none => false

/-- An AT_BOUNDARY change (03, R133, R135, R136): the epoch rises, EPOCH_MIXED is set, every function's FN_EVENT.EPOCH and each policy core's
EPOCH source are raised, Cooper closes its open stripes (log entry 10), idle units take the change up and the others lag. -/
def State.raiseEpoch (s : State) : State :=
  let s := (s.wr Reg.DEV_SETTINGS_EPOCH.EPOCH 0 (s.epoch + 1)).wr Reg.DEV_STATUS.EPOCH_MIXED 0 1
  let s := (s.media.stripes.filter fun x => !x.closed).foldl (fun t x => t.padStripe x.extent x.stripe) s
  let s := s.wr Reg.CPR_EPOCH.EPOCH 0 s.epoch
  let lanes := (List.range 264).filter fun n => 1 ≤ s.laneState n && s.laneState n ≤ 6
  let lag (n : Nat) : Bool := 2 ≤ s.laneState n && s.laneState n ≤ 4
  let cores := s.busyCores
  let ports := s.busyPorts
  let pols := [0, 1].filter fun c => (s.core c).run ≠ .held
  let t := s
  let s := (lanes.filter fun n => !lag n).foldl (fun u n => u.wr Reg.SLA_LANE_EPOCH.EPOCH n t.epoch) s
  let s := ((List.range 16).filter fun c => !cores.contains c).foldl (fun u c => u.wr Reg.SCV_CORE_EPOCH.EPOCH c t.epoch) s
  let s := ((List.range 128).filter fun p => t.portState p = 2 && !ports.contains p).foldl (fun u p => u.wr Reg.MPX_PORT_EPOCH.EPOCH p t.epoch) s
  let all := (lanes.filter lag).map (fun n => (1, n)) ++ ports.map (fun p => (2, p)) ++ cores.map (fun c => (3, c)) ++ pols.map (fun c => (5, c))
  let s := { s with set.laggards := all }
  ((s.assertPrivate 0 1).assertPrivate 1 1).fnEventAll Reg.FN_EVENT.EPOCH 4

/-- The Keeper copies settings 0x8013, 0x8010 and 0x8012 into the FRAM system area (18, R588). -/
def State.copyTagSettings (s : State) : State :=
  { s with npl.fieldOn := s.setting 0x8013, npl.logsFree := s.setting 0x8010, npl.memoOn := s.setting 0x8012 }

/-- Apply or record a checked change (03, R133, R134, R138). -/
def State.applySetting (s : State) (who : SetIssuer) (d : SettingDef) (v : Nat) (persist : Bool) : State :=
  let old := s.setting d.sid
  let s := if persist then s.journalSetting d.sid v else s
  let s := match d.cls with
    | .atRestart => s
    | _ => { s with set.live := Tab.put d.sid v s.set.live }
  let s := if d.cls = .atBoundary then s.raiseEpoch else s
  let s := (if d.sid = 0x2001 then s.maskPower else s).copyTagSettings
  let s := (s.logSetting d.sid d.cls.code who.code old v).refreshDigest
  s.settingReply who Status.SUCCESS s.epoch d.cls.code 0

/-- A setting change, by the order of R647. A change that waits keeps the exclusive order (R128) until it ends. -/
def State.changeSetting (s : State) (who : SetIssuer) (sid v : Nat) (persist : Bool) : State :=
  let bad (status reason : Nat) : State := s.settingReply who status 0 0 reason
  if s.lifecycle = 3 then bad Status.DEVICE_LOCKED 0
  else if s.lifecycle = 0 ∨ s.lifecycle = 4 then bad Status.LIFECYCLE_STATE 0
  else match settingDef? sid with
    | none => bad Status.FIELD_INVALID 1
    | some d =>
      if s.set.locks.contains sid then bad Status.NOT_AUTHORISED 0
      else if !s.settingInRange d v then bad Status.FIELD_INVALID 2
      else if !s.sumsHold sid v then bad Status.FIELD_INVALID 3
      else if d.cls = .atRestart && !persist then bad Status.FIELD_INVALID 5
      else if persist && 256 ≤ s.set.journal.length && !(s.set.journal.any fun x => x.1 = sid) then bad Status.FIELD_INVALID 4
      else if s.needsQuorum sid v && !s.quorum then bad Status.QUORUM_REQUIRED 0
      else if d.cls = .atBoundary && 0xFFFFFFFE ≤ s.epoch then bad Status.BUSY_RETRY 0
      else if d.cls = .atBoundary && s.isSet Reg.DEV_STATUS.EPOCH_MIXED 0 then
        { s with set.waiting := s.set.waiting ++ [⟨who, sid, v, persist⟩], set.excl := true }
      else s.applySetting who d v persist

/-- SET_SETTING (03, R128–R139, R647). It waits its turn among the exclusive commands. -/
def execSetSetting (f : Fn) (q : Q) (s : State) : Res :=
  .next <| s.frontCmd f.val q.val 0x80 fun x s =>
    if s.set.excl then s
    else
      let s := s.popFront f.val q.val
      if !onlyBytes x.e [(32, 3), (40, 8)] ∨ 1 < x.e.bytes 34 1 then s.fail f.val q.val x Status.FIELD_INVALID
      else s.changeSetting (.admin f.val q.val x.e.cid.toNat) (x.e.bytes 32 2) (x.e.bytes 40 8) (x.e.bytes 34 1 = 1)

/-- The value GET_SETTING selects (03, R129, R130), none for an unknown SEL. -/
def State.settingValue (s : State) (d : SettingDef) (sel : Nat) : Option Nat :=
  if sel = 0 then some (s.setting d.sid)
  else if sel = 1 then some ((Tab.find d.sid s.set.image).getD d.dflt)
  else if sel = 2 then some (match s.set.journal.find? fun x => x.1 = d.sid with | some x => x.2 | none => s.setting d.sid)
  else if sel = 3 then some d.lo
  else if sel = 4 then some d.hi
  else none

/-- The flags of GET_SETTING's RES1 (03, R130). -/
def State.settingFlags (s : State) (d : SettingDef) : Nat :=
  let j := s.set.journal.find? fun x => x.1 = d.sid
  d.cls.code + (if j.isSome then 4 else 0) + (match j with | some x => if x.2 ≠ s.setting d.sid then 8 else 0 | none => 0) +
    (if s.set.locks.contains d.sid then 16 else 0)

/-- GET_SETTING (03, R129, R130). -/
def execGetSetting (f : Fn) (q : Q) (s : State) : Res :=
  .next <| s.hostCmd f.val q.val 0x81 fun x s =>
    match settingDef? (x.e.bytes 32 2) with
    | none => s.fail f.val q.val x Status.FIELD_INVALID
    | some d =>
      match s.settingValue d (x.e.bytes 34 1) with
      | none => s.fail f.val q.val x Status.FIELD_INVALID
      | some v =>
        if !onlyBytes x.e [(32, 3)] then s.fail f.val q.val x Status.FIELD_INVALID
        else s.complete f.val q.val x.e.cid.toNat Status.SUCCESS v (s.settingFlags d)

/-- The epoch that a lagging unit runs under (03, R131). -/
def State.laggardEpoch (s : State) (x : Nat × Nat) : Nat := if x.1 = 5 then (s.core x.2).epochAck else s.rd (unitEpoch x.1) x.2

/-- EPOCH_QUERY's head and entries (03, R131). -/
def State.epochBytes (s : State) : List Nat :=
  let late := s.rd Reg.DEV_STATUS.UNIT_STALLED 0
  leBytes s.epoch 4 ++ [s.rd Reg.DEV_STATUS.EPOCH_MIXED 0 + 2 * late, 0, 0, 0] ++ leBytes s.set.laggards.length 4 ++ [0, 0, 0, 0] ++
    s.set.laggards.flatMap fun x => [x.1] ++ leBytes x.2 2 ++ [late] ++ leBytes (s.laggardEpoch x) 4

/-- EPOCH_QUERY (03, R130, R131). -/
def execEpochQuery (f : Fn) (q : Q) (s : State) : Res :=
  .next <| s.hostCmd f.val q.val 0x86 fun x s =>
    if x.e.length.toNat < 16 ∨ !onlyBytes x.e [] then s.fail f.val q.val x Status.FIELD_INVALID
    else
      let n := min s.epochBytes.length (16 + (x.e.length.toNat - 16) / 8 * 8)
      (s.hostScatter f.val x.sg (s.epochBytes.take n)).complete f.val q.val x.e.cid.toNat Status.SUCCESS s.set.laggards.length n

/-- The first waiting change ends with BUSY_RETRY; an admin command among them frees the exclusive order. -/
def State.dropWaiting (s : State) : State :=
  match s.set.waiting with
  | [] => s
  | w :: r => { s with set.waiting := r, set.excl := r ≠ [] }.settingReply w.who Status.BUSY_RETRY 0 0 0

/-- SETTING_CHANGE_WAIT_TIMEOUT (03, R137): the change that has waited 100 ms ends with BUSY_RETRY and changes nothing. -/
def execSettingChangeWaitTimeout (s : State) : Res := .next s.dropWaiting

/-- UNIT_STALL_TIMER (03, R136): units that have not taken the change up after 100 ms. -/
def execUnitStallTimer (s : State) : Res :=
  .next <|
    if s.set.laggards = [] ∨ !s.isSet Reg.DEV_STATUS.EPOCH_MIXED 0 then s
    else (s.wr Reg.DEV_STATUS.UNIT_STALLED 0 1).fnEventAll Reg.FN_EVENT.EPOCH 4

/-- EPOCH_CONVERGED (03, R136, R137): with no laggard left EPOCH_MIXED and UNIT_STALLED clear, and a change that waited is applied. -/
def execEpochConverged (s : State) : Res :=
  .next <|
    if s.set.laggards ≠ [] ∨ !s.isSet Reg.DEV_STATUS.EPOCH_MIXED 0 then s
    else
      let s := (s.wr Reg.DEV_STATUS.EPOCH_MIXED 0 0).wr Reg.DEV_STATUS.UNIT_STALLED 0 0
      match s.set.waiting with
      | [] => s
      | w :: r => { s with set.waiting := r, set.excl := r ≠ [] }.changeSetting w.who w.sid w.value w.persist

end Sys2Proof.Machine
end

