-- ==== Sys2Proof/Machine/Ledgers.lean ====
section
/-!
DEFINITION. Machine/Ledgers.lean: the I/O commands on ledgers and records (03, R106–R127) and the dispatch of a numbered record (01, R30).
-/

namespace Sys2Proof.Machine

/-! ### Checks (03, R111) -/

/-- The tenant of a function (02, R94). -/
def State.fnTenant (s : State) (f : Nat) : Nat := s.rd Reg.HIF_FN_CFG.TENANT f

/-- Checks 10.1 and 10.2: the life-cycle state against the opcode. -/
def State.ioLifecycle (s : State) (opc : Nat) : Option Nat :=
  if (s.lifecycle = 3 ∨ s.lifecycle = 4) ∧ opc ≠ 0x0A ∧ opc ≠ 0x0B ∧ opc ≠ 7 then
    some (if s.lifecycle = 3 then Status.DEVICE_LOCKED else Status.LIFECYCLE_STATE)
  else if (s.lifecycle = 0 ∨ s.lifecycle = 1) ∧ opc ≠ 8 then some Status.LIFECYCLE_STATE
  else none

/-- Check 10.3: the ledger is held by the function's tenant. -/
def State.ledgerKnown (s : State) (f l : Nat) : Bool := (s.ledger l).st ≠ .free && (s.ledger l).tenant = s.fnTenant f

/-- Check 10.5 for a command that must be issued on the ledger's bound queue. -/
def State.boundHere (s : State) (f q l : Nat) : Option Nat :=
  let x := s.ledger l
  match x.st with
  | .closing => some Status.LEDGER_CLOSED
  | .closed => some Status.LEDGER_CLOSED
  | .unbound => some Status.LEDGER_UNBOUND
  | .bound => if x.fn = f ∧ x.q = q then none else some Status.NOT_AUTHORISED
  | .free => some Status.LEDGER_UNKNOWN

/-- Checks 10.1 to 10.5 for an entry: `named` that it names a ledger, `writes` that check 10.4 applies, `queue` that check 10.5 does. -/
def State.ioChecks (s : State) (f q : Nat) (x : FEntry) (named writes queue : Bool) : Option Nat :=
  let l := x.e.ledger.toNat
  match s.ioLifecycle x.e.opc.toNat with
  | some st => some st
  | none =>
    if named && !s.ledgerKnown f l then some Status.LEDGER_UNKNOWN
    else if writes && s.isSet Reg.DEV_STATUS.ARCHIVE_RO 0 then some Status.ROLLBACK_DETECTED
    else if queue then s.boundHere f q l
    else none

/-! ### Records numbered by a command -/

/-- What a data record carries (03, R109, R114). -/
def State.appendRecord (s : State) (f q : Nat) (x : FEntry) : NewRec :=
  let l := x.e.ledger.toNat
  let a := x.e.bytes 32 1
  { ty := .data, fn := f, q := q, cid := x.e.cid.toNat, ledger := l, tenant := (s.ledger l).tenant, length := x.e.length.toNat,
    sg := x.sg, crcv := x.e.crcv, hcrc := x.e.hcrc.toNat, dur := a / 2 % 2 = 1 || (s.ledger l).durableMode,
    ckpt := a % 2 = 1, label := x.e.bytes 48 16 }

/-- An empty control record of a ledger (03, R100). -/
def State.controlRecord (s : State) (f q : Nat) (x : FEntry) (ty : RType) (l label : Nat) (dur : Bool) : NewRec :=
  { ty := ty, fn := f, q := q, cid := x.e.cid.toNat, ledger := l, tenant := (s.ledger l).tenant, length := 0, sg := [], crcv := false,
    hcrc := 0, dur := dur, ckpt := false, label := label }

/-- APPEND's own refusals (03, R111, R113, R114; 04 setting 0x2003; 05, R220). -/
def State.appendRefused (s : State) (f q : Nat) (x : FEntry) : Option Nat :=
  match s.ioChecks f q x true true true with
  | some st => some st
  | none =>
    if !onlyBytes x.e [(32, 1), (48, 16)] ∨ 3 < x.e.bytes 32 1 then some Status.FIELD_INVALID
    else if s.setting 0x2003 = 1 ∧ !x.e.crcv then some Status.FIELD_INVALID
    else if !s.keyAvailable (s.fnTenant f) then some Status.KEY_UNAVAILABLE
    else none

/-- Dispatch the APPEND at the front of a queue: it numbers its record, is refused, or waits for credit (01, R30; 03, R114, R115). -/
def State.runAppend (s : State) (f q : Nat) (x : FEntry) : State :=
  match s.appendRefused f q x with
  | some st => (s.popFront f q).fail f q x st
  | none =>
    match s.dispatch (s.appendRecord f q x) with
    | .done _ t => t.popFront f q
    | .wait t => t
    | .refuse st t => (t.popFront f q).fail f q x st

/-- APPEND (03, R114–R117). -/
def execAppend (f : Fn) (q : Q) (s : State) : Res :=
  .next <| s.frontCmd f.val q.val 1 fun x s => s.runAppend f.val q.val x

/-! ### OPEN_LEDGER (03, R122, R123) -/

/-- The fields of OPEN_LEDGER are in range: OFLAGS, CKN, CKT, RRING, RLOG (R122). -/
def openFieldsOk (e : Entry) (maxFlags : Nat) : Bool :=
  onlyBytes e [(32, 2), (36, 8), (48, 9)] && e.bytes 33 1 ≤ maxFlags && e.bytes 36 4 ≤ 16777216 && e.bytes 40 4 ≤ 86400000 &&
    e.bytes 48 8 % 4096 = 0 && 10 ≤ e.bytes 56 1 && e.bytes 56 1 ≤ 20

/-- The lowest free ledger ID (R106). -/
def State.freeLedger (s : State) : Option Nat :=
  (List.range (min 65536 (s.led.tab.length + 1))).find? fun l => (s.ledger l).st = .free

/-- The ledgers that a tenant holds (R110). -/
def State.ledgersHeld (s : State) (t : Nat) : Nat := (s.led.tab.filter fun x => x.2.st ≠ .free && x.2.tenant = t).length

/-- Bind a ledger to a queue with the fields of OPEN_LEDGER (R122, R123). -/
def State.bindLedger (s : State) (l f q : Nat) (e : Entry) : State :=
  let x := s.ledger l
  s.setLedger l { x with st := .bound, fn := f, q := q, durableMode := e.bytes 33 1 % 2 = 1,
                         ckn := if e.bytes 36 4 = 0 then s.setting 0x3001 else e.bytes 36 4,
                         ckt := if e.bytes 40 4 = 0 then s.setting 0x3002 else e.bytes 40 4,
                         rring := e.bytes 48 8, rlog := e.bytes 56 1, rcptFault := false }

/-- Dispatch the CREATE at the front of a queue (R106, R110, R122): NO_LEDGER before QUOTA_EXCEEDED. -/
def State.runCreate (s : State) (f q : Nat) (x : FEntry) (name : Nat) : State :=
  let t := s.fnTenant f
  match s.ioChecks f q x false true false with
  | some st => (s.popFront f q).fail f q x st
  | none =>
    if !openFieldsOk x.e 1 ∨ x.e.ledger.toNat ≠ 0 ∨ (x.e.length.toNat ≠ 0 ∧ x.e.length.toNat ≠ 16) then
      (s.popFront f q).fail f q x Status.FIELD_INVALID
    else match s.freeLedger with
      | none => (s.popFront f q).fail f q x Status.NO_LEDGER
      | some l =>
        if (s.tenant t).ledQuota ≤ s.ledgersHeld t then (s.popFront f q).fail f q x Status.QUOTA_EXCEEDED
        else
          let c := initialChain l s.ticks (s.rd Reg.DEV_ARCHIVE_EPOCH.EPOCH 0)
          let y := { Ledger.blank with tenant := t, openTicks := s.ticks, ckTicks := s.ticks, chain := c, firstChain := c }
          let s1 := (s.setLedger l y).bindLedger l f q x.e
          match s1.dispatch (s1.controlRecord f q x .openRec l (if x.e.length.toNat = 0 then 0 else name) (s1.ledger l).durableMode) with
          | .done _ u => u.popFront f q
          | .wait u => { u with led.tab := Tab.del l u.led.tab }
          | .refuse st u => (({ u with led.tab := Tab.del l u.led.tab }).popFront f q).fail f q x st

/-- OPEN_LEDGER_CREATE (03, R122): `name` is the data of a LENGTH of 16. -/
def execOpenLedgerCreate (f : Fn) (q : Q) (name : BitVec 128) (s : State) : Res :=
  .next <| s.frontCmd f.val q.val 4 fun x s =>
    if x.e.bytes 32 1 = 1 then s.runCreate f.val q.val x name.toNat
    else if x.e.bytes 32 1 = 2 then s
    else (s.popFront f.val q.val).fail f.val q.val x ((s.ioLifecycle 4).getD Status.FIELD_INVALID)

/-- A takeover's first part (R123; 02, R61 steps 2 to 5, for one ledger): its fetched entries on the old queue end in their turn, its dispatched records run
on, or become void with cause 8 when the drain window has passed; then it is unbound. -/
def State.takeover (s : State) (l : Nat) (expired : Bool) : State :=
  let x := s.ledger l
  let old := (s.qrt x.fn x.q).fetched
  let names := fun (y : FEntry) => 1 ≤ y.e.opc.toNat && y.e.opc.toNat ≤ 0x0B && y.e.opc.toNat ≠ 4 && y.e.ledger.toNat = l
  let s := s.setQ x.fn x.q { s.qrt x.fn x.q with fetched := old.map fun y => if y.bad.isNone && names y then { y with bad := some Status.ABORTED_BY_HOST } else y }
  let s := s.sweep x.fn x.q old.length
  let mine := (s.led.recs.filter fun y => keyLedger y.1 = l && !y.2.completed).map (·.1)
  if mine = [] then s.unbind l 7
  else if expired then (mine.foldl (fun t k => t.voidRecord l (keySeq k) 8 true) s).unbind l 7
  else s

/-- Write a ledger's orphan receipts to its new ring in sequence order (R105). -/
def State.writeOrphans (s : State) (l : Nat) : State :=
  let os := s.led.orphans.filter fun o => o.ledger = l
  os.foldl (fun t o => t.receipt l o.seq o.locator .ok) { s with led.orphans := s.led.orphans.filter fun o => o.ledger ≠ l }

/-- Dispatch the REBIND at the front of a queue (R123). -/
def State.runRebind (s : State) (f q : Nat) (x : FEntry) (expired : Bool) : State :=
  let l := x.e.ledger.toNat
  let y := s.ledger l
  let finish (s : State) (st : Nat) : State := (s.popFront f q).fail f q x st
  match s.ioChecks f q x true true false with
  | some st => finish s st
  | none =>
    if !openFieldsOk x.e 3 ∨ x.e.length.toNat ≠ 0 then finish s Status.FIELD_INVALID
    else if y.st ≠ .unbound ∧ ¬ (y.st = .bound ∧ x.e.bytes 33 1 / 2 = 1 ∧ isPf f) then finish s Status.FIELD_INVALID
    else if y.st = .bound ∧ s.fnState y.fn = 2 then finish s Status.BUSY_RETRY
    else
      let s := if y.st = .bound then s.takeover l expired else s
      if (s.ledger l).st ≠ .unbound then s
      else
        let z := s.ledger l
        let n := s.controlRecord f q x .bind l (bindLabel f q z.prevFn z.prevQ z.unbindCause) false
        match s.dispatch n with
        | .wait t => t
        | .refuse st t => finish t st
        | .done _ _ =>
          -- the ledger is bound and its orphan receipts written before the BIND record takes its number
          let t := (s.bindLedger l f q x.e).writeOrphans l
          match t.dispatch n with
          | .done _ u => u.popFront f q
          | .wait u => u
          | .refuse st u => finish u st

/-- OPEN_LEDGER_REBIND (03, R123): `expired` that the drain window of a takeover has passed. -/
def execOpenLedgerRebind (f : Fn) (q : Q) (expired : Bool) (s : State) : Res :=
  .next <| s.frontCmd f.val q.val 4 fun x s => if x.e.bytes 32 1 = 2 then s.runRebind f.val q.val x expired else s

/-! ### CLOSE_LEDGER, CHECKPOINT_NOW, FLUSH -/

/-- Dispatch the CLOSE_LEDGER at the front of a queue (R124): the CLOSE record is numbered and the ledger is CLOSING. -/
def State.runClose (s : State) (f q : Nat) (x : FEntry) : State :=
  let l := x.e.ledger.toNat
  match s.ioChecks f q x true true true with
  | some st => (s.popFront f q).fail f q x st
  | none =>
    if !onlyBytes x.e [] then (s.popFront f q).fail f q x Status.FIELD_INVALID
    else match s.dispatch (s.controlRecord f q x .close l 0 true) with
      | .done n t => (t.setLedger l { t.ledger l with st := .closing, closeSeq := some n }).popFront f q
      | .wait t => t
      | .refuse st t => (t.popFront f q).fail f q x st

/-- CLOSE_LEDGER (03, R124). -/
def execCloseLedger (f : Fn) (q : Q) (s : State) : Res :=
  .next <| s.frontCmd f.val q.val 5 fun x s => s.runClose f.val q.val x

/-- DISPATCH_RECORD (01, R30): the command at the front of a queue that waits for credit is dispatched once every credit is there. -/
def execDispatchRecord (f : Fn) (q : Q) (name : BitVec 128) (s : State) : Res :=
  .next <|
    match s.front f.val q.val with
    | none => s
    | some x =>
      if !s.fnLive f.val || !s.served f.val q.val || s.modeRefuses x.e then s
      else if x.bad.isSome then s.sweep f.val q.val (s.qrt f.val q.val).fetched.length
      else
        let opc := x.e.opc.toNat
        if opc = 1 then s.runAppend f.val q.val x
        else if opc = 4 ∧ x.e.bytes 32 1 = 1 then s.runCreate f.val q.val x name.toNat
        else if opc = 4 ∧ x.e.bytes 32 1 = 2 then s.runRebind f.val q.val x false
        else if opc = 5 then s.runClose f.val q.val x
        else s

/-- The TIME_GAP record of a ledger after the archive epoch rose (03, R108): numbered once its credits and its tenant's key are there; true if it is
numbered, or no longer called for. -/
def State.numberGap (s : State) (g : Nat × Nat × Nat) : Bool × State :=
  let x := s.ledger g.1
  if x.st = .free ∨ x.st = .closed ∨ x.st = .closing then (true, s)
  else if !s.keyAvailable x.tenant then (false, s)
  else
    let n : NewRec := { ty := .timeGap, fn := noFn, q := 0, cid := 0, ledger := g.1, tenant := x.tenant, length := 0, sg := [], crcv := false,
                        hcrc := 0, dur := x.durableMode, ckpt := false, label := g.2.1 + g.2.2 * 2 ^ 32 }
    match s.dispatch n with
    | .done seq u => (true, match u.rec? g.1 seq with | some r => u.setRec g.1 seq { r with owed := false, inLock := decide (s.lifecycle = 3) } | none => u)
    | _ => (false, s)

/-- Number the TIME_GAP records that wait. -/
def State.numberGaps (s : State) : State :=
  s.led.gaps.foldl (fun t g =>
    let r := t.numberGap g
    if r.1 then { r.2 with led.gaps := r.2.led.gaps.erase g } else r.2) s

/-- CONTROL_RECORD_RESUME (03, R100; 05, R206): the control reserve is refilled as far as indices and bays are free, so that a control record
that waits for an extent can go on. -/
def execControlRecordResume (s : State) : Res := .next (s.refillReserve 16).numberGaps

/-- CHECKPOINT_NOW (03, R125): a checkpoint at the last numbered record, called for now if that record is chained, at its chaining otherwise. -/
def execCheckpointNow (f : Fn) (q : Q) (s : State) : Res :=
  .next <| s.hostCmd f.val q.val 6 fun x s =>
    let l := x.e.ledger.toNat
    match s.ioChecks f.val q.val x true true true with
    | some st => s.fail f.val q.val x st
    | none =>
      if !onlyBytes x.e [(32, 1)] ∨ 1 < x.e.bytes 32 1 then s.fail f.val q.val x Status.FIELD_INVALID
      else
        let y := s.ledger l
        let n := y.next - 1
        let has := s.ckptFormed l n || s.scv.calls.any fun c => c.ledger = l && c.seq = n
        let s := if y.unchained = y.next && !has then s.callCkpt l n 4 y.chain else s
        { s with led.waits := s.led.waits ++ [LWait.ckpt f.val q.val x.e.cid.toNat l n (x.e.bytes 32 1 = 1)] }.resolve

/-- FLUSH (03, R126). -/
def execFlush (f : Fn) (q : Q) (s : State) : Res :=
  .next <| s.hostCmd f.val q.val 9 fun x s =>
    let all := x.e.bytes 32 1 = 1
    let l := x.e.ledger.toNat
    match s.ioChecks f.val q.val x (!all) false (!all) with
    | some st => s.fail f.val q.val x st
    | none =>
      if !onlyBytes x.e [(32, 1)] ∨ 1 < x.e.bytes 32 1 ∨ (all ∧ l ≠ 0) then s.fail f.val q.val x Status.FIELD_INVALID
      else
        let ls := if all then s.boundTo f.val (some q.val) else [l]
        let upTo := ls.map fun k => (k, (s.ledger k).next - 1)
        let w := LWait.flush f.val q.val x.e.cid.toNat upTo (if all then 0 else (s.ledger l).next - 1)
        { s with led.waits := s.led.waits ++ [w] }.resolve

/-! ### LEDGER_STATUS (03, R127) -/

/-- The state code of a ledger. -/
def LState.code : LState → Nat
  | .free => 0
  | .bound => 1
  | .unbound => 2
  | .closing => 3
  | .closed => 4

/-- The 128 bytes of LEDGER_STATUS. -/
def State.ledgerBytes (s : State) (l : Nat) : List Nat :=
  let x := s.ledger l
  leBytes l 2 ++ [x.st.code, if x.durableMode then 1 else 0, x.tenant, (if x.rcptLost then 1 else 0) + (if x.rcptFault then 2 else 0),
    if x.st = .bound then x.fn else 0, if x.st = .bound then x.q else 0xFF] ++ leBytes x.next 8 ++ leBytes x.unchained 8 ++
    leBytes x.uncompleted 8 ++ leBytes x.lastCkpt 8 ++ leBytes x.rring 8 ++ [x.rlog, 0, 0, 0] ++ leBytes x.ckn 4 ++ leBytes x.ckt 4 ++
    leBytes (s.led.orphans.filter fun o => o.ledger = l).length 4 ++ leBytes (if x.rcptLost then x.lostFirst else 0) 8 ++
    leBytes x.openTicks 8 ++ leBytes x.chain 48

/-- LEDGER_STATUS (03, R127). -/
def execLedgerStatus (f : Fn) (q : Q) (s : State) : Res :=
  .next <| s.hostCmd f.val q.val 0x0A fun x s =>
    let l := x.e.ledger.toNat
    match s.ioChecks f.val q.val x true false false with
    | some st => s.fail f.val q.val x st
    | none =>
      if x.e.length.toNat < 128 then s.complete f.val q.val x.e.cid.toNat Status.BUFFER_SHORT 0 128
      else if !onlyBytes x.e [] then s.fail f.val q.val x Status.FIELD_INVALID
      else (s.hostScatter f.val x.sg (s.ledgerBytes l)).complete f.val q.val x.e.cid.toNat Status.SUCCESS (s.ledger l).st.code 0

/-! ### READ and VERIFY_RANGE (03, R118–R121; 01, R646) -/

/-- READ (03, R118; 01, R23, R646; 04, R645): it waits at the front of its queue for its span and its DLG slot. -/
def execRead (f : Fn) (q : Q) (s : State) : Res :=
  .next <| s.frontCmd f.val q.val 2 fun x s =>
    let l := x.e.ledger.toNat
    let seq := x.e.bytes 32 8
    let loc := x.e.bytes 40 8
    let t := (s.ledger l).tenant
    let stop (st r0 : Nat) : State := (s.popFront f.val q.val).complete f.val q.val x.e.cid.toNat st r0 0
    match s.ioChecks f.val q.val x true false false with
    | some st => stop st 0
    | none =>
      if s.archiveRo && !s.key.candidate then stop Status.ROLLBACK_DETECTED 0 -- 05, R217
      else if !onlyBytes x.e [(32, 16), (56, 8)] ∨ x.e.bytes 56 8 % 8 ≠ 0 then stop Status.FIELD_INVALID 0
      else if !s.keyAvailable t then stop Status.KEY_UNAVAILABLE 0
      else if (s.ledger l).unchained ≤ seq then stop Status.RECORD_ABSENT (s.ledger l).unchained
      else match s.locatorFault t loc with
        | some st => stop st 0
        | none =>
          let kib := spanKib (storedSize x.e.length.toNat)
          match s.borrow .read kib, s.readGroup .read with
          | some b, some g =>
            let use := ItemUse.readCmd f.val q.val x.e.cid.toNat x.sg (x.e.bytes 56 8) x.e.length.toNat
            ((s.popFront f.val q.val).reserveSpan .read kib b).startItem (s.newItem .read use f.val l seq t loc kib b g)
          | _, _ => s

/-- READ_DMA_COMPLETE (04, R156, R158, R159; 02, R68, R70): payload and header have left the hold region and the READ completes, or the DMA
stops; then the region is zeroed. None while the function is in D3hot (02, R47). A drain that waited for it goes on. -/
def execReadDmaComplete (i : Nat) (how : DmaEnd) (s : State) : Res :=
  .next <|
    match s.item? i with
    | none => s
    | some x =>
      if x.phase ≠ .leaving then s
      else match x.use, x.stored with
        | .readCmd fn q cid sg hptr _, some c =>
          if !s.fnLive fn then s
          else
            let s := if x.lhd then s.subFloor Reg.HIF_PORT_LHD.OCC (portOf x.fn) 1 else s
            let s := s.setItem i { x with lhd := false, phase := .zeroing }
            let s := match how with
              | .done =>
                let s := s.hostScatter fn sg (c.payload.map BitVec.toNat)
                let s := if hptr = 0 then s else s.hostWrite fn hptr 64 (headerBytes c.hdr)
                s.complete fn q cid Status.SUCCESS c.hdr.length (crc32c c.payload)
              | .staging => (s.event Ev.SLA_STAGING_UE).complete fn q cid Status.SEAL_MISMATCH 0 0
              | .fault how => (s.linkError (portOf fn) how).complete fn q cid Status.BUFFER_FAULT 0 0
            (s.finishSave fn).drained fn
        | _, _ => s

/-- The chain value before a sequence number that a VERIFY_RANGE may start from: the initial one for 0, or that of a held checkpoint at the
number before (R121). -/
def State.verifyStart (s : State) (l seq : Nat) : Option Nat :=
  if seq = 0 then some (s.ledger l).firstChain
  else ((s.scv.entries ++ s.scv.outside ++ s.scv.batches.flatMap (·.entries)).find? fun e => e.ledger = l && e.seq + 1 = seq && !e.dead).map (·.chain)

/-- VERIFY_RANGE (03, R121): `locs` are the locators of its buffer. -/
def execVerifyRange (f : Fn) (q : Q) (locs : List (BitVec 64)) (s : State) : Res :=
  .next <|
    s.hostCmd f.val q.val 3 fun x s =>
      let l := x.e.ledger.toNat
      let seq := x.e.bytes 32 8
      let count := x.e.bytes 40 4
      match s.ioChecks f.val q.val x true false false with
      | some st => s.fail f.val q.val x st
      | none =>
        if !onlyBytes x.e [(32, 12)] ∨ count = 0 ∨ 4096 < count ∨ x.e.length.toNat ≠ 8 * count ∨ locs.length ≠ count then
          s.fail f.val q.val x Status.FIELD_INVALID
        else if !s.keyAvailable (s.ledger l).tenant then s.fail f.val q.val x Status.KEY_UNAVAILABLE
        else match s.verifyStart l seq with
          | none => s.fail f.val q.val x Status.FIELD_INVALID
          | some c =>
            let r := s.led.nextVerify
            let v : VerifyRun := ⟨f.val, q.val, x.e.cid.toNat, l, seq, locs.map BitVec.toNat, c, 0⟩
            { s with led.verify := Tab.put r v s.led.verify, led.nextVerify := r + 1 }.verifyNext r

end Sys2Proof.Machine
end

