-- ==== Sys2Proof/Machine/Strongroom.lean ====
section
/-!
DEFINITION. Machine/Strongroom.lean: Strongroom's keys and caches (05, R183–R201) and the tenants.
-/

namespace Sys2Proof.Machine

/-- The caches of keys in clear are emptied (05, R192). -/
def State.clearCaches (s : State) : State := { s with key.ucache := [], key.dkc := [] }

/-- The key registers of all lanes are cleared; a lane that works abandons what it works on with a cause (04, R163; 05, R192). -/
def State.clearLaneKeys (s : State) (cause : Nat) : State :=
  (Tab.keys s.lane.rt).foldl (fun t n =>
    if 2 ≤ t.laneState n ∧ t.laneState n ≤ 4 then t.abandon n cause
    else t.setLane n { t.laneRt n with key := none, wantKey := none }) s

/-- The ERASE_CACHE action (05, R192): both caches and every lane's key register, records on lanes abandoned with cause 5. -/
def State.eraseCache (s : State) : State :=
  ((s.clearCaches.clearLaneKeys 5).wr Reg.STR_STATUS.CACHE_ERASED 0 1).event Ev.STR_CACHE_ERASED

/-- The numbered records of KEY_ABSENT tenants whose tag is not released become void with cause 5 (16, R555). -/
def State.voidKeyless (s : State) : State :=
  (s.led.recs.filter fun x => (s.tenant x.2.tenant).st = 2 && x.2.tag.isNone && x.2.voidCause = 0).foldl
    (fun t x => t.voidRecord (keyLedger x.1) (keySeq x.1) 5 true) s

/-- The ERASE_KEK action (05, R192, R201; 16, R555): S and the KEK register are cleared, both caches erased, every ACTIVE tenant is KEY_ABSENT, its
records without a tag become void. -/
def State.eraseKek (s : State) : State :=
  let s := { s with key.kek := 0, key.secretS := 0,
                    key.tenants := Tab.mapVal (fun _ (x : Tenant) => if x.st = 1 then { x with st := 2 } else x) s.key.tenants }
  ((s.wr Reg.STR_STATUS.KEK_VALID 0 0).eraseCache).voidKeyless

/-- STR_ERASE_CACHE (05, R192, R223). -/
def execStrEraseCache (m : Fin 16) (s : State) : Res := .next <| s.guardWrite m.val 0x40300040 State.eraseCache

/-- STR_DKC_FLUSH (05, R223). -/
def execStrDkcFlush (m : Fin 16) (s : State) : Res := .next <| s.guardWrite m.val 0x40300040 fun s => { s with key.dkc := [] }

/-- A slot of the slot table. -/
def State.slot (s : State) (n : Nat) : KeySlot := Tab.getD s.key.slots n ⟨0, 0, 0, 0, 0, 0⟩

/-- Write a slot: SLOTGEN rises by 1 (05, R188). -/
def State.setSlot (s : State) (n : Nat) (x : KeySlot) : State :=
  { s with key.slots := Tab.put n { x with gen := (s.slot n).gen + 1 } s.key.slots }

/-- The check value of a tenant key (05, R184; log entry 4). -/
def tkcv (tk : Nat) : Nat := Config.kdf tk [0x544B4356] % 2 ^ 64

/-- The KEK derived from RK and S (05, R184; log entry 4). -/
def deriveKek (rk secret : Nat) : Nat := Config.kdf rk [0x4B454B, secret]

/-- The check value of the KEK (05, R184; log entry 4). -/
def kcvOf (kek : Nat) : Nat := Config.kdf kek [0x4B4356] % 2 ^ 64

/-- A draw from the random number generator for the device's own use (09, R349; log entry 5). -/
def State.random (s : State) (instance_ : Nat) : Nat × State := (Config.random instance_ s.fresh, { s with fresh := s.fresh + 1 })

/-- The KEK is lost (05, R201): a new S and KEK, tenant slots of TYPE 3, policy slots empty, every tenant KEY_ABSENT. -/
def State.kekLost (s : State) : State :=
  let d := s.random 0
  let s := d.2
  let kek := deriveKek s.key.rk d.1
  let slots := Tab.mapVal (fun n (x : KeySlot) =>
    if n < 256 then (if x.ty = 1 then { x with ty := 3, key := 0, gen := x.gen + 1 } else x)
    else { x with ty := 0, owner := 0, key := 0, check := 0, usage := 0, gen := x.gen + 1 }) s.key.slots
  let tenants := Tab.mapVal (fun _ (x : Tenant) => if x.st = 1 then { x with st := 2 } else x) s.key.tenants
  let s := { s with key.secretS := d.1, key.kek := kek, key.kcv := some (kcvOf kek), key.slots := slots, key.tenants := tenants }
  ((s.wr Reg.STR_STATUS.KEK_LOST 0 1).wr Reg.STR_STATUS.KEK_VALID 0 1).event Ev.STR_KEK_LOST

/-- The Keeper derives the KEK and checks its KCV (05, R185, R201), in the life-cycle states that hold one. -/
def State.deriveKeys (s : State) : State :=
  if s.lifecycle = 2 ∨ s.lifecycle = 3 then
    let kek := deriveKek s.key.rk s.key.secretS
    if s.key.secretS ≠ 0 ∧ s.key.kcv = some (kcvOf kek) then
      ({ s with key.kek := kek }.wr Reg.STR_STATUS.KEK_VALID 0 1).wr Reg.STR_STATUS.KEK_LOST 0 0
    else s.kekLost
  else s

/-- A tenant is created (05, R188, R194, R196; 10, R397): its key is drawn and its slot written; it is ACTIVE. -/
def State.createTenant (s : State) (t : Nat) (x : Tenant) : State :=
  let d := s.random 0
  let s := d.2.setSlot t ⟨1, t, 0, 0, d.1, tkcv d.1⟩
  (s.setTenant t { x with st := 1 }).event Ev.STR_TENANT_CHANGE

end Sys2Proof.Machine
end

