-- ==== Sys2Proof/Machine/Media.lean ====
section
/-!
DEFINITION. Machine/Media.lean: media ports and their drives (07, R263–R274, R299), ranks and their membership (R275–R279, R293–R298), unit
appends (R285–R288).
-/

namespace Sys2Proof.Machine

/-! ### Ports -/

/-- Replace it. -/
def State.setPort (s : State) (p : Nat) (x : PortRt) : State := { s with media.port := Tab.put p x s.media.port }

/-- Set the state of a port (07, R264). -/
def State.setPortState (s : State) (p v : Nat) : State := s.wr Reg.MPX_PORT_STATUS.STATE p v

/-- A port fused off on the CX4-128-IT (07, R263). -/
def portFused (p : Nat) : Bool := 64 ≤ p && Config.part128

/-- Assert a drive's SGPIO reset bit (07, R265, R271, R272). -/
def State.driveReset (s : State) (p : Nat) (on : Bool) : State := s.send (.nvme p "reset" [if on then 1 else 0])

/-- Start the bring-up of a drive (07, R271 step 1). -/
def State.bringUp (s : State) (p : Nat) : State :=
  let s := (s.setPortState p 1).setPort p ⟨1, none, ⟨0, 0, 0, 0, 0⟩, false, 0⟩
  (((s.wr Reg.MPX_PORT_STATUS.LINK_UP p 0).wr Reg.MPX_PORT_STATUS.FOREIGN p 0).wr Reg.MPX_PORT_STATUS.RECOVER p 0).driveReset p true

/-! ### Ranks: membership and loss (07, R276–R279, R293–R295) -/

/-- An OPEN extent leaves its open set before it is full (07, R287, R293): it is sealed, its standby becomes current, a new standby is allocated. -/
def State.dropOpen (s : State) (e : Nat) : State :=
  let x := s.ext e
  if x.st ≠ .openE then s
  else
    let s := s.sealExtent e
    let t := x.tenant
    match (List.range (s.tenant t).opens.length).find? fun p =>
        ((s.tenant t).pos p).cur = e + 1 || ((s.tenant t).pos p).standby = e + 1 with
    | none => s
    | some p =>
      let ps := (s.tenant t).pos p
      let cur := if ps.cur = e + 1 then ps.standby else ps.cur
      let s := s.setTenant t ((s.tenant t).setPos p ⟨cur, 0⟩)
      if cur = 0 then s
      else match s.allocExtent t false with
        | .ok n s => s.setTenant t ((s.tenant t).setPos p ⟨cur, n + 1⟩)
        | .quota s => s
        | _ => s

/-- A rank becomes FAILED (07, R293; 08, R321). -/
def State.failRank (s : State) (r : Nat) : State :=
  let opens := (s.key.ext.filter fun x => x.2.st = .openE && x.2.rank = r).map (·.1)
  let s := opens.foldl State.dropOpen s
  let s := (s.media.stripes.filter fun x => x.rank = r).foldl State.loseStripe s
  s.abandonMigs (fun m => m.srcRank = r) false

/-- A rank changes (07, R279): a change of its state is logged, FAILED has its effects, and migrations to a rank that is not OPTIMAL are abandoned
(08, R321). -/
def State.changeRank (s : State) (r : Nat) (x : RankRt) : State :=
  let old := s.rankState r
  let s := s.setRank r x
  let s := if old = x.state then s
    else
      let s := (s.event Ev.CPR_RANK_STATE).rankLogNoDrive 7 r 0xFF x.gen 0 0 x.state
      if x.state = 4 then s.failRank r else s
  if x.state = 1 then s else s.abandonMigs (fun m => m.rank = r) true

/-- Write the labels of a rank's members (07, R277). -/
def State.relabel (s : State) (r : Nat) : State :=
  match s.rank? r with
  | some x => (x.slots.zip (List.range x.slots.length)).foldl (fun t y =>
      if y.1.st ≠ 1 && t.portState y.1.port = 2 then t.send (.nvme y.1.port "label" [1, r, y.2, x.gen]) else t) s
  | none => s

/-- Bays of a rank held by extents in some states, in the order of extent index (07, R295). -/
def State.baysIn (s : State) (r : Nat) (p : EState → Bool) : List Nat :=
  (s.key.ext.filter fun x => x.2.rank = r && p x.2.st).map (·.2.bay)

/-- The bays of a rebuild walk in its order (07, R295): OPEN extents, log bays, SEALED and MIGRATING extents. -/
def State.walkBays (s : State) (r : Nat) : List Nat :=
  s.baysIn r (· = .openE) ++ (match s.rank? r with | some x => x.logBays | none => []) ++
    s.baysIn r fun e => e = .sealedE || e = .migrating

/-- A drive takes a slot in state REBUILDING (07, R277, R294, R295): a membership change, its labels, and the walk. -/
def State.takeSlot (s : State) (r i p : Nat) (rejoin : Bool) (worn : Option Nat) : State :=
  match s.rank? r with
  | none => s
  | some x =>
    let x' := { x with gen := x.gen + 1, slots := x.slots.set i ⟨2, s.portNguid p, p⟩ }
    let s := (s.changeRank r x').rankLog (if rejoin then 6 else 2) r i p x'.gen 0 0 0 (s.portNguid p % 2 ^ 64)
    let s := ((s.setPortState p 2).wr Reg.MPX_PORT_STATUS.RANK p r).wr Reg.MPX_PORT_STATUS.SLOT p i
    let s := (s.wr Reg.MPX_PORT_STATUS.RECOVER p 0).relabel r
    let s := s.wr Reg.CPR_RANK_RBLD.DONE (r * 20 + i) 0
    { s with media.walks := s.media.walks.filter (fun (w : Walk) => !(w.rank = r && w.slot = i)) ++ [(⟨r, i, s.walkBays r, rejoin, worn⟩ : Walk)],
             media.spares := s.media.spares.filter (· ≠ s.portNguid p) }

/-- A drive may occupy a slot of a rank (07, R269, R275): append size, zone capacity, bays. -/
def RankRt.fits (x : RankRt) (d : Drive) : Bool :=
  d.ok && x.unitSize ≤ d.zasl * 4096 && x.zcap ≤ d.zcap && x.bays ≤ (d.zones - x.firstZone) / max 1 x.zpb

/-- The spare for a rank (07, R294): it fits, has the fewest usable zones and, among those, the lowest port. -/
def State.spareFor (s : State) (x : RankRt) : Option Nat :=
  (List.range 128).foldl (fun best p =>
    match (s.portRt p).drive with
    | some d =>
      if s.portState p = 3 && x.fits d then
        match best with
        | none => some p
        | some b => (match (s.portRt b).drive with | some e => if d.zones < e.zones then some p else best | none => some p)
      else best
    | none => best) none

/-- A slot becomes MISSING (07, R277, R294): the departed list, a new generation, the labels; a fitting spare takes it where setting 0x4003 is 1. -/
def State.slotMissing (s : State) (r i : Nat) : State :=
  match s.rank? r with
  | none => s
  | some x =>
    let y := x.slots.getD i ⟨1, 0, 0⟩
    let x' := { x with gen := x.gen + 1, slots := x.slots.set i { y with st := 1 },
                       departed := ((y.nguid, x.gen + 1) :: x.departed).take 16 }
    let s := { s with media.walks := s.media.walks.filter fun (w : Walk) => !(w.rank = r && w.slot = i) }
    let s := (s.changeRank r x').rankLog 3 r i y.port x'.gen 0 0 0 (y.nguid % 2 ^ 64)
    let s := s.relabel r
    let s := if s.setting 0x4003 = 1 then
        match s.spareFor x' with
        | some p => s.takeSlot r i p false none
        | none => s
      else s
    s.settleStripes.resolve

/-- The rank and slot that a port's drive occupies in the rank table, not MISSING. -/
def State.slotOfPort (s : State) (p : Nat) : Option (Nat × Nat) :=
  s.media.rank.findSome? fun x =>
    ((List.range x.2.slots.length).find? fun i =>
      match x.2.slots[i]? with | some y => decide (y.port = p) && decide (y.st ≠ 1) | none => false).map fun i => (x.1, i)

/-- A port is declared down (07, R265), for a reason of log 0x43's DETAIL: units in flight return, the drive is reset, a MEMBER's slot goes
MISSING. -/
def State.portDown (s : State) (p detail : Nat) : State :=
  let old := s.portState p
  if old = 0 ∨ old = 7 then s
  else
    let m := if old = 2 then s.slotOfPort p else none
    let gen := match m with | some (r, _) => (match s.rank? r with | some x => x.gen | none => 0) | none => 0
    let s := ((s.setPortState p 7).wr Reg.MPX_PORT_STATUS.LINK_UP p 0).event Ev.MPX_PORT_DOWN
    let s := s.rankLog 1 (match m with | some x => x.1 | none => 0xFF) (match m with | some x => x.2 | none => 0xFF) p gen 0 0 detail
      (s.portNguid p % 2 ^ 64)
    let s := s.driveReset p true
    match m with
    | some (r, i) => s.slotMissing r i
    | none => s

/-- A port is declared down for a cause that is none of the six of R265: its DETAIL is a free value (log entry 3). -/
def State.portDownOther (s : State) (p : Nat) : State := let d := s.draw; d.2.portDown p (d.1 % 256)

/-! ### Rows: presence and bring-up (07, R264, R271, R278) -/

/-- Presence of a port. -/
def State.setPresent (s : State) (p : Nat) (on : Bool) : State := s.wr Reg.MPX_PORT_STATUS.PRESENT p (if on then 1 else 0)

/-- MEDIA_PRESENCE (07, R264): a port whose presence was lost is EMPTY before it is asserted again, a DOWN port too. -/
def execMediaPresence (p : Port) (s : State) : Res :=
  .next <| if portFused p.val then s else
    let gone := !s.isSet Reg.MPX_PORT_STATUS.PRESENT p.val && decide (s.portState p.val = 7)
    let s := s.setPresent p.val true
    if s.portState p.val = 0 || gone then s.bringUp p.val else s

/-- A drive's Identify data meets R269 in any role. -/
def driveMeets (d : Drive) : Bool := d.ok && 4 ≤ d.zasl && 8 ≤ d.mar && 256 ≤ d.zcap && d.zcap ≤ 4096

/-- The registers that show a drive (07, R306). -/
def State.showDrive (s : State) (p : Nat) (d : Drive) : State :=
  let s := (List.range 4).foldl (fun t n => t.wr Reg.MPX_PORT_NGUID.NGUID (p * 4 + n) (d.nguid / 2 ^ (32 * n))) s
  ((((s.wr Reg.MPX_PORT_GEOM.ZCAPMIB p d.zcap).wr Reg.MPX_PORT_GEOM.MAR p (min d.mar 255)).wr Reg.MPX_PORT_GEOM.ZASL p (min d.zasl 255))).wr
    Reg.MPX_PORT_ZONES.COUNT p d.zones

/-- DRIVE_BRINGUP_STEP (07, R269, R271): the next step of a port in BRINGUP; a drive that fails R269 is REJECTED. -/
def execDriveBringupStep (p : Port) (b : BringStep) (s : State) : Res :=
  .next <|
    let p := p.val
    let x := s.portRt p
    if s.portState p ≠ 1 then s
    else match x.step, b with
      | 1, .resetReleased => (s.setPort p { x with step := 2 }).driveReset p false
      | 2, .link rate =>
        ((s.setPort p { x with step := 3 }).wr Reg.MPX_PORT_STATUS.LINK_UP p 1).wr Reg.MPX_PORT_STATUS.RATE p rate.toNat
      | 3, .ready => s.setPort p { x with step := 4 }
      | 4, .identified d =>
        let s := (s.setPort p { x with step := 5, drive := some d }).showDrive p d
        if driveMeets d then s
        else ((s.setPortState p 6).event Ev.MPX_REJECTED).rankLog 10 0xFF 0xFF p 0 0 0 0 (d.nguid % 2 ^ 64)
      | 5, .queues => s.setPort p { x with step := 6 }
      | 6, .label r =>
        match r with
        | .empty => s.setPort p { x with step := 7, label := ⟨255, 0, 0, 0, 0⟩ }
        | .invalid => s.setPort p { x with step := 7, label := ⟨0, 0, 0, 0, 0⟩ }
        | .label l => (s.setPort p { x with step := 7, label := l }).wr Reg.MPX_PORT_LGEN.MEMBGEN p l.gen
      | _, _ => s

/-- The slot whose recorded occupant is a drive, IN_SERVICE. -/
def State.occupied (s : State) (nguid : Nat) : Option (Nat × Nat) :=
  s.media.rank.findSome? fun x =>
    ((List.range x.2.slots.length).find? fun i =>
      match x.2.slots[i]? with | some y => y.nguid = nguid && y.st = 0 | none => false).map fun i => (x.1, i)

/-- Admit a MEMBER (07, R278): its slot's last port is this one; relabelled where its generation is not G. -/
def State.admitMember (s : State) (p r i gen : Nat) : State :=
  match s.rank? r with
  | none => s
  | some x =>
    let s := s.setRank r { x with slots := x.slots.set i { x.slots.getD i ⟨0, 0, 0⟩ with port := p } }
    let s := ((s.setPortState p 2).wr Reg.MPX_PORT_STATUS.RANK p r).wr Reg.MPX_PORT_STATUS.SLOT p i
    if gen = x.gen then s else s.send (.nvme p "label" [1, r, i, x.gen])

/-- DRIVE_ADMIT (07, R278): the first line that applies. A label with ROLE 255 stands for an empty zone 0 (log entry 12). -/
def execDriveAdmit (p : Port) (s : State) : Res :=
  .next <|
    let p := p.val
    let x := s.portRt p
    if s.portState p ≠ 1 ∨ x.step ≠ 7 then s
    else
      let l := x.label
      let nguid := s.portNguid p
      let s := s.event Ev.MPX_PORT_UP
      let s := s.setPort p { x with step := 8 }
      if l.role = 255 then
        match s.occupied nguid with
        | some (r, i) => s.admitMember p r i 0
        | none => s.setPortState p 4
      else if l.role = 0 then s.setPortState p 4
      else if l.serial ≠ Config.serial then (s.setPortState p 4).wr Reg.MPX_PORT_STATUS.FOREIGN p 1
      else if l.role = 3 then s.setPortState p 4
      else if l.role = 2 ∧ s.media.spares.contains nguid then s.setPortState p 3
      else
        let g := match s.rank? l.rank with | some r => r.gen | none => 0
        match s.occupied nguid with
        | some (r, i) =>
          if r = l.rank ∧ i = l.slot ∧ (l.gen = g ∨ l.gen + 1 = g) then s.admitMember p r i l.gen
          else ((s.setPortState p 5).event Ev.MPX_QUARANTINE).rankLog 5 0xFF 0xFF p g 0 0 0 (nguid % 2 ^ 64)
        | none =>
          ((s.setPortState p 5).event Ev.MPX_QUARANTINE).rankLog 5 0xFF 0xFF p g 0 0 0 (nguid % 2 ^ 64)

/-- BRINGUP_TIMEOUT (07, R264, R271): a port in BRINGUP is declared down. -/
def execBringupTimeout (p : Port) (s : State) : Res := .next <| if s.portState p.val = 1 then s.portDownOther p.val else s

/-- MEDIA_LINK_DOWN_TIMER (07, R265, first condition). -/
def execMediaLinkDownTimer (p : Port) (s : State) : Res := .next <| (s.wr Reg.MPX_PORT_STATUS.LINK_UP p.val 0).portDown p.val 1

/-- MEDIA_PRESENCE_LOST (07, R264, R265, second condition). -/
def execMediaPresenceLost (p : Port) (s : State) : Res :=
  .next <|
    let s := s.setPresent p.val false
    if s.portState p.val = 7 then s.setPortState p.val 0 else s.portDown p.val 2

/-- NVME_COMMAND_TIMEOUT (07, R265 fourth condition, R270): a first expiry aborts the command; its second declares the port down. -/
def execNvmeCommandTimeout (p : Port) (again : Bool) (s : State) : Res :=
  .next <|
    let p := p.val
    if s.portState p = 0 ∨ s.portState p = 7 then s
    else
      let s := s.addSat Reg.MPX_PORT_ERRS.TIMEOUTS p 1
      if again && (s.portRt p).timedOut then (s.setPort p { s.portRt p with timedOut := false }).portDown p 4
      else (s.setPort p { s.portRt p with timedOut := true }).send (.nvme p "abort" [])

/-! ### Degraded bay-members (07, R287) -/

/-- The extent that holds a bay. -/
def State.extentAt (s : State) (r b : Nat) : Option Nat :=
  (s.key.ext.find? fun x => x.2.rank = r && x.2.bay = b && (x.2.st = .openE || x.2.st = .sealedE || x.2.st = .migrating)).map (·.1)

/-- A bay-member becomes degraded for its bay (07, R287): counted and logged, its zones finished; the extent is sealed and handed to
Retention; a migration to the bay is abandoned (08, R321). -/
def State.degrade (s : State) (r b slot : Nat) : State :=
  match s.rank? r with
  | none => s
  | some x =>
    let p := (x.slots.getD slot ⟨0, 0, 0⟩).port
    let s := (s.addSat Reg.MPX_PORT_ERRS.IOERRS p 1).event Ev.MPX_APPEND_ERR
    let s := s.send (.nvme p "finish" [b])
    let s := if s.media.degraded.contains (r, b, slot) then s else { s with media.degraded := (r, b, slot) :: s.media.degraded }
    let e := s.extentAt r b
    let s := s.rankLog 8 r slot p x.gen (e.getD 0) 0 0 (s.portNguid p % 2 ^ 64)
    let s := match e with | some e => (s.dropOpen e).attend e 2 none | none => s
    (s.abandonMigs (fun m => m.rank = r && m.bay = b) true).settleStripes.resolve

/-- DRIVE_ASYNC_EVENT (07, R265, R267). -/
def execDriveAsyncEvent (p : Port) (a : AsyncEvent) (s : State) : Res :=
  .next <|
    let p := p.val
    if s.portState p = 0 ∨ s.portState p = 7 then s
    else match a with
      | .fatal => s.portDown p 3
      | .health => (s.event Ev.MPX_HEALTH).send (.nvme p "getLogPage" [2])
      | .namespaceChanged => s.portDown p 5
      | .zonesChanged bays =>
        let s := s.send (.nvme p "getLogPage" [0xBF])
        match s.slotOfPort p with
        | some (r, i) => bays.foldl (fun t b => if (t.extentAt r b).isSome || (match t.rank? r with | some x => x.logBays.contains b | none => false)
            then t.degrade r b i else t) s
        | none => s

/-! ### Appends (07, R266, R286, R287) -/

/-- A unit of a stripe may be appended (01, R19, R20): its assigned bytes have arrived, and every record that ends in it is chained; a data
unit is full or its stripe closed, a parity unit waits for the whole stripe. -/
def State.unitReady (s : State) (x : Stripe) (r : RankRt) (slot : Nat) : Bool :=
  let n := r.k + r.m
  let unit := (slot + n - x.stripe % n) % n
  let p := r.unitSize - 32
  let lo := x.stripe * r.stripeBytes + (if unit < r.k then unit * p else 0)
  let hi := x.stripe * r.stripeBytes + (if unit < r.k then (unit + 1) * p else r.stripeBytes)
  (x.closed || (unit < r.k && (unit + 1) * p ≤ x.assigned)) &&
    s.led.recs.all fun y =>
      let c := y.2
      let stop := c.offset + storedSize (if c.voidCause = 0 then c.length else 0)
      c.extent ≠ x.extent || (c.voidCause ≠ 0 && !c.placed) || stop ≤ lo || hi ≤ c.offset ||
        (c.tag.isSome && (c.chained || hi < stop))

/-- The port counts a completed append (07, R306; 08, R308). -/
def State.appendCounted (s : State) (p us bytes : Nat) : State :=
  let s := (s.addWrap Reg.MPX_PORT_CMDS.COUNT p 1).wr Reg.MPX_PORT_LAT.US p (max us (s.rd Reg.MPX_PORT_LAT.US p))
  let s := s.setPort p { s.portRt p with timedOut := false }
  let d := s.driveRec p
  let lats := (us :: d.lats).take (2 ^ 20)
  let s := { s with asy.drive := Tab.put p { d with lats := lats, wrBytes := d.wrBytes + bytes } s.asy.drive }
  s.wr Reg.ASY_DRIVE_LAT.AVG p (min 0xFFFF (lats.sum / max 1 lats.length))

/-- UNIT_APPEND_DONE (07, R266, R286; 01, R21): the unit is acknowledged `us` microseconds after its issue; an idle port takes the settings
epoch up (03, R135). -/
def execUnitAppendDone (a : AppendOf) (us : BitVec 32) (s : State) : Res :=
  .next <|
    match a with
    | .metadata p => s.appendCounted p.val us.toNat 0
    | .label p => s.appendCounted p.val us.toNat 4096
    | .unit e st slot inOrder =>
      match s.media.stripes.find? fun x => x.extent = e && x.stripe = st with
      | none => s
      | some x =>
        match s.rank? x.rank with
        | none => s
        | some r =>
          match r.slots[slot]? with
          | none => s
          | some y =>
            if y.st ≠ 0 ∨ x.acked.contains slot ∨ s.portState y.port ≠ 2 ∨ !s.unitReady x r slot then s
            else
              let s := { s with media.stripes := s.media.stripes.map fun (z : Stripe) =>
                if z.extent = e && z.stripe = st then { z with acked := slot :: z.acked } else z }
              let s := (s.appendCounted y.port us.toNat r.unitSize).addWrap Reg.CPR_ENC_BYTES.BYTES 0 r.unitSize
              let s := if inOrder then s else s.addSat Reg.MPX_PORT_DISPLACED.COUNT y.port 1
              let s := s.settleStripes.resolve
              if s.busyPorts.contains y.port then s else s.takeUp 2 y.port

/-- UNIT_APPEND_ERROR (07, R267, R277, R287): the failed append is not retried; the drive's error log is read. -/
def execUnitAppendError (a : AppendOf) (s : State) : Res :=
  .next <|
    match a with
    | .metadata p => ((s.addSat Reg.MPX_PORT_ERRS.IOERRS p.val 1).event Ev.MPX_APPEND_ERR).send (.nvme p.val "getLogPage" [1])
    | .label p =>
      let s := ((s.addSat Reg.MPX_PORT_ERRS.IOERRS p.val 1).event Ev.MPX_APPEND_ERR).send (.nvme p.val "getLogPage" [1])
      if s.portState p.val = 2 then s.portDownOther p.val else s
    | .unit e st slot _ =>
      match s.media.stripes.find? fun x => x.extent = e && x.stripe = st with
      | none => s
      | some x =>
        if x.acked.contains slot then s
        else match s.rank? x.rank with
          | some r => (s.send (.nvme (r.slots.getD slot ⟨0, 0, 0⟩).port "getLogPage" [1])).degrade x.rank x.bay slot
          | none => s

/-- STRIPE_CLOSE_TIMER (01, R20; 07, R285). -/
def execStripeCloseTimer (e : ExtIdx) (stripe : BitVec 16) (s : State) : Res := .next (s.padStripe e.val stripe.toNat).settleStripes.resolve

/-! ### Rebuild (07, R295, R296) -/

/-- End a rebuild walk (07, R295; 08, R324). -/
def State.endWalk (s : State) (w : Walk) : State :=
  let s := { s with media.walks := s.media.walks.erase w }
  match s.rank? w.rank with
  | none => s
  | some x =>
    let y := x.slots.getD w.slot ⟨2, 0, 0⟩
    let s := (s.changeRank w.rank { x with slots := x.slots.set w.slot { y with st := 0 } }).event Ev.CPR_REBUILD_DONE
    let s := (s.rankLog 4 w.rank w.slot y.port x.gen 0 0 0 (y.nguid % 2 ^ 64)).callPersist
    match w.worn with
    | some p => if s.portState p = 2 then (s.setPortState p 4).send (.nvme p "label" [3, 0xFF, 0xFF, 0]) else s
    | none => s

/-- A bay is still used: held by an extent whose data the walk rebuilds, or a log bay. -/
def State.bayUsed (s : State) (r b : Nat) : Bool :=
  (s.extentAt r b).isSome || (match s.rank? r with | some x => x.logBays.contains b | none => false)

/-- The walk drops bays that are released or migrated, and ends when none is left. -/
def State.advanceWalk (s : State) (w : Walk) : State :=
  let t := w.todo.filter fun b => s.bayUsed w.rank b
  let w' := { w with todo := t }
  let s := { s with media.walks := s.media.walks.map fun (x : Walk) => if x = w then w' else x }
  if t = [] then s.endWalk w' else s

/-- REBUILD_BAY_DONE (07, R295, R296): the walk of a slot has filled its next bay; `lost` stripes got a FILLER unit; `disagrees` names the
slot whose unit a cross-check found wrong. -/
def execRebuildBayDone (r : Rank) (slot : Fin 20) (lost : List Nat) (disagrees : Option Nat) (s : State) : Res :=
  .next <|
    match s.media.walks.find? fun w => w.rank = r.val && w.slot = slot.val with
    | none => s
    | some w =>
      match w.todo.find? fun b => s.bayUsed r.val b with
      | none => s.advanceWalk w
      | some b =>
        let gen := match s.rank? r.val with | some x => x.gen | none => 0
        let e := (s.extentAt r.val b).getD 0
        let s := lost.foldl (fun t st => (t.rankLogNoDrive 9 r.val slot.val gen e st 0).event Ev.CPR_STRIPE_LOST) s
        let s := match disagrees with
          | some j => (s.reportBad e (lost.headD 0) j).event Ev.CPR_CROSSCHECK
          | none => s
        let s := { s with media.degraded := s.media.degraded.filter (· ≠ (r.val, b, slot.val)) }
        let s := s.addWrap Reg.CPR_RANK_RBLD.DONE (r.val * 20 + slot.val) 1
        let w' := { w with todo := w.todo.erase b }
        ({ s with media.walks := s.media.walks.map fun (x : Walk) => if x = w then w' else x }).advanceWalk w'

/-- MPX_PORT_RESET (07, R265 sixth condition, R299). -/
def execMpxPortReset (m : Fin 16) (p : Port) (s : State) : Res :=
  .next <| s.guardWrite m.val (0x40900004 + p.val * 0x1000) fun s =>
    if portFused p.val ∨ s.portState p.val = 0 then s
    else if s.portState p.val = 2 then s.portDown p.val 6 else s.bringUp p.val

/-! ### RANK_CONTROL (07, R301, R302) -/

/-- The first two checks of R302: LOCKED, BLANK or RETIRED; the archive read-only. -/
def State.rankRefused (s : State) (readOnlyToo : Bool) : Option Nat :=
  if s.lifecycle = 3 then some Status.DEVICE_LOCKED
  else if s.lifecycle = 0 ∨ s.lifecycle = 4 then some Status.LIFECYCLE_STATE
  else if !readOnlyToo && s.archiveRo then some Status.ROLLBACK_DETECTED
  else none

/-- The command-specific bytes of RANK_CONTROL that R301 lists, in range. -/
def rankFields (e : Entry) : Bool :=
  onlyBytes e [(32, 7), (40, 20)] && e.bytes 33 1 < 32 && e.bytes 34 1 < 20 && e.bytes 35 1 < 128 && !portFused (e.bytes 35 1) && e.bytes 38 1 < 8

/-- A row of RANK_CONTROL: the checks that all share, then `run`, which answers a status or the state and RES0. It waits while another
exclusive admin command runs (03, R128). -/
def State.rankRow (s : State) (f q sub : Nat) (readOnlyToo : Bool) (run : Entry → State → Nat ⊕ (State × Nat)) : State :=
  if s.set.excl then s
  else s.subCmd f q 0x8F sub 10 (fun _ => (s.rankRefused false).map fun st => (st, 0)) fun x s =>
    match s.rankRefused readOnlyToo with
    | some st => s.fail f q x st
    | none =>
      if !rankFields x.e then s.fail f q x Status.FIELD_INVALID
      else match run x.e s with
        | .inl st => s.fail f q x st
        | .inr (t, res0) => t.complete f q x.e.cid.toNat Status.SUCCESS res0 0

/-- Stripes of an extent and zones of a bay for a geometry (07, R280). -/
def zonesPerBay (k unit zcapMib : Nat) : Nat :=
  let ns := (2 ^ 30 + k * (unit - 32) - 1) / (k * (unit - 32))
  let per := zcapMib * 2 ^ 20 / unit
  (ns + per - 1) / max 1 per

/-- The rank that CREATE makes of some ports (07, R275, R277, R280). -/
def State.newRank (s : State) (k m : Nat) (unit64 : Bool) (ports : List Nat) : RankRt :=
  let drives := ports.filterMap fun p => (s.portRt p).drive
  let zcap := drives.foldl (fun a d => min a d.zcap) 4096
  let j := s.setting 0x4030
  let zpb := zonesPerBay k (if unit64 then 65536 else 16384) zcap
  let bays := drives.foldl (fun a d => min a ((d.zones - (3 + j)) / max 1 zpb)) (2 ^ 24 - 1)
  ⟨k, m, unit64, 1, bays, zpb, zcap, j, ports.map fun p => ⟨0, s.portNguid p, p⟩, [], [], [], false⟩

/-- A port carries another device's label and FORCE is not set. -/
def State.foreign (s : State) (e : Entry) (p : Nat) : Bool := s.isSet Reg.MPX_PORT_STATUS.FOREIGN p && !(e.bytes 38 1).testBit 1

/-- RANK_CREATE (07, R301, R302): zones reset, labels written, the rank committed, a full persist asked for; the control reserve fills. -/
def execRankCreate (f : Fn) (q : Q) (s : State) : Res :=
  .next <| s.rankRow f.val q.val 1 false fun e s =>
    let r := e.bytes 33 1
    let k := e.bytes 36 1
    let m := e.bytes 37 1
    let ports := (List.range (k + m)).map fun i => e.bytes (40 + i) 1
    if k < 4 ∨ 16 < k ∨ m < 1 ∨ 4 < m ∨ 20 < k + m ∨ (s.rank? r).isSome then .inl Status.FIELD_INVALID
    else if !ports.all (fun p => p < 128 && !portFused p && s.portState p = 4) ∨ !ports.Nodup then .inl Status.FIELD_INVALID
    else
      let x := s.newRank k m (e.bytes 38 1 % 2 = 1) ports
      if x.bays = 0 ∨ !(ports.all fun p => match (s.portRt p).drive with | some d => x.fits d && !s.foreign e p | none => false) then
        .inl Status.PORT_UNSUITABLE
      else
        let s := s.changeRank r x
        let s := (ports.zip (List.range (k + m))).foldl (fun (t : State) (y : Nat × Nat) =>
          let t := ((t.setPortState y.1 2).wr Reg.MPX_PORT_STATUS.RANK y.1 r).wr Reg.MPX_PORT_STATUS.SLOT y.1 y.2
          ((t.wr Reg.MPX_PORT_STATUS.FOREIGN y.1 0).send (.nvme y.1 "resetAll" [])).send (.nvme y.1 "label" [1, r, y.2, 1])) s
        .inr ((s.refillReserve 16).callPersist, 1)

/-- RANK_DELETE (07, R301, R302). Bays that the control reserve holds on the rank are given up, and the reserve is refilled elsewhere. -/
def execRankDelete (f : Fn) (q : Q) (s : State) : Res :=
  .next <| s.rankRow f.val q.val 2 false fun e s =>
    let r := e.bytes 33 1
    match s.rank? r with
    | none => .inl Status.FIELD_INVALID
    | some x =>
      let inService := (s.media.rank.filter fun y => y.2.state = 1 || y.2.state = 2).map (·.1)
      if (s.key.ext.any fun y => y.2.rank = r && y.2.st ≠ .free) ∨ x.logBays ≠ [] ∨ inService = [r] then .inl Status.FIELD_INVALID
      else if s.media.walks.any fun w => w.rank = r then .inl Status.BUSY_RETRY
      else
        let held := s.key.reserve.filter fun y => (s.ext y).rank = r
        let s := held.foldl (fun (t : State) y => t.setExt y { t.ext y with rank := 63, bay := 0 }) s
        let s := { s with key.reserve := s.key.reserve.filter fun y => !held.contains y, media.rank := Tab.del r s.media.rank }
        .inr (((s.event Ev.CPR_RANK_STATE).rankLogNoDrive 7 r 0xFF x.gen 0 0 0).refillReserve 16, 0)

/-- RANK_ADD_SPARE (07, R264, R301). A pool of 16 spares is full (R276; log entry 13). -/
def execRankAddSpare (f : Fn) (q : Q) (s : State) : Res :=
  .next <| s.rankRow f.val q.val 3 false fun e s =>
    let p := e.bytes 35 1
    if s.portState p ≠ 4 ∨ 16 ≤ s.media.spares.length then .inl Status.FIELD_INVALID
    else if s.foreign e p then .inl Status.PORT_UNSUITABLE
    else
      let s := { s with media.spares := s.media.spares ++ [s.portNguid p] }
      .inr (((s.setPortState p 3).wr Reg.MPX_PORT_STATUS.FOREIGN p 0).send (.nvme p "label" [2, 0xFF, 0xFF, 0]), 0)

/-- RANK_REMOVE_SPARE (07, R264). -/
def execRankRemoveSpare (f : Fn) (q : Q) (s : State) : Res :=
  .next <| s.rankRow f.val q.val 4 false fun e s =>
    let p := e.bytes 35 1
    if s.portState p ≠ 3 then .inl Status.FIELD_INVALID
    else .inr (({ s with media.spares := s.media.spares.filter (· ≠ s.portNguid p) }.setPortState p 4).send (.nvme p "label" [3, 0xFF, 0xFF, 0]), 0)

/-- A reachable occupant of a slot is relabelled as removed and its port becomes UNUSED (07, R264, R301). -/
def State.removeOccupant (s : State) (y : RSlot) : State :=
  if y.st ≠ 1 ∧ s.portState y.port = 2 then (s.setPortState y.port 4).send (.nvme y.port "label" [3, 0xFF, 0xFF, 0]) else s

/-- RANK_REPLACE (07, R277, R301, R302). -/
def execRankReplace (f : Fn) (q : Q) (s : State) : Res :=
  .next <| s.rankRow f.val q.val 5 false fun e s =>
    let r := e.bytes 33 1
    let i := e.bytes 34 1
    let p := e.bytes 35 1
    match s.rank? r with
    | none => .inl Status.FIELD_INVALID
    | some x =>
      match x.slots[i]? with
      | none => .inl Status.FIELD_INVALID
      | some y =>
        if s.portState p ≠ 4 then .inl Status.FIELD_INVALID
        else if !(match (s.portRt p).drive with | some d => x.fits d | none => false) ∨ s.foreign e p then .inl Status.PORT_UNSUITABLE
        else if y.st = 0 ∧ x.m ≤ x.out then .inl Status.RANK_DEGRADED
        else
          let s := s.removeOccupant y
          let s := if y.st = 1 then s else s.setRank r { x with departed := ((y.nguid, x.gen + 1) :: x.departed).take 16 }
          let s := (s.wr Reg.MPX_PORT_STATUS.FOREIGN p 0).takeSlot r i p false none
          .inr (s.settleStripes.resolve, x.gen + 1)

/-- RANK_REJOIN (07, R297, R302). -/
def execRankRejoin (f : Fn) (q : Q) (s : State) : Res :=
  .next <| s.rankRow f.val q.val 6 false fun e s =>
    let r := e.bytes 33 1
    let i := e.bytes 34 1
    let p := e.bytes 35 1
    match s.rank? r with
    | none => .inl Status.FIELD_INVALID
    | some x =>
      match x.slots[i]? with
      | none => .inl Status.FIELD_INVALID
      | some y =>
        if s.portState p ≠ 5 ∨ y.st ≠ 1 ∨ !(x.departed.any fun d => d.1 = s.portNguid p) then .inl Status.FIELD_INVALID
        else if !(match (s.portRt p).drive with | some d => x.fits d | none => false) then .inl Status.PORT_UNSUITABLE
        else
          let left := match x.departed.find? fun d => d.1 = s.portNguid p with | some d => d.2 | none => 0
          let s := s.setPort p { s.portRt p with leftGen := left }
          .inr ((s.takeSlot r i p true none).settleStripes.resolve, x.gen + 1)

/-- RANK_RECOVER_READ (07, R298). -/
def execRankRecoverRead (f : Fn) (q : Q) (s : State) : Res :=
  .next <| s.rankRow f.val q.val 7 true fun e s =>
    let p := e.bytes 35 1
    if s.portState p ≠ 5 then .inl Status.FIELD_INVALID
    else .inr (s.wr Reg.MPX_PORT_STATUS.RECOVER p (e.bytes 38 1 / 4 % 2), 0)

/-- RANK_RELEASE_PORT (07, R264). -/
def execRankReleasePort (f : Fn) (q : Q) (s : State) : Res :=
  .next <| s.rankRow f.val q.val 8 false fun e s =>
    let p := e.bytes 35 1
    if s.portState p ≠ 5 then .inl Status.FIELD_INVALID
    else .inr ((s.setPortState p 4).wr Reg.MPX_PORT_STATUS.RECOVER p 0, 0)

/-- The 512-byte rank report (07, R301). -/
def State.rankReport (s : State) (r : Nat) : List Nat :=
  let x := (s.rank? r).getD ⟨0, 0, false, 0, 0, 0, 0, 0, [], [], [], [], false⟩
  let there := (s.rank? r).isSome
  [s.rankState r, x.k, x.m, if x.unit64 then 1 else 0] ++ leBytes x.gen 4 ++ leBytes x.bays 4 ++ leBytes x.freeCount 4 ++ leBytes x.zpb 4 ++
    leBytes (if there then x.firstZone else 0) 4 ++ leBytes x.zcap 4 ++ leBytes x.logBays.length 4 ++
    (List.range 20).flatMap fun i =>
      match x.slots[i]? with
      | some y => [y.port, y.st, 0, 0] ++ leBytes (s.rd Reg.CPR_RANK_RBLD.DONE (r * 20 + i)) 4 ++ leBytes y.nguid 16
      | none => [0, 3, 0, 0] ++ leBytes 0 20

/-- RANK_QUERY (07, R301, R302). -/
def execRankQuery (f : Fn) (q : Q) (s : State) : Res :=
  .next <| if s.set.excl then s else s.subCmd f.val q.val 0x8F 9 10 (fun _ => (s.rankRefused false).map fun st => (st, 0)) fun x s =>
    let r := x.e.bytes 33 1
    match s.rankRefused true with
    | some st => s.fail f.val q.val x st
    | none =>
      if !rankFields x.e ∨ x.e.length.toNat < 512 then s.fail f.val q.val x Status.FIELD_INVALID
      else
        let g := match s.rank? r with | some y => y.gen | none => 0
        (s.hostScatter f.val x.sg (s.rankReport r)).complete f.val q.val x.e.cid.toNat Status.SUCCESS g 512

/-- RANK_LOCATE (07, R301). -/
def execRankLocate (f : Fn) (q : Q) (s : State) : Res :=
  .next <| s.rankRow f.val q.val 10 true fun e s => .inr (s.wr Reg.MPX_PORT_CTRL.LOCATE (e.bytes 35 1) (e.bytes 38 1 / 4 % 2), 0)

/-! ### Wear (08, R308, R324) -/

/-- Replace a drive record, and the ASY registers that show it (08, R342). -/
def State.setDriveRec (s : State) (p : Nat) (d : DriveRec) : State :=
  let s := { s with asy.drive := Tab.put p d s.asy.drive }
  let b (x : Bool) : Nat := if x then 1 else 0
  let s := (((s.wr Reg.ASY_DRIVE.WATCH p (b d.watch)).wr Reg.ASY_DRIVE.LIMIT p (b d.limit)).wr Reg.ASY_DRIVE.TREND p (b d.trend)).wr
    Reg.ASY_DRIVE.SOFT_HIGH p (b d.softHigh)
  let s := ((s.wr Reg.ASY_DRIVE.PCTUSED p d.pctUsed).wr Reg.ASY_DRIVE_SOFT.COUNT p d.soft).wr Reg.ASY_DRIVE_HARD.COUNT p d.hard
  let s := (s.wr Reg.ASY_DRIVE_LAT.AVG p (min 0xFFFF (d.lats.sum / max 1 d.lats.length))).wr Reg.ASY_DRIVE_LAT.BASE p (min 0xFFFF d.latBase)
  (s.wr Reg.ASY_STATUS.WEAR_WATCH 0 (b (s.asy.drive.any fun x => x.2.watch))).wr Reg.ASY_STATUS.WEAR_LIMIT 0 (b (s.asy.drive.any fun x => x.2.limit))

/-- A drive reaches WEAR_LIMIT (08, R324): a fitting spare takes its slot where setting 0x5007 is 1 and R302 would allow the REPLACE; otherwise
every SEALED extent of its rank enters the list. -/
def State.wearLimit (s : State) (p : Nat) : State :=
  match s.slotOfPort p with
  | none => s
  | some (r, i) =>
    match s.rank? r with
    | none => s
    | some x =>
      let ok := s.setting 0x5007 = 1 && decide (x.out < x.m)
      match (if ok then s.spareFor x else none) with
      | some sp =>
        let y := x.slots.getD i ⟨0, 0, 0⟩
        (s.setRank r { x with departed := ((y.nguid, x.gen + 1) :: x.departed).take 16 }).takeSlot r i sp false (some p)
      | none => ((s.key.ext.filter fun y => y.2.rank = r && y.2.st = .sealedE).map (·.1)).foldl (fun t e => t.attend e 5 none) s

/-- Set the flags that a drive's figures call for, each once (08, R324). -/
def State.wearFlags (s : State) (p : Nat) : State :=
  let d := s.driveRec p
  let high := s.setting 0x5008 < d.softRate
  let watch := s.setting 0x5005 ≤ d.pctUsed || high
  let limit := decide (s.setting 0x5006 ≤ d.pctUsed)
  let avg := d.lats.sum / max 1 d.lats.length
  let trend := d.latBase ≠ 0 && d.latBase * s.setting 0x5009 < avg * 10
  let s := s.setDriveRec p { d with watch := d.watch || watch, limit := d.limit || limit, trend := d.trend || trend, softHigh := d.softHigh || high }
  let s := if watch && !d.watch then s.event Ev.ASY_WEAR_WATCH else s
  let s := if (trend && !d.trend) || (high && !d.softHigh) then s.event Ev.ASY_TREND else s
  if limit && !d.limit then (s.event Ev.ASY_WEAR_LIMIT).wearLimit p else s

/-- SMART_POLL (07, R267; 08, R308, R324): log page 02h of a drive is read. -/
def execSmartPoll (p : Port) (pct : BitVec 8) (mediaErr : BitVec 32) (s : State) : Res :=
  .next <|
    let p := p.val
    if s.portState p = 2 ∨ s.portState p = 3 then
      (s.setDriveRec p { s.driveRec p with pctUsed := pct.toNat, mediaErr := mediaErr.toNat, smTicks := s.ticks }).wearFlags p
    else s

end Sys2Proof.Machine
end

