-- ==== Sys2Proof/Machine/Retention.lean ====
section
/-!
DEFINITION. Machine/Retention.lean: patrol, refresh migration, the assay and retention release (08, R308–R342).
-/

namespace Sys2Proof.Machine

/-- AON ticks of a day. -/
def dayTicks : Nat := 86400 * 32768

/-! ### Patrol (08, R309, R311, R312) -/

/-- Patrol may read (08, R312): setting 0x5002, ASY_CTRL, in ACTIVE. -/
def State.patrolOn (s : State) : Bool := s.setting 0x5002 = 1 && !s.isSet Reg.ASY_CTRL.PATROL_PAUSE 0 && s.power = 0

/-- The next extent of the pass, from the position: SEALED, or the old copy of a MIGRATING one. -/
def State.patrolExtent (s : State) : Option Nat :=
  if s.asy.inLogs then none
  else (s.key.ext.find? fun x => s.rd Reg.ASY_PATROL_POS.EXTENT 0 ≤ x.1 && (x.2.st = .sealedE || x.2.st = .migrating)).map (·.1)

/-- Stripes that an extent holds. -/
def State.stripesHeld (s : State) (e : Nat) : Nat :=
  match s.rank? (s.ext e).rank with
  | some r => min r.stripes (((s.ext e).next + r.stripeBytes - 1) / r.stripeBytes)
  | none => 0

/-- Every log bay, by rank and bay. -/
def State.logBays (s : State) : List (Nat × Nat) := s.media.rank.flatMap fun x => x.2.logBays.map fun b => (x.1, b)

/-- A drive's counters after one of its units was read (08, R308, R309), by patrol or not. -/
def State.unitRead (s : State) (patrol : Bool) (p bytes : Nat) (c : UnitCheck) : State :=
  let s := s.driveRead p bytes
  let d := s.driveRec p
  s.setDriveRec p { d with
    passRd := if patrol then d.passRd + bytes else d.passRd
    soft := if c = .soft then d.soft + 1 else d.soft, passSoft := if patrol && c = .soft then d.passSoft + 1 else d.passSoft
    hard := if c = .hard then d.hard + 1 else d.hard }

/-- The units of a stripe are read: the drives' counters. -/
def State.unitsRead (s : State) (patrol : Bool) (r : RankRt) (us : List UnitCheck) : State :=
  (us.zip r.slots).foldl (fun t x => if x.2.st = 1 then t else t.unitRead patrol x.2.port r.unitSize x.1) s

/-- Whether a unit check is one of a bad unit. -/
def UnitCheck.bad (c : UnitCheck) : Bool := c = .hard || c = .wrong

/-- PATROL_READ (08, R309, R312): the units of the next stripe, slot by slot, are read and checked. -/
def execPatrolRead (us : List UnitCheck) (s : State) : Res :=
  .next <|
    if !s.patrolOn then s.wr Reg.ASY_STATUS.PATROL 0 0
    else
      let s := s.wr Reg.ASY_STATUS.PATROL 0 1
      match s.patrolExtent with
      | none =>
        let s : State := { s with asy.inLogs := true }
        match s.logBays[s.asy.logBay]? with
        | some b =>
          match s.rank? b.1 with
          | some r => { s.unitsRead true r us with asy.logBay := s.asy.logBay + 1 }
          | none => s
        | none => s
      | some e =>
        match s.rank? (s.ext e).rank with
        | none => s
        | some r =>
          let st := if e = s.rd Reg.ASY_PATROL_POS.EXTENT 0 then s.asy.stripe else 0
          let s := s.unitsRead true r us
          let bad := (us.filter UnitCheck.bad).length
          let soft := (us.filter (· = UnitCheck.soft)).length
          let s := if bad = 0 then s else s.attend e 1 none
          let s := if bad = 0 then s
            else if us.length < bad + r.k then let d := s.draw; d.2.finding 4 2 0xFFFF e st d.1
            else (s.addWrap Reg.CPR_REC_BYTES.BYTES 0 (bad * r.unitSize)).event Ev.CPR_RECON
          let n := Tab.getD s.asy.softs e 0 + soft
          let s : State := if soft = 0 then s else { s with asy.softs := Tab.put e n s.asy.softs }
          let s := if soft ≠ 0 ∧ s.setting 0x5003 ≤ n then s.attend e 3 none else s
          if st + 1 < s.stripesHeld e then { s.wr Reg.ASY_PATROL_POS.EXTENT 0 e with asy.stripe := st + 1 }
          else
            let s : State := { s.wr Reg.ASY_PATROL_POS.EXTENT 0 (e + 1) with asy.stripe := 0 }
            if e + 1 = extentSpace then { s with asy.inLogs := true } else s

/-- The tick at which the pass is due to end (08, R311). -/
def State.patrolDue (s : State) : Nat :=
  if s.asy.due = 0 then s.rd Reg.ASY_PATROL_START.TICKS 0 + s.setting 0x5001 * dayTicks else s.asy.due

/-- Raw bytes that the pass has left to read. -/
def State.patrolLeft (s : State) : Nat :=
  let size (e : Nat) : Nat := match s.rank? (s.ext e).rank with | some r => s.stripesHeld e * (r.k + r.m) * r.unitSize | none => 0
  if s.asy.inLogs then 0
  else ((s.key.ext.filter fun x => s.rd Reg.ASY_PATROL_POS.EXTENT 0 ≤ x.1 && (x.2.st = .sealedE || x.2.st = .migrating)).map fun x => size x.1).sum

/-- PATROL_PACE (08, R311): the read rate is the bytes left over the time left, the time counted as at least 1 % of the patrol period (log
entry 14). -/
def execPatrolPace (s : State) : Res :=
  .next { s with asy.mbps := s.patrolLeft / max 1 (max ((s.patrolDue - s.ticks) / 32768) (s.setting 0x5001 * 864)) }

/-- PATROL_PASS_END (08, R308, R311, R324): the next pass starts; every drive's soft-error rate is known. -/
def execPatrolPassEnd (s : State) : Res :=
  .next <|
    if s.patrolExtent.isSome ∨ s.asy.logBay < s.logBays.length then s
    else
      let s := (Tab.keys s.asy.drive).foldl (fun t p =>
        let d := Tab.getD t.asy.drive p (t.driveRec p)
        (t.setDriveRec p { d with softRate := d.passSoft * 2 ^ 40 / max 1 d.passRd, passSoft := 0, passRd := 0 }).wearFlags p) s
      let s := ((s.addWrap Reg.ASY_PATROL_PASS.PASS 0 1).wr Reg.ASY_PATROL_POS.EXTENT 0 0).wr Reg.ASY_PATROL_START.TICKS 0 s.ticks
      let s : State := { s with asy.due := s.ticks + s.setting 0x5001 * dayTicks, asy.inLogs := false, asy.logBay := 0, asy.stripe := 0, asy.softs := [] }
      s.event Ev.ASY_PATROL_PASS

/-! ### The daily scan (08, R316, R331, R335) -/

/-- A ledger is named by a seal record or census of an extent (08, R335). -/
def SealRec.names (x : SealRec) (l : Nat) : Bool := x.full || (x.census &&& censusBits l) = censusBits l

/-- The ledger may be freed (08, R335): CLOSED, and named by no extent of its tenant that still holds records. -/
def State.ledgerFreeable (s : State) (l : Nat) (x : Ledger) : Bool :=
  let named (t : Tab SealRec) : Bool := t.any fun y => y.2.tenant = x.tenant && y.2.names l &&
    (let st := (s.ext y.1).st; st = .openE || st = .sealedE || st = .migrating || st = .releasePending)
  x.st = .closed && !named s.asy.acc && !named s.asy.seals

/-- The checkpoints of a ledger whose ID becomes FREE leave the index: they are none of the next ledger of that ID (06, R225, R238). -/
def Scrivener.forget (x : Scrivener) (l : Nat) : Scrivener :=
  let drop (es : List CkEntry) : List CkEntry := es.map fun (e : CkEntry) => if e.ledger = l then { e with dead := true } else e
  { x with entries := drop x.entries, outside := drop x.outside, kept := drop x.kept, keptNow := drop x.keptNow,
           batches := x.batches.map fun (b : Batch) => { b with entries := drop b.entries } }

/-- Test the CLOSED ledgers of a tenant, or of all, and free those that may be (08, R335). -/
def State.freeLedgers (s : State) (t : Option Nat) : State :=
  (s.led.tab.filter fun x => (t = none || t = some x.2.tenant) && s.ledgerFreeable x.1 x.2).foldl
    (fun u x => ({ u with led.tab := Tab.del x.1 u.led.tab, scv := u.scv.forget x.1 } : State).event Ev.ASY_LEDGER_FREED) s

/-- A rank on which wear asks for migration (08, R324): a member at WEAR_LIMIT, and setting 0x5007 at 0 or no spare that fits. -/
def State.rankWearing (s : State) (r : Nat) : Bool :=
  match s.rank? r with
  | some x => s.rankWorn x && (s.setting 0x5007 = 0 || (s.spareFor x).isNone)
  | none => false

/-- The entries that the daily scan makes for an extent (08, R316). -/
def State.scanExtent (s : State) (e : Nat) (x : Extent) : State :=
  if x.st ≠ .sealedE then s
  else
    let s := if s.setting 0x5004 ≤ x.age then s.attend e 4 none else s
    let s := if s.rankWearing x.rank then s.attend e 5 none else s
    if (match s.rank? x.rank with | some r => r.evacuate | none => false) then s.attend e 6 none else s

/-- OVERDUE clears when the pass is within its period and no AGE entry is older than a day (08, R331). -/
def State.clearOverdue (s : State) : State :=
  if s.ticks ≤ s.patrolDue ∧ !(s.asy.attn.any fun a => a.reason = 4 && a.day + dayTicks < s.ticks) then s.wr Reg.ASY_STATUS.OVERDUE 0 0 else s

/-- The daily scan of every extent, drive and closed ledger (08, R308, R316, R335). -/
def State.dailyScan (s : State) : State :=
  let s := s.key.ext.foldl (fun t x => t.scanExtent x.1 x.2) s
  let s := (Tab.keys s.asy.drive).foldl (fun t p =>
    let d := Tab.getD t.asy.drive p (t.driveRec p)
    let n := d.days + 1
    (t.setDriveRec p { d with days := n, latBase := if n = 30 then d.lats.sum / max 1 d.lats.length else d.latBase }).wearFlags p) s
  (s.freeLedgers none).clearOverdue

/-- ASY_DAILY_SCAN (08, R316). -/
def execAsyDailyScan (s : State) : Res := .next s.dailyScan

/-- The refresh deadline (08, R330), computed before the CX4 leaves ACTIVE. -/
def State.deadline (s : State) : Nat :=
  let ages := (s.key.ext.filter fun x => x.2.st = .sealedE).map fun x => s.asy.ageTicks + (s.setting 0x5004 - x.2.age) * dayTicks
  let l := ages ++ [s.patrolDue - dayTicks] ++ (if s.asy.attn = [] then [] else [s.ticks + dayTicks])
  l.foldl min (s.patrolDue - dayTicks)

/-! ### Refresh migration (08, R317–R322) -/

/-- A rank may take a migration of an extent (08, R317). -/
def State.targetRank (s : State) (e r : Nat) : Bool :=
  match s.rank? r, s.rank? (s.ext e).rank with
  | some x, some y =>
    x.k = y.k && x.m = y.m && x.unit64 = y.unit64 && (s.tenant (s.ext e).tenant).rankMask.testBit r && s.rankInService r && x.state = 1 &&
      !s.rankWorn x && !x.evacuate && x.lowestBay.isSome
  | _, _ => false

/-- The target of a migration (08, R317): the free bay of a rank. -/
def State.chooseTarget (s : State) (a : Attn) : Option (Nat × Nat) :=
  match a.target with
  | some t => some t
  | none =>
    let src := (s.ext a.extent).rank
    let c := (List.range 32).filter fun r => s.targetRank a.extent r
    let r := match s.mostFree (c.filter (· ≠ src)) with
      | some r => some r
      | none => if c.contains src && a.reason ≠ 5 && a.reason ≠ 6 then some src else none
    match r with
    | some r => (match s.rank? r with | some x => x.lowestBay.map fun b => (r, b) | none => none)
    | none => none

/-- Migrations may start or go on (08, R321, R342): ACTIVE, not LOCKED, the archive writable, not paused. -/
def State.migrationsRun (s : State) : Bool :=
  s.power = 0 && s.lifecycle ≠ 3 && !s.archiveRo && !s.isSet Reg.ASY_CTRL.MIG_PAUSE 0

/-- The list in the order in which it is taken (08, R310). -/
def sortAttn : List Attn → List Attn
  | [] => []
  | a :: r =>
    let rec ins (a : Attn) : List Attn → List Attn
      | [] => [a]
      | b :: t => if a.before b then a :: b :: t else b :: ins a t
    ins a (sortAttn r)

/-- The entry may be taken: its extent is SEALED, or MIGRATING from an earlier start. -/
def State.takeable (s : State) (a : Attn) : Bool :=
  let st := (s.ext a.extent).st
  !(s.asy.migs.any fun m => m.extent = a.extent) && (st = .sealedE || (st = .migrating && a.reason = 7))

/-- MIGRATION_START (08, R317, R318, R323): the first entry that has a target; START waits for its commit. -/
def execMigrationStart (s : State) : Res :=
  .next <|
    if !s.migrationsRun ∨ s.setting 0x5012 ≤ s.asy.migs.length then s
    else
      let l := (sortAttn s.asy.attn).filter s.takeable
      let s := if l.any fun a => (s.chooseTarget a).isNone then s.event Ev.ASY_NO_TARGET else s
      match l.findSome? fun a => (s.chooseTarget a).map fun t => (a, t) with
      | none => s
      | some (a, t) =>
        let x := s.ext a.extent
        let m : Mig := ⟨a.extent, a.reason, x.rank, x.bay, t.1, t.2, x.placegen + 1, s.ticks, false, false, 0, []⟩
        let s := (s.setMigs (s.asy.migs ++ [m])).setAttn (s.asy.attn.filter fun b => b.extent ≠ a.extent)
        let s := (if a.target.isSome then s else s.takeBay t.1 t.2).setExt a.extent { x with st := .migrating }
        { s with key.journal := s.key.journal ++ [JEntry.migration a.extent 1 t.1 t.2] }.waitCommit (.migStart a.extent)

/-- MIGRATION_STRIPE_COPY (08, R318, R319, R321): the next stripe of a migration is copied; `us` what its units' reads gave by slot, `failed` a
target slot whose append fails, `recs` the offsets of the records that have bytes in the stripe. -/
def execMigrationStripeCopy (e : ExtIdx) (us : List UnitCheck) (failed : Option (Fin 20)) (recs : List Nat) (s : State) : Res :=
  .next <|
    match s.asy.migs.find? fun m => m.extent = e.val with
    | none => s
    | some m =>
      if !m.started ∨ m.done ∨ !s.migrationsRun ∨ s.bayResetting m.rank m.bay ∨ s.stripesHeld e.val ≤ m.copied then s
      else match s.rank? m.srcRank, s.rank? m.rank with
        | some r, some t =>
          let s := s.unitsRead false r us
          let bad := (us.filter UnitCheck.bad).length
          let s := if bad = 0 then s else s.attend e.val 1 none
          match failed with
          | some j => s.degrade m.rank m.bay j.val
          | none =>
            let lost := us.length < bad + r.k
            let s := if lost then (s.rankLogNoDrive 9 m.srcRank 0xFF r.gen e.val m.copied 0).event Ev.CPR_STRIPE_LOST
              else if bad = 0 then s else (s.addWrap Reg.CPR_REC_BYTES.BYTES 0 (bad * r.unitSize)).event Ev.CPR_RECON
            let exact := bad ≠ 0 && us.length = bad + r.k
            let s := t.slots.foldl (fun (u : State) y => u.driveWrote y.port t.unitSize) s
            s.setMigs (s.asy.migs.map fun (x : Mig) =>
              if x.extent = e.val then { x with copied := x.copied + 1, exact := x.exact ++ (if exact then recs else []) } else x)
        | _, _ => s

/-- The entry that DONE gives an extent (08, R318). -/
def Mig.place (m : Mig) (x : Extent) : Extent := { x with st := .sealedE, rank := m.rank, bay := m.bay, placegen := m.gen, age := 0 }

/-- MIGRATION_DONE (08, R318): every target unit is acknowledged; DONE is journalled, and takes effect when its commit ends. -/
def execMigrationDone (e : ExtIdx) (s : State) : Res :=
  .next <|
    match s.asy.migs.find? fun m => m.extent = e.val with
    | none => s
    | some m =>
      if !m.started ∨ m.done ∨ m.copied < s.stripesHeld e.val then s
      else
        let s := s.setMigs (s.asy.migs.map fun (x : Mig) => if x.extent = e.val then { x with done := true } else x)
        { s with key.journal := s.key.journal ++ [JEntry.entry e.val (m.place (s.ext e.val)), JEntry.migration e.val 2 m.rank m.bay] }.waitCommit
          (.migDone e.val)

/-- The DONE commit of a migration ends (08, R318 steps 3 and 4, R319): the target is the only copy; the old bay is reset; records of stripes
reconstructed from exactly k units are checked. -/
def State.migCommitted (s : State) (e : Nat) : State :=
  match s.asy.migs.find? fun m => m.extent = e && m.done with
  | none => s
  | some m =>
    let s := s.setMigs (s.asy.migs.filter fun x => x.extent ≠ e)
    let s := (s.touchExt e (m.place (s.ext e))).migLogged m 1
    let s := (s.addWrap Reg.ASY_MIG_DONE.COUNT 0 1).event Ev.ASY_MIG_DONE
    let s := s.resetBay m.srcRank m.srcBay 0
    ({ s with asy.checks := s.asy.checks ++ m.exact.map fun o => (e, o), media.bad := s.media.bad.filter fun b => b.extent ≠ e } : State).resumeChecks

/-- An extent released or retired (08, R334 steps 4 and 5; 05, R203, R204). -/
def State.extentReset (s : State) (e : Nat) : State :=
  let x := s.ext e
  if x.st ≠ .releasePending then s
  else
    let last := x.keygen = 0xFFFFFF
    let s := s.setExt e { x with st := if last then .retired else .free, keygen := if last then x.keygen else x.keygen + 1, hold := false, age := 0,
                                 rank := 63, bay := 0, tenant := 0, next := 0, committed := false }
    let s := if last then s.event Ev.EXT_EXTENT_RETIRED else s
    let s : State := { s with asy.acc := Tab.del e s.asy.acc, asy.seals := Tab.del e s.asy.seals,
                              media.bad := s.media.bad.filter fun b => b.extent ≠ e }
    (s.refillReserve 16).freeLedgers (some x.tenant)

/-- BAY_ZONE_RESET_DONE (08, R334; 05, R211): the zone resets of a bay complete, once every read looked up against it has finished; RESET_DONE is
journalled, the bay is free unless a migration is to use it again. -/
def execBayZoneResetDone (r : Rank) (bay : BitVec 24) (s : State) : Res :=
  .next <|
    match s.media.resets.find? fun x => x.1 = r.val && x.2.1 = bay.toNat with
    | none => s
    | some z =>
      if s.lane.items.any fun i => i.2.rank = r.val && i.2.bay = bay.toNat then s
      else
        let s : State := { s with media.resets := s.media.resets.erase z, key.journal := s.key.journal ++ [JEntry.resetDone r.val bay.toNat],
                                  media.degraded := s.media.degraded.filter fun d => !(d.1 = r.val && d.2.1 = bay.toNat) }
        let kept := s.asy.migs.any (fun m => m.rank = r.val && m.bay = bay.toNat) || s.asy.attn.any fun a => a.target = some (r.val, bay.toNat)
        let s := if kept then s else s.freeBay r.val bay.toNat
        if z.2.2 = 0 then s.refillReserve 16 else s.extentReset (z.2.2 - 1)

/-! ### ASSAY_CONTROL (08, R325, R329) -/

/-- A row of ASSAY_CONTROL: the checks all share, then `run`, which answers a status or the state, RES0 and RES1. -/
def State.assayRow (s : State) (f q sub : Nat) (run : Entry → State → Nat ⊕ (State × Nat × Nat)) : State :=
  s.subCmd f q 0x89 sub 7 (fun _ => (s.rankRefused true).map fun st => (st, 0)) fun x s =>
    match s.rankRefused true with
    | some st => s.fail f q x st
    | none =>
      if !onlyBytes x.e [(32, 16)] then s.fail f q x Status.FIELD_INVALID
      else match run x.e s with
        | .inl st => s.fail f q x st
        | .inr (t, r0, r1) => t.complete f q x.e.cid.toNat Status.SUCCESS r0 r1

/-- ASY_STATUS.ASSAY follows the run. -/
def State.setRun (s : State) (r : Option AssayRun) : State :=
  { s with asy.run := r }.wr Reg.ASY_STATUS.ASSAY 0 (match r with | none => 0 | some x => if x.paused then 2 else 1)

/-- The fields of ASSAY_CONTROL START are in range (R325). -/
def State.assayFields (s : State) (e : Entry) : Bool :=
  let scope := e.bytes 33 1
  let arg := e.bytes 34 1
  let first := e.bytes 36 4
  let last := e.bytes 40 4
  scope ≤ 3 && (scope ≠ 2 || (arg < 32 && (s.rank? arg).isSome)) && e.bytes 35 1 ≤ 3 &&
    (scope ≠ 3 || (first ≤ last && last < extentSpace)) && e.bytes 44 4 ≤ s.setting 0x5010

/-- ASSAY_START (08, R325, R329). -/
def execAssayStart (f : Fn) (q : Q) (s : State) : Res :=
  .next <| s.assayRow f.val q.val 1 fun e s =>
    if !s.assayFields e then .inl Status.FIELD_INVALID
    else if s.asy.run.isSome then .inl Status.BUSY_RETRY
    else
      let n := (s.rd Reg.ASY_ASSAY_RUN.RUN 0 + 1) % 2 ^ 32
      let scope := e.bytes 33 1
      let rate := e.bytes 44 4
      let r : AssayRun := ⟨n, scope, e.bytes 35 1, e.bytes 34 1, if scope = 3 then e.bytes 36 4 else 0,
        if scope = 3 then e.bytes 40 4 else extentSpace - 1, if rate = 0 then s.setting 0x5010 else rate, s.ticks, 0, 0, false, false,
        if scope = 3 then e.bytes 36 4 else 0, none, 0, 0, 0, 0, false, 0, 0, 0, 0, 0, 0, List.replicate 10 0⟩
      let s := ((s.setRun (some r)).wr Reg.ASY_ASSAY_RUN.RUN 0 n).wr Reg.ASY_ASSAY_EXT.DONE 0 0
      let s : State := { (s.wr Reg.ASY_ASSAY_BYTES.BYTES 0 0).wr Reg.ASY_ASSAY_FIND.COUNT 0 0 with lane.assayDone := [] }
      .inr (s, n, 0)

/-- ASSAY_PAUSE (08, R329). -/
def execAssayPause (f : Fn) (q : Q) (s : State) : Res :=
  .next <| s.assayRow f.val q.val 2 fun _ s =>
    match s.asy.run with
    | some r => .inr (s.setRun (some { r with paused := true, byPower := false }), 0, 0)
    | none => .inl Status.FIELD_INVALID

/-- ASSAY_RESUME (08, R325, R329). -/
def execAssayResume (f : Fn) (q : Q) (s : State) : Res :=
  .next <| s.assayRow f.val q.val 3 fun _ s =>
    match s.asy.run with
    | some r => if r.paused then .inr (s.setRun (some { r with paused := false, byPower := false }), 0, 0) else .inl Status.FIELD_INVALID
    | none => .inl Status.FIELD_INVALID

/-- A run ends (08, R329, R339): 1 complete, 2 STOP, 3 reset, 4 LOCKED; its report is the last of 16. -/
def State.endRun (s : State) (code : Nat) : State :=
  match s.asy.run with
  | none => s
  | some r =>
    let l := s.asy.reports ++ [{ r with finish := s.ticks, endCode := code }]
    let s : State := { s.setRun none with asy.reports := l.drop (l.length - 16) }
    s.event Ev.ASY_ASSAY_DONE

/-- ASSAY_STOP (08, R329). -/
def execAssayStop (f : Fn) (q : Q) (s : State) : Res :=
  .next <| s.assayRow f.val q.val 4 fun _ s => if s.asy.run.isSome then .inr (s.endRun 2, 0, 0) else .inl Status.FIELD_INVALID

/-- ASSAY_STATUS (08, R325). -/
def execAssayStatus (f : Fn) (q : Q) (s : State) : Res :=
  .next <| s.assayRow f.val q.val 5 fun _ s =>
    .inr (s, s.rd Reg.ASY_ASSAY_EXT.DONE 0 + s.rd Reg.ASY_STATUS.ASSAY 0 * 2 ^ 32, s.rd Reg.ASY_ASSAY_FIND.COUNT 0)

/-- ASSAY_EVACUATE (08, R325). -/
def execAssayEvacuate (f : Fn) (q : Q) (s : State) : Res :=
  .next <| s.assayRow f.val q.val 6 fun e s =>
    let r := e.bytes 34 1
    match (if r < 32 then s.rank? r else none) with
    | none => .inl Status.FIELD_INVALID
    | some x =>
      if s.archiveRo then .inl Status.ROLLBACK_DETECTED
      else
        let l := (s.key.ext.filter fun y => y.2.st = .sealedE && y.2.rank = r).map (·.1)
        .inr (l.foldl (fun t n => t.attend n 6 none) (s.setRank r { x with evacuate := true }), 0, 0)

/-- ASSAY_CANCEL_EVACUATE (08, R325). -/
def execAssayCancelEvacuate (f : Fn) (q : Q) (s : State) : Res :=
  .next <| s.assayRow f.val q.val 7 fun e s =>
    let r := e.bytes 34 1
    match (if r < 32 then s.rank? r else none) with
    | some x => if x.evacuate then .inr (s.setRank r { x with evacuate := false }, 0, 0) else .inl Status.FIELD_INVALID
    | none => .inl Status.FIELD_INVALID

/-! ### The assay's walk (08, R326, R327) -/

/-- A finding of the run, counted (08, R326, R339, R342). -/
def State.runFinding (s : State) (r : AssayRun) (kind ledger extent place seq : Nat) : State :=
  let s := s.finding kind 1 ledger extent place seq
  let s := if kind ≤ 5 ∨ kind = 8 ∨ kind = 10 then s.addSat Reg.ASY_ASSAY_FIND.COUNT 0 1 else s
  s.setRun (some { r with counts := r.counts.set (kind - 1) (r.counts.getD (kind - 1) 0 + 1) })

/-- An extent is in a run's scope. -/
def AssayRun.inScope (r : AssayRun) (e : Nat) (x : Extent) : Bool :=
  r.first ≤ e && e ≤ r.last && r.next ≤ e && (r.scope ≠ 1 || x.tenant = r.arg) && (r.scope ≠ 2 || x.rank = r.arg)

/-- The next extent of a run that is OPEN, SEALED or MIGRATING. -/
def State.runExtent (s : State) (r : AssayRun) : Option (Nat × Extent) :=
  s.key.ext.find? fun x => r.inScope x.1 x.2 && (x.2.st = .openE || x.2.st = .sealedE || x.2.st = .migrating)

/-- Where the walk of an extent ends: END of its seal record, or the extent's next offset. -/
def State.walkEnd (s : State) (r : AssayRun) (e : Nat) : Nat :=
  if r.sealLost then (s.ext e).next else match Tab.find e s.asy.seals with | some x => x.endOff | none => (s.ext e).next

/-- A SKIPPED finding has no record: LEDGER is 0xFFFF, WHERE the offset reached, SEQ a free value (log entry 3). -/
def State.skipExtent (s : State) (r : AssayRun) (e : Nat) : State :=
  let d := s.draw
  d.2.runFinding { r with cur := none, next := e + 1 } 9 0xFFFF e r.off d.1

/-- The stripe size of an extent's rank. -/
def State.stripeOf (s : State) (e : Nat) : Nat := match s.rank? (s.ext e).rank with | some k => k.stripeBytes | none => 1

/-- The walk goes on from `off` (08, R326). -/
def State.walkTo (s : State) (r : AssayRun) (off : Nat) : State := s.setRun (some { r with off := off })

/-- The outcome of the record at the walk's offset (08, R326). -/
def State.slotOutcome (s : State) (r : AssayRun) (e status : Nat) (stored : Option Stored) (recon : Bool) : State :=
  let nextStripe := (r.off / s.stripeOf e + 1) * s.stripeOf e
  match stored with
  | none =>
    let d := s.draw
    let s := d.2.runFinding r 4 0xFFFF e (r.off / s.stripeOf e) d.1
    (match s.asy.run with | some r => s.walkTo r nextStripe | none => s)
  | some c =>
    let size := storedSize c.hdr.length
    let s := (s.addWrap Reg.ASY_ASSAY_BYTES.BYTES 0 size)
    let r := { r with bytes := r.bytes + size }
    let s := s.setRun (some r)
    let s :=
      if status = Status.SUCCESS then
        let r := { r with fold := (r.fold + Config.sha384 (2 :: c.tag :: headerNums c.hdr)) % 2 ^ 384, count := r.count + 1, records := r.records + 1 }
        if recon then s.runFinding r 6 c.hdr.ledger e r.off c.hdr.seq else s.setRun (some r)
      else if status = Status.SEAL_MISMATCH then
        let late := match Tab.find e s.asy.seals with | some x => x.unknown && x.rscan ≤ r.off | none => false
        s.runFinding r (if late && !r.sealLost then 7 else 2) c.hdr.ledger e r.off c.hdr.seq
      else if status = Status.LOCATOR_INVALID then s.runFinding r 1 0xFFFF e r.off 16
      else s.runFinding r 4 c.hdr.ledger e (r.off / s.stripeOf e) c.hdr.seq
    match s.asy.run with
    | some r' => s.walkTo r' (r.off + if status = Status.LOCATOR_INVALID then 16 else size)
    | none => s

/-- ASSAY_SLOT (08, R326): the run, RUNNING, handles the next record slot of its extent, or takes up its next extent, whose seal record reads
and passes its tag where `sealOk`. A record's tag is verified by an assay item on a lane, whose end the next ASSAY_SLOT takes. -/
def execAssaySlot (x : SlotRead) (sealOk : Bool) (s : State) : Res :=
  .next <|
    match s.asy.run with
    | none => s
    | some r =>
      if r.paused ∨ s.power ≠ 0 then s
      else match r.cur with
        | none =>
          match s.runExtent r with
          | none => s
          | some (e, y) =>
            let r := { r with off := 0, fold := 0, count := 0, sealLost := false, keygen := y.keygen }
            if y.st = .openE ∨ (s.tenant y.tenant).st = 2 then s.skipExtent r e
            else if sealOk && (Tab.find e s.asy.seals).isSome then s.setRun (some { r with cur := some e })
            else
              let d := s.draw
              d.2.runFinding { r with cur := some e, sealLost := true } 5 0xFFFF e 0 d.1
        | some e =>
          let y := s.ext e
          if (y.st ≠ .sealedE ∧ y.st ≠ .migrating) ∨ y.keygen ≠ r.keygen then s.skipExtent r e
          else if s.walkEnd r e ≤ r.off then s
          else match x with
            | .padding => s.walkTo r ((r.off / s.stripeOf e + 1) * s.stripeOf e)
            | .invalid next =>
              if r.off < next then
                let s := s.runFinding r 1 0xFFFF e r.off (next - r.off)
                (match s.asy.run with | some r => s.walkTo r next | none => s)
              else s
            | .record =>
              match (if r.sealLost then none else (Tab.find e s.asy.seals).bind fun z => z.abandoned.find? fun a => a.1 = r.off) with
              | some a => s.walkTo r (r.off + storedSize a.2)
              | none =>
                match s.lane.assayDone with
                | (n, status, stored, recon) :: rest =>
                  let s : State := { s with lane.assayDone := rest }
                  if n ≠ r.run then s
                  else if status = Status.KEY_UNAVAILABLE then s.skipExtent r e
                  else s.slotOutcome r e status stored recon
                | [] =>
                  if s.lane.items.any fun i => i.2.use = .assay r.run && i.2.phase ≠ .zeroing then s
                  else match s.readGroup .assay with
                    | some g => s.startItem (s.newItem .assay (.assay r.run) 0 0 0 y.tenant (locator e r.off y.keygen 1) 0 0 g)
                    | none => s

/-- ASSAY_EXTENT_END (08, R326): at END the fold and count are compared. -/
def execAssayExtentEnd (s : State) : Res :=
  .next <|
    match s.asy.run with
    | none => s
    | some r =>
      match r.cur with
      | none => s
      | some e =>
        if r.paused ∨ r.off < s.walkEnd r e then s
        else
          let bad := match Tab.find e s.asy.seals with
            | some z => !r.sealLost && !z.unknown && !(z.fold = r.fold && z.records = r.count)
            | none => false
          let r' := { r with cur := none, next := e + 1, extents := r.extents + 1, lastExt := e }
          let s := (s.setRun (some r')).addWrap Reg.ASY_ASSAY_EXT.DONE 0 1
          if bad then let d := s.draw; d.2.runFinding r' 3 0xFFFF e r.off d.1 else s

/-- ASSAY_BATCH_CHECK (08, R327): a run of SCOPE 0 checks its next batch. The signatures of a sampled batch are verified. -/
def execAssayBatchCheck (c : BatchCheck) (s : State) : Res :=
  .next <|
    match s.asy.run with
    | none => s
    | some r =>
      let n := r.batches + 1
      let last := s.rd Reg.SCV_BATCH_SEQ.BATCH 0
      if r.paused ∨ r.scope ≠ 0 ∨ last < n then s
      else
        let sampled := n % max 1 (s.setting 0x5011) = 0 || n = last || r.aflags.testBit 1
        let bad := match c with | .good => false | .signature => sampled | _ => true
        let r' := { r with batches := n, sigs := if sampled then r.sigs + 1 else r.sigs }
        if bad then let d := s.draw; d.2.runFinding r' 8 0xFFFF 0 n d.1 else s.setRun (some r')

/-- ASSAY_RUN_END (08, R329): the scope of the run is done. -/
def execAssayRunEnd (s : State) : Res :=
  .next <|
    match s.asy.run with
    | none => s
    | some r =>
      if r.paused ∨ r.cur.isSome ∨ (s.runExtent r).isSome ∨ (r.scope = 0 ∧ r.batches < s.rd Reg.SCV_BATCH_SEQ.BATCH 0) then s else s.endRun 1

/-- ASY_CTRL_WRITE (08, R342). -/
def execAsyCtrlWrite (m : Fin 16) (v : BitVec 32) (s : State) : Res :=
  .next <| s.guardWrite m.val 0x40A00004 fun s => (s.wr Reg.ASY_CTRL.PATROL_PAUSE 0 (v.toNat % 2)).wr Reg.ASY_CTRL.MIG_PAUSE 0 (v.toNat / 2)

/-! ### RELEASE_EXTENTS (08, R332–R334) -/

/-- The position of the first index that fails a check, with the status. -/
def firstBad (l : List Nat) (p : Nat → Bool) : Option Nat := l.findIdx? p

/-- The checks of R333: the status and the list position. -/
def State.releaseRefused (s : State) (sub : Nat) (e : Entry) (l : List Nat) : Option (Nat × Nat) :=
  let t := e.bytes 33 1
  let n := e.bytes 36 4
  let at_ (p : Nat → Bool) (st : Nat) : Option (Nat × Nat) := (firstBad l p).map fun i => (st, i)
  match s.rankRefused (sub = 4) with
  | some st => some (st, 0xFFFFFFFF)
  | none =>
    if !onlyBytes e [(32, 2), (36, 4)] ∨ n < 1 ∨ 512 < n ∨ e.length.toNat ≠ 4 * n ∨ (s.tenant t).st = 0 ∨ l.length ≠ n then
      some (Status.FIELD_INVALID, 0xFFFFFFFF)
    else match at_ (fun x => extentSpace ≤ x || 1 < l.count x) Status.FIELD_INVALID with
      | some r => some r
      | none => match at_ (fun x => (s.ext x).st = .free || (s.ext x).st = .retired || (s.ext x).tenant ≠ t) Status.FIELD_INVALID with
        | some r => some r
        | none =>
          match (if sub = 1 then at_ (fun x => (s.ext x).st ≠ .sealedE && (s.ext x).st ≠ .migrating) Status.FIELD_INVALID else none) with
          | some r => some r
          | none =>
            match (if sub = 1 then at_ (fun x => (s.ext x).hold) Status.EXTENT_HELD else none) with
            | some r => some r
            | none =>
              if (sub = 3 ∨ (sub = 1 ∧ s.setting 0x5020 = 1)) ∧ !s.quorum then some (Status.QUORUM_REQUIRED, 0xFFFFFFFF) else none

/-- A row of RELEASE_EXTENTS: the list read from the host, the checks, then `run`. -/
def State.releaseRow (s : State) (f q sub : Nat) (list : List (BitVec 32)) (run : FEntry → List Nat → State → State) : State :=
  if s.set.excl then s
  else s.subCmd f q 0x88 sub 4 (fun _ => (s.rankRefused false).map fun st => (st, 0xFFFFFFFF)) fun x s =>
    let l := list.map BitVec.toNat
    match s.releaseRefused sub x.e l with
    | some (st, i) => s.complete f q x.e.cid.toNat st 0 i
    | none => run x l s

/-- The command completes when the commit of its changes ends; it stays exclusive until then (03, R128; 08, R333, R334). -/
def State.releaseWaits (s : State) (f q : Nat) (x : FEntry) (n : Nat) : State :=
  { s with set.excl := true }.waitCommit (.release f q x.e.cid.toNat n)

/-- RELEASE_EXTENTS_RELEASE (08, R334). -/
def execReleaseExtentsRelease (f : Fn) (q : Q) (list : List (BitVec 32)) (s : State) : Res :=
  .next <| s.releaseRow f.val q.val 1 list fun x l s =>
    let s := s.abandonMigs (fun m => l.contains m.extent) false
    let s := s.setAttn (s.asy.attn.filter fun a => !l.contains a.extent)
    let s := l.foldl (fun (t : State) e => (t.setExt e { t.ext e with st := .releasePending }).waitCommit (.released e)) s
    s.releaseWaits f.val q.val x l.length

/-- RELEASE_EXTENTS_HOLD_SET (08, R333). -/
def execReleaseExtentsHoldSet (f : Fn) (q : Q) (list : List (BitVec 32)) (s : State) : Res :=
  .next <| s.releaseRow f.val q.val 2 list fun x l s =>
    (l.foldl (fun (t : State) e => t.setExt e { t.ext e with hold := true }) s).releaseWaits f.val q.val x l.length

/-- RELEASE_EXTENTS_HOLD_CLEAR (08, R333). -/
def execReleaseExtentsHoldClear (f : Fn) (q : Q) (list : List (BitVec 32)) (s : State) : Res :=
  .next <| s.releaseRow f.val q.val 3 list fun x l s =>
    (l.foldl (fun (t : State) e => t.setExt e { t.ext e with hold := false }) s).releaseWaits f.val q.val x l.length

/-- RELEASE_EXTENTS_QUERY (08, R332, R333). -/
def execReleaseExtentsQuery (f : Fn) (q : Q) (list : List (BitVec 32)) (s : State) : Res :=
  .next <| s.releaseRow f.val q.val 4 list fun x l s =>
    let w := l.flatMap fun e => let y := s.ext e; leBytes (y.st.code + (if y.hold then 16 else 0) + y.age * 32) 4
    (s.hostScatter f.val x.sg w).complete f.val q.val x.e.cid.toNat Status.SUCCESS l.length 0xFFFFFFFF

end Sys2Proof.Machine
end

