-- ==== Sys2Proof/Machine/Persist.lean ====
section
/-!
DEFINITION. Machine/Persist.lean: the journal, full persists, leaf repair and the detection of a rollback (05, R207–R217; 06, R242; 08, R314).
-/

namespace Sys2Proof.Machine

/-! ### Marks and seal records (06, R242; 08, R314) -/

/-- The mark of a ledger now: its durable prefix ends before its first chained record that is not durable. -/
def State.markOf (s : State) (l : Nat) (x : Ledger) : Mark :=
  match s.led.recs.find? fun y => keyLedger y.1 = l && y.2.chained && !y.2.durable && !y.2.lost with
  | some y => ⟨x, keySeq y.1, y.2.before⟩
  | none => ⟨x, x.unchained, x.chain⟩

/-- The marks of every ledger. -/
def State.allMarks (s : State) : Tab Mark := Tab.mapVal (fun l x => s.markOf l x) s.led.tab

/-- The scan starts (06, R242): every extent with a record not durable, and the lowest offset of one. -/
def State.scanStarts (s : State) : List (Nat × Nat) :=
  (s.led.recs.foldl (fun (t : Tab Nat) x =>
    if x.2.durable then t else Tab.put x.2.extent (min x.2.offset (Tab.getD t x.2.extent x.2.offset)) t) [])

/-- Records of an extent that are not yet chained: its seal record waits for them (log entry 15). -/
def State.unchainedIn (s : State) (e : Nat) : Bool :=
  s.led.recs.any fun x => x.2.extent = e && !x.2.chained && (x.2.voidCause = 0 || x.2.placed)

/-- The checkpoint entries not held in a stored batch block, in the order formed (06, R242). -/
def State.unstoredEntries (s : State) : List CkEntry :=
  (s.scv.batches.filter fun b => !b.stored).flatMap (·.entries) ++ s.scv.entries ++ s.scv.outside

/-- Write the seal records of the extents sealed (08, R314). -/
def State.writeSeals (s : State) : State :=
  (s.key.ext.filter fun x => (x.2.st = .sealedE || x.2.st = .migrating) && (Tab.find x.1 s.asy.seals).isNone && !s.unchainedIn x.1).foldl
    (fun t x => { t with asy.seals := Tab.put x.1 { t.accOf x.1 with endOff := x.2.next, tenant := x.2.tenant, keygen := x.2.keygen } t.asy.seals,
                         asy.acc := Tab.del x.1 t.asy.acc }) s

/-! ### Journal commits (05, R211–R213) -/

/-- Start a journal commit (05, R211, R212; 06, R242): the first 2,016 changes, their mark block first. None while one is in flight or the archive is
read-only. -/
def State.startCommit (s : State) : State :=
  if s.key.committing || s.archiveRo then s
  else
    let n := 2016
    { s with key.committing := true, key.commit := s.key.journal.take n, key.journal := s.key.journal.drop n,
             key.more := decide (n < s.key.journal.length), key.clean := false,
             key.jwaitNow := (s.key.jwait.filter fun w => w.1 ≤ n).map (·.2),
             key.jwait := (s.key.jwait.filter fun w => n < w.1).map fun w => (w.1 - n, w.2),
             scv.mark := true, scv.markStored := false, scv.markNow := s.allMarks, scv.keptNow := s.unstoredEntries, scv.scans := s.scanStarts }

/-- JOURNAL_COMMIT_INTERVAL (05, R211): a commit starts if the table has changed. -/
def execJournalCommitInterval (s : State) : Res := .next <| if s.key.journal = [] then s else s.startCommit

/-- MARK_BLOCK_STORED (06, R242; 08, R314): the mark block of the commit, and the seal records with it, are stored. -/
def execMarkBlockStored (s : State) : Res :=
  .next <| if s.scv.mark then { s.writeSeals with scv.mark := false, scv.markStored := true } else s

/-- Replay a journal entry on a table (05, R209, R211). -/
def replay (g : Nat) (t : Tab Extent) : JEntry → Tab Extent
  | .entry e x => Tab.store (Extent.unused g) e x t
  | .nextOffset e off => (match Tab.find e t with | some x => Tab.put e { x with next := off } t | none => t)
  | _ => t

/-- The commit of an OPEN extent's allocation lets units be written to it (05, R205). -/
def State.markCommitted (s : State) : JEntry → State
  | .entry e x => if x.st = .openE && (s.ext e).st = .openE then s.touchExt e { s.ext e with committed := true } else s
  | _ => s

/-- What waited for a commit goes on (05, R213): a release's completion, its zone resets, a migration's phase, zone resets. -/
def State.afterCommit (s : State) : JWait → State
  | .release f q cid n => ({ s with set.excl := false }.complete f q cid Status.SUCCESS n 0xFFFFFFFF)
  | .released e => if (s.ext e).st = .releasePending then s.resetBay (s.ext e).rank (s.ext e).bay (e + 1) else s
  | .migStart e => s.setMigs (s.asy.migs.map fun (m : Mig) => if m.extent = e then { m with started := true } else m)
  | .migDone e => s.migCommitted e
  | .bayReset r b e => { s with media.resets := s.media.resets ++ [(r, b, e)] }.send (.nvme r "resetBay" [b])

/-- JSEQ of the last committed block, and the journal head in BBRAM. -/
def State.moveHead (s : State) : State :=
  let n := max 1 ((s.key.commit.length + 125) / 126)
  let s := s.addWrap Reg.EXT_JSEQ.JSEQ 0 n
  { s with key.head := some (s.rd Reg.EXT_JSEQ.JSEQ 0) }

/-- The commit in flight ends (05, R212): the head moves, the changes are durable, what waited goes on; changes left over form the next commit. -/
def State.endCommit (s : State) : State :=
  let c := s.key.commit
  let w := s.key.jwaitNow
  let s := s.moveHead
  let s : State := { s with key.durable := c.foldl (replay s.key.freshGen) s.key.durable, key.leaves := s.key.leaves.map fun t => c.foldl (replay s.key.freshGen) t,
                            key.commit := [], key.committing := false, key.jwaitNow := [], key.jfail := false,
                            scv.marks := s.scv.markNow, scv.markNow := [], scv.kept := s.scv.keptNow, scv.keptNow := [], scv.markStored := false }
  let s := c.foldl State.markCommitted s
  let s := w.foldl State.afterCommit s
  if s.key.more then s.startCommit else s

/-- JOURNAL_COMMIT_DONE (05, R212): every copy of the commit's blocks is acknowledged; made only after its mark block (06, R242). -/
def execJournalCommitDone (s : State) : Res :=
  .next <| if s.key.committing && s.scv.markStored && !s.archiveRo then s.endCommit else s

/-- METADATA_COPY_RETRY (05, R213; 06, R238): a journal block (or, where not `journal`, a batch block) that lacks two copies is placed again. -/
def execMetadataCopyRetry (journal : Bool) (s : State) : Res :=
  .next <|
    if journal then
      if s.key.committing then ({ s with key.jfail := true }.event Ev.EXT_JOURNAL_FAIL).send (.nvme 0 "journalCopy" []) else s
    else if s.scv.batches.any fun b => b.signed.isSome && !b.stored then s.send (.nvme 0 "batchCopy" []) else s

/-- EXT_JCOMMIT (05, R224): a journal commit now. -/
def execExtJcommit (m : Fin 16) (s : State) : Res := .next <| s.guardWrite m.val 0x40500060 State.startCommit

/-! ### Full persists (05, R209, R210, R214) -/

/-- ROOT_COMMIT_INTERVAL (05, R214). -/
def execRootCommitInterval (s : State) : Res := .next s.callPersist

/-- EXT_PERSIST (05, R214, R224): ignored while PERSIST_BUSY. -/
def execExtPersist (m : Fin 16) (s : State) : Res := .next <| s.guardWrite m.val 0x40500060 State.callPersist

/-- PERSIST_HOLDOFF_END (05, R214): a persist that was called for starts once 10 minutes have passed. -/
def execPersistHoldoffEnd (s : State) : Res :=
  .next <| if s.key.persistAll && !s.key.persistNow && !s.archiveRo && decide (s.key.lastRootTicks + rootGap ≤ s.ticks) then s.beginPersist else s

/-- The tree root of a table (05, R208; log entry 4). -/
def treeRoot (t : Tab Extent) : Nat := Config.sha384 (t.flatMap fun x => [x.1, x.2.word])

/-- A root commit (05, R210): the next root-log entry, its registers, the ledger snapshot (06, R242). -/
def State.rootCommit (s : State) (us : Nat) : State :=
  let t := s.key.leaves.getD s.key.durable
  let tree := treeRoot t
  let seq := s.key.root.seq + 1
  let epoch := s.rd Reg.DEV_ARCHIVE_EPOCH.EPOCH 0
  let root := Config.sha384 [0x44505843, seq, epoch, tree] % 2 ^ 192
  let s : State := { s with key.durable := t, key.leaves := none, key.persistNow := false, key.root := ⟨root, epoch, seq⟩, key.tree := tree,
                            key.lastRootTicks := s.ticks, scv.marks := s.allMarks }
  let used := s.rd Reg.EXT_ROOTLOG.USED 0
  let s := if used = 256 then (s.addWrap Reg.EXT_ROOTLOG.SECTOR 0 1).wr Reg.EXT_ROOTLOG.USED 0 1 else s.wr Reg.EXT_ROOTLOG.USED 0 (used + 1)
  let s := (List.range 6).foldl (fun t i => t.wr Reg.EXT_ROOT.ROOT i (root / 2 ^ (32 * i))) s
  let s := ((s.wr Reg.EXT_ROOT_SEQ.SEQ 0 seq).wr Reg.EXT_STATUS.GEN 0 (1 - s.rd Reg.EXT_STATUS.GEN 0)).wr Reg.EXT_PERSIST_TIME.US 0 us
  (s.wr Reg.EXT_STATUS.PERSIST_BUSY 0 0).event Ev.EXT_PERSIST_DONE

/-- PERSIST_DONE (05, R209, R210): the last leaf and descriptor are acknowledged; the root entry is programmed, `us` microseconds after the
start. -/
def execPersistDone (us : BitVec 32) (s : State) : Res := .next <| if s.key.persistNow then s.rootCommit us.toNat else s

/-! ### Ages, leaf repair, rollback (05, R207, R217) -/

/-- AGE rises by some days in every SEALED and MIGRATING extent (05, R207; 08, R331). -/
def State.raiseAges (s : State) (days : Nat) : State :=
  { s with key.ext := Tab.mapVal (fun _ (x : Extent) => if x.st = .sealedE || x.st = .migrating then { x with age := min 32767 (x.age + days) } else x) s.key.ext,
           asy.ageTicks := s.asy.ageTicks + days * dayTicks }

/-- AGE_DAILY_UPDATE (05, R207). -/
def execAgeDailyUpdate (s : State) : Res := .next (s.raiseAges 1)

/-- Log 0x42 (05, R222): the last 64 rollback events; `found` is the SEQ of the candidate and the digest of its descriptor. -/
def State.rollLogged (s : State) (ev : Nat) (found : Nat × Nat) (cause : Nat) : State :=
  let l := s.key.roll ++ [⟨s.ticks, ev, s.key.root.seq, found.1, cause, s.key.root.root, found.2, s.rd Reg.EXT_JSEQ.JSEQ 0⟩]
  { s with key.roll := l.drop (l.length - 64) }

/-- The candidate that the latest detection logged: its SEQ and the digest of its descriptor. -/
def State.lastCandidate (s : State) : Nat × Nat :=
  match s.key.roll.reverse.find? fun e => e.event = 1 with
  | some e => (e.foundSeq, e.foundRoot)
  | none => (0, 0)

/-- ROLLBACK_DETECTED (05, R217): the archive is read-only; the candidate, where there is one, is the table in force. -/
def State.rollback (s : State) (cause : Nat) (candidate : Option (Tab Extent × Nat)) : State :=
  let s := ((s.wr Reg.DEV_STATUS.ARCHIVE_RO 0 1).wr Reg.EXT_STATUS.READ_ONLY 0 1).event Ev.EXT_ROLLBACK
  let d := s.draw
  let s := match candidate with
    | some c => d.2.rollLogged 1 (c.2, d.1 % 2 ^ 192) cause
    | none => s.rollLogged 1 (0, 0) cause
  let s : State := { s.wr Reg.EXT_STATUS.PERSIST_BUSY 0 0 with key.persistNow := false, key.leaves := none, key.candidate := candidate.isSome }
  match candidate with
  | some c => { s with key.ext := c.1 }
  | none => s

/-- EXTENT_SRAM_UE (05, R207): the leaf that holds an extent is repaired from its persisted copy, the journal and the changes not yet
committed, so it holds what it held (log entry 16); where no copy of it matches (not `repaired`), ROLLBACK_DETECTED follows, with the persisted image as candidate. -/
def execExtentSramUe (_e : ExtIdx) (repaired : Bool) (s : State) : Res :=
  .next <|
    if repaired then s.event Ev.EXT_LEAF_REPAIRED
    else s.rollback 8 (some (s.key.durable, s.key.root.seq))

end Sys2Proof.Machine
end

