-- ==== Sys2Proof/Machine/Flash.lean ====
section
/-!
DEFINITION. Machine/Flash.lean: the embedded flash (15): its sectors, programs, erases and their suspension, unfinished-erase flags, the refresh walk.
-/

namespace Sys2Proof.Machine

/-! ### Banks, sectors and contents (R518–R524) -/

/-- The bank of a flash address (R518). -/
def flashBank (a : Nat) : Nat := if a < 0x200000 then 0 else if a < 0x400000 then 1 else if a < 0x600000 then 0 else 1

/-- The sector index of a flash address (R518). -/
def flashSector (a : Nat) : Nat := if a < 0x700000 then a / 8192 else 896 + (a - 0x700000) / 2048

/-- The first address of a sector. -/
def sectorBase (n : Nat) : Nat := if n < 896 then n * 8192 else 0x700000 + (n - 896) * 2048

/-- The bytes of a sector. -/
def sectorSize (n : Nat) : Nat := if n < 896 then 8192 else 2048

/-- What a bank holds. -/
def State.bank (s : State) (b : Nat) : FlashBank := Tab.getD s.efl.bank b ⟨none, none, false, []⟩

/-- The bank's state of R527: 0 IDLE, 1 PROGRAM, 2 ERASE, 3 SUSPENDED, 4 NESTED. -/
def FlashBank.state (x : FlashBank) : Nat :=
  match x.run, x.sus with
  | none, none => 0
  | some o, none => if o.op = 1 then 1 else 2
  | none, some _ => 3
  | some _, some _ => 4

/-- Replace a bank; EFL_BANK_STATUS.STATE follows. -/
def State.setBank (s : State) (b : Nat) (x : FlashBank) : State :=
  { s with efl.bank := Tab.put b x s.efl.bank }.wr Reg.EFL_BANK_STATUS.STATE b x.state

/-- A byte of the flash array (R519, R521). -/
def State.flashByte (s : State) (a : Nat) : Nat := (Tab.getD s.efl.mem a (BitVec.ofNat 8 0xFF)).toNat

/-- Write a byte of the array. -/
def State.setFlashByte (s : State) (a v : Nat) : State :=
  { s with efl.mem := Tab.store (BitVec.ofNat 8 0xFF) a (BitVec.ofNat 8 v) s.efl.mem }

/-- Program bytes from an address on. -/
def State.flashWrite (s : State) (a : Nat) : List Nat → State
  | [] => s
  | v :: r => (s.setFlashByte a v).flashWrite (a + 1) r

/-- Blank a range of the array: every byte reads as erased, and no word of it is cut short. -/
def State.flashBlank (s : State) (a n : Nat) : State :=
  { s with efl.mem := Tab.keep (fun k _ => k < a || a + n ≤ k) s.efl.mem,
           efl.cut := s.efl.cut.filter fun w => w * 32 < a || a + n ≤ w * 32 }

/-- A sector whose erase failed: what its words read as, the spec does not say (R525), so they read as any value (log entry 107). -/
def State.flashSpoil (s : State) (a n : Nat) : State :=
  { s with efl.cut := (List.range (n / 32)).map (fun (k : Nat) => a / 32 + k) ++ s.efl.cut }

/-- The word at an address reads as erased (R523). -/
def State.wordErased (s : State) (a : Nat) : Bool :=
  !s.efl.cut.contains (a / 32) && !s.efl.mem.any fun x => a ≤ x.1 && x.1 < a + 32

/-- The flag word of a sector (R533). -/
def State.flagWord (s : State) (n : Nat) : FlagWord := Tab.getD s.efl.flags n ⟨false, 0, 0⟩

/-- A sector is ERASE_INCOMPLETE as EFL_INCOMPLETE holds it (R535). -/
def State.incomplete (s : State) (n : Nat) : Bool := s.rdBit Reg.EFL_INCOMPLETE.SECTOR (n / 32) (n % 32)

/-- An entry of log 0x62 (R541). -/
def State.flashLog (s : State) (ev sector pulses iface addr : Nat) : State :=
  let l := s.efl.log ++ [⟨s.ticks, ev, sector, pulses, iface, addr⟩]
  { s with efl.log := l.drop (l.length - 128) }

/-- How a read of the flash ends (R521, R524, R529): it waits for the bank; it ends with an error; the word was cut short, so its value is free; or the array
gives it. -/
inductive FlashRead where
  | waits | error | cut | array
  deriving DecidableEq, Repr

/-- How a read at an address ends now. -/
def State.flashRead (s : State) (a : Nat) : FlashRead :=
  let x := s.bank (flashBank a)
  let n := flashSector a
  let erasing (o : Option FlashOp) : Bool := match o with | some y => y.op = 2 && flashSector y.addr = n | none => false
  if erasing x.run || erasing x.sus || s.incomplete n then .error
  else if x.run.isSome then .waits
  else if s.efl.cut.contains (a / 32) then .cut
  else .array

/-! ### Commands (R526–R528) -/

/-- The end of an operation: BUSY clears, the DONE bit of its interface is set. -/
def State.flashEnded (s : State) (b i err : Nat) : State :=
  let k := 2 * b + i
  let s := ((s.wr Reg.EFL_IF_STATUS.BUSY k 0).wr Reg.EFL_IF_STATUS.WAIT k 0).wr Reg.EFL_IF_STATUS.ERR k err
  s.riseOf 17 (s.wrBit Reg.EFL_EVENT.DONE 0 k true)

/-- Start an operation on a bank that can run it: a program that finds its word not erased, or its sector ERASE_INCOMPLETE, ends with ERR = 3; an erase
prepares its flag word and programs START. -/
def State.flashStart (s : State) (b : Nat) (o : FlashOp) : State :=
  let x := s.bank b
  let s := s.wr Reg.EFL_IF_STATUS.WAIT (2 * b + o.iface) 0
  if o.op = 1 then
    if !s.wordErased o.addr || s.incomplete (flashSector o.addr) then s.flashEnded b o.iface 3 else s.setBank b { x with run := some o }
  else
    let n := flashSector o.addr
    let f := s.flagWord n
    let f := if !f.valid || 63 ≤ f.starts then ⟨true, 0, 0⟩ else f
    ({ s with efl.flags := Tab.put n { f with starts := f.starts + 1 } s.efl.flags }).setBank b { x with run := some o }

/-- The write-protect bit of a policy code sector (R532). -/
def State.protectedSector (s : State) (n : Nat) : Bool := n < 512 && s.rdBit Reg.EFL_WP.WP (n / 32) (n % 32)

/-- The check of R526 that refuses a command: 6 ADDRESS, 4 PROTECTED. An address in the other bank is taken as ADDRESS. -/
def State.flashRefused (s : State) (b i op a : Nat) : Option Nat :=
  let n := flashSector a
  if 0x800000 ≤ a ∨ flashBank a ≠ b ∨ (op = 1 ∧ a % 32 ≠ 0) ∨ (op = 2 ∧ a ≠ sectorBase n) then some 6
  else if s.protectedSector n ∨ (i = 1 ∧ (512 ≤ n ∨ n / 256 ≠ b)) then some 4
  else none

/-- A refused command ends at once and changes nothing else. -/
def State.flashErr (s : State) (b i err : Nat) : State := s.wr Reg.EFL_IF_STATUS.ERR (2 * b + i) err

/-- PROGRAM or ERASE on an interface, by the table of R527. -/
def State.flashCmd (s : State) (b i op : Nat) : State :=
  let k := 2 * b + i
  let a := s.rd Reg.EFL_IF_ADDR.ADDR k
  let data := (List.range 8).foldl (fun v n => v + s.rd Reg.EFL_IF_WDATA.DATA (k * 8 + n) * 2 ^ (32 * n)) 0
  let o : FlashOp := ⟨i, op, a, data⟩
  let x := s.bank b
  let taken := (((s.wr Reg.EFL_IF_STATUS.BUSY k 1).wr Reg.EFL_IF_STATUS.LASTOP k op).wr Reg.EFL_IF_STATUS.ERR k 0)
  let wait := (taken.wr Reg.EFL_IF_STATUS.WAIT k 1).setBank b { x with waiting := x.waiting ++ [o] }
  let mine (y : Option FlashOp) : Bool := match y with | some y => y.iface = i | none => false
  match s.flashRefused b i op a with
  | some e => s.flashErr b i e
  | none =>
    match x.state with
    | 0 => taken.flashStart b o
    | 1 => wait
    | 2 => if mine x.run then s.flashErr b i 5 else wait
    | 3 =>
      if op = 1 then
        if mine x.sus then
          (match x.sus with
            | some y => if flashSector y.addr = flashSector a then s.flashErr b i 7 else taken.flashStart b o
            | none => s)
        else wait
      else if mine x.sus then s.flashErr b i 5 else wait
    | _ => if op = 1 then s.flashErr b i 5 else if mine x.sus then s.flashErr b i 5 else wait

/-- The address of EFL_IF_CMD of an interface. -/
def eflCmd (b i : Nat) : Nat := 0x40D00004 + (2 * b + i) * 0x100

/-- FLASH_PROGRAM (R523, R526, R527). -/
def execFlashProgram (m : Fin 16) (b i : Fin 2) (s : State) : Res :=
  .next <| s.guardWrite m.val (eflCmd b.val i.val) fun s => s.flashCmd b.val i.val 1

/-- FLASH_ERASE (R525–R527). -/
def execFlashErase (m : Fin 16) (b i : Fin 2) (s : State) : Res :=
  .next <| s.guardWrite m.val (eflCmd b.val i.val) fun s => s.flashCmd b.val i.val 2

/-- FLASH_SUSPEND (R527, R528): its effect comes with FLASH_SUSPEND_EFFECT. -/
def execFlashSuspend (m : Fin 16) (b i : Fin 2) (s : State) : Res :=
  .next <| s.guardWrite m.val (eflCmd b.val i.val) fun s =>
    let x := s.bank b.val
    match x.state with
    | 2 =>
      match x.run with
      | some o => if o.iface = i.val then (s.wr Reg.EFL_IF_STATUS.LASTOP (2 * b.val + i.val) 3).setBank b.val { x with susDue := true }
          else s.flashErr b.val i.val 5
      | none => s
    | 3 => s
    | _ => s.flashErr b.val i.val 5

/-- FLASH_SUSPEND_EFFECT (R528): the erase is suspended. -/
def execFlashSuspendEffect (b : Fin 2) (s : State) : Res :=
  .next <|
    let x := s.bank b.val
    match x.susDue, x.state, x.run with
    | true, 2, some o =>
      let s := s.setBank b.val { x with run := none, sus := some o, susDue := false }
      (s.wr Reg.EFL_BANK_STATUS.SUSIF b.val o.iface).wr Reg.EFL_BANK_SUSADDR.ADDR b.val o.addr
    | _, _, _ => s

/-- FLASH_RESUME (R527, R528). -/
def execFlashResume (m : Fin 16) (b i : Fin 2) (s : State) : Res :=
  .next <| s.guardWrite m.val (eflCmd b.val i.val) fun s =>
    let x := s.bank b.val
    match x.state with
    | 2 => s
    | 3 =>
      match x.sus with
      | some o => if o.iface = i.val then (s.wr Reg.EFL_IF_STATUS.LASTOP (2 * b.val + i.val) 4).setBank b.val { x with run := some o, sus := none }
          else s.flashErr b.val i.val 5
      | none => s
    | _ => s.flashErr b.val i.val 5

/-- Once a bank is IDLE, the first waiting command starts (R526). -/
def State.flashNext (s : State) (b : Nat) : State :=
  let x := s.bank b
  match x.state, x.waiting with
  | 0, o :: r => (s.setBank b { x with waiting := r }).flashStart b o
  | _, _ => s

/-- The bytes of a 256-bit word, byte 0 first. -/
def wordBytes (v : Nat) : List Nat := (List.range 32).map fun i => v / 2 ^ (8 * i) % 256

/-- FLASH_PROGRAM_DONE (R523, R524, R536): the word verifies after so many pulses, or fails after 24; the bank returns to IDLE or SUSPENDED. -/
def execFlashProgramDone (b : Fin 2) (pulses : Fin 25) (ok : Bool) (s : State) : Res :=
  .next <|
    let x := s.bank b.val
    match x.run with
    | some o =>
      if o.op ≠ 1 then s
      else
        let n := flashSector o.addr
        let p := if ok then pulses.val else 24
        let s := s.wr Reg.EFL_BANK_STATUS.PULSES b.val p
        let s := if 8 ≤ p then ((s.flashLog 1 n p o.iface o.addr).wr Reg.EFL_WEAR.ADDR 0 o.addr).event Ev.EFL_PULSE_HIGH else s
        let s := if ok then s.flashWrite o.addr (wordBytes o.data)
          else ({ s with efl.cut := o.addr / 32 :: s.efl.cut }.flashLog 3 n p o.iface o.addr).event Ev.EFL_FAIL
        ((s.setBank b.val { x with run := none }).flashEnded b.val o.iface (if ok then 0 else 1)).flashNext b.val
    | none => s

/-- FLASH_ERASE_DONE (R525, R535, R536): the sector verifies blank after so many pulses and DONE is programmed, or fails after 19 and leaves
words of any value. -/
def execFlashEraseDone (b : Fin 2) (pulses : Fin 20) (ok : Bool) (s : State) : Res :=
  .next <|
    let x := s.bank b.val
    match x.run with
    | some o =>
      if o.op ≠ 2 then s
      else
        let n := flashSector o.addr
        let p := if ok then pulses.val else 19
        let s := s.wr Reg.EFL_BANK_STATUS.EPULSES b.val p
        let s := if 8 ≤ p then ((s.flashLog 2 n p o.iface o.addr).wr Reg.EFL_WEAR.ADDR 0 o.addr).event Ev.EFL_ERASE_SLOW else s
        let s := if ok then
            let f := s.flagWord n
            let s := s.flashBlank (sectorBase n) (sectorSize n)
            ({ s with efl.flags := Tab.put n { f with dones := f.starts } s.efl.flags }).wrBit Reg.EFL_INCOMPLETE.SECTOR (n / 32) (n % 32) false
          else ((s.flashSpoil (sectorBase n) (sectorSize n)).flashLog 4 n p o.iface o.addr).event Ev.EFL_FAIL
        ((s.setBank b.val { x with run := none, susDue := false }).flashEnded b.val o.iface (if ok then 0 else 2)).flashNext b.val
    | none => s

/-! ### Refresh and the boot checks (R534–R538) -/

/-- Scratch sectors (R519). -/
def scratchSector (n : Nat) : Bool := [766, 767, 890, 891, 1406, 1407].contains n

/-- The sector after `n` in the runtime walk (R538): 640 to 1,407, scratch excluded. -/
def nextWalk (n : Nat) : Nat :=
  let m := if n < 640 ∨ 1407 ≤ n then 640 else n + 1
  if m = 766 then 768 else if m = 890 then 892 else if m = 1406 then 640 else m

/-- FLASH_REFRESH_WALK (R537, R538): the next runtime sector is refreshed through scratch, unless it is blank; the walk moves on. It waits for its bank. -/
def execFlashRefreshWalk (blank : Bool) (s : State) : Res :=
  .next <|
    let n := let r := s.rd Reg.EFL_REFRESH.NEXT 0; if r < 640 ∨ scratchSector r then 640 else r
    if !s.mainOn ∨ (s.bank (flashBank (sectorBase n))).state ≠ 0 then s
    else
      let s := if blank then s
        else { s with efl.dates := Tab.put n s.ticks s.efl.dates }.flashLog 6 n 0 0 (sectorBase n)
      s.wr Reg.EFL_REFRESH.NEXT 0 (nextWalk n)

/-- AON ticks of a refresh cycle (R540): years of 365 days. -/
def State.refreshCycle (s : State) : Nat := s.setting 0x0040 * 365 * 86400 * 32768

/-- Boot step 4 (R534, R535): the sectors whose erase did not end are found, logged and shown. -/
def State.findIncomplete (s : State) : State :=
  let found := (s.efl.flags.filter fun x => x.2.valid && decide (x.2.dones < x.2.starts)).map (·.1)
  let s := found.foldl (fun t n => (t.wrBit Reg.EFL_INCOMPLETE.SECTOR (n / 32) (n % 32) true).flashLog 5 n 0 0 (sectorBase n)) s
  if found = [] then s else s.event Ev.EFL_INCOMPLETE

/-- Boot steps 10 and 12 (R535, R538): unfinished sectors of the policy halves are erased; sectors of the KEEPER section and the policy halves that are due are
refreshed, one that is write-protected skipped and logged. -/
def State.bootRefresh (s : State) : State :=
  let inc := (List.range 512).filter s.incomplete
  let s := inc.foldl (fun t n =>
    let f := t.flagWord n
    ({ t.flashBlank (sectorBase n) (sectorSize n) with efl.flags := Tab.put n { f with dones := f.starts } t.efl.flags }).wrBit
      Reg.EFL_INCOMPLETE.SECTOR (n / 32) (n % 32) false) s
  let due := (s.efl.dates.filter fun x => x.1 < 640 && decide (s.refreshCycle ≤ s.ticks - x.2)).map (·.1)
  let blocked := due.filter s.protectedSector
  let s := due.foldl (fun t n =>
    if t.protectedSector n then t.flashLog 8 n 0 0 (sectorBase n)
    else ({ t with efl.dates := Tab.put n t.ticks t.efl.dates }).flashLog 6 n 0 0 (sectorBase n)) s
  let s := s.wr Reg.EFL_REFRESH.BLOCKED 0 blocked.length
  if blocked = [] then s else s.event Ev.EFL_REFRESH_BLOCKED

/-- A reset cuts the operations short (R524): a word being programmed reads as any value; an erase is found at the next boot. -/
def State.flashCut (s : State) : State :=
  let cut := s.efl.bank.filterMap fun x => match x.2.run with | some o => if o.op = 1 then some (o.addr / 32) else none | none => none
  { s with efl.cut := cut ++ s.efl.cut, efl.bank := [] }

/-- Before SLEEP or WATCH (R539): no operation is left. -/
def State.flashIdle (s : State) : Bool := s.efl.bank.all fun x => x.2.state = 0 && x.2.waiting = []

/-- Install a firmware section (10, R374): the sectors it and the previous install occupy are erased, and it is programmed. -/
def State.installSection (s : State) (base old : Nat) (bytes : List (BitVec 8)) : State :=
  let n := (max old bytes.length + 8191) / 8192
  let s := (s.flashBlank base (n * 8192)).flashWrite base (bytes.map BitVec.toNat)
  { s with efl.dates := (List.range n).foldl (fun t i => Tab.put (flashSector base + i) s.ticks t) s.efl.dates,
           efl.flags := (List.range n).foldl (fun t i =>
             let f := Tab.getD t (flashSector base + i) ⟨true, 0, 0⟩
             let f := if !f.valid || 63 ≤ f.starts then ⟨true, 0, 0⟩ else f
             Tab.put (flashSector base + i) { f with starts := f.starts + 1, dones := f.starts + 1 } t) s.efl.flags }

end Sys2Proof.Machine
end

