-- ==== Sys2Proof/Machine/Aon.lean ====
section
/-!
DEFINITION. Machine/Aon.lean: what Watchman and the power commands share in the always-on domain: the supply and wake log (11, R434), the start
of a wake (11, R420), ALERT# (11, R425).
-/

namespace Sys2Proof.Machine

/-- An entry of log 0x61 (11, R434): the last 64 are kept. -/
def State.supplyLog (s : State) (ev detail : Nat) : State :=
  let l := s.aon.log ++ [⟨s.ticks, ev, detail, s.rd Reg.AON_SUPPLY.VAON 0, s.rd Reg.AON_SUPPLY.VBAT 0⟩]
  { s with aon.log := l.drop (l.length - 64) }

/-- Drive PWR_EN (11, R418). -/
def State.setPwrEn (s : State) (on : Bool) : State :=
  if s.aon.pwrEn = on then s else ({ s with aon.pwrEn := on }).send (.pin "PWR_EN" on)

/-- XTAL25 is started; the wake waits for it (11, R420 step 3). -/
def State.startCrystal (s : State) (w : Wake) : State := { s with aon.wake := some { w with step := .crystal } }

/-- A wake starts from SLEEP or WATCH (11, R420): fresh attempt counts; none while one runs, while PWR_FAIL# is asserted (11, R419), or in ACTIVE and
READY (11, R416). -/
def State.startWake (s : State) (cause : Nat) : State :=
  if s.mainOn || s.aon.wake.isSome || s.isSet Reg.AON_STATUS.PWR_FAIL 0 then s
  else
    let s := (s.wr Reg.AON_WAKE_STATUS.CAUSE 0 cause).wr Reg.AON_WAKE_STATUS.ATTEMPTS 0 1
    if s.aon.watch then ({ s with aon.wake := some ⟨true, .power, 1, 1, 1⟩ }).setPwrEn true
    else s.startCrystal ⟨false, .crystal, 1, 1, 1⟩

/-- Draw the seeds of the loop and mesh generators from DRBG instance 0, non-zero (16, R547; log entry 5). -/
def State.seedLoops (s : State) : State :=
  (List.range 5).foldl (fun t i =>
    let d := t.random 0
    { d.2 with tmp.gens := d.2.tmp.gens.set i (max 1 (d.1 % 2 ^ 31)) }) s

end Sys2Proof.Machine
end

