-- ==== Sys2Proof/Machine/CardOps.lean ====
section
/-!
DEFINITION. Machine/CardOps.lean: what other blocks ask of the custodian card interface (17): the start and the end of an exchange, deactivation.
-/

namespace Sys2Proof.Machine

/-- The card is deactivated (17, R569): its clock, supply and registers of the exchange are off. -/
def State.cardOff (s : State) : State :=
  let s := ((s.wr Reg.CRD_STATUS.ACTIVE 0 0).wr Reg.CRD_STATUS.CLASS 0 0).wr Reg.CRD_STATUS.CLKSTOP 0 0
  (s.wr Reg.CRD_STATUS.STOPOK 0 0).send (.pin "CRD_VCC" false)

/-- An exchange starts with the card in the slot at class C (17, R567, R568). -/
def State.cardStart (s : State) (purpose idx : Nat) : State :=
  ({ s with crd.ex := some ⟨purpose, idx, .powering, 3, 0x11, 0, false, none, 0xFF, 0⟩ }).wr Reg.CRD_STATUS.PURPOSE 0 purpose

/-- A custodian set operation ends with a result (17, R581). -/
def State.setDone (s : State) (status : Nat) : State := (s.wr Reg.CRD_SET_STATUS.RESULT 0 status).event Ev.CRD_SET_DONE

/-- The exchange ends with a result (17, R569, R580, R581, R585): shown, logged, the card deactivated; that of an enrolment is the operation's. -/
def State.cardEnd (s : State) (status : Nat) (failed counted : Bool) : State :=
  match s.crd.ex with
  | none => s
  | some x =>
    let e : CardLog := ⟨s.ticks, x.purpose, x.index, status, s.rd Reg.CRD_STATUS.CLASS 0, s.rd Reg.CRD_STATUS.PPS1 0,
      match x.card with | some c => c.id % 2 ^ 32 | none => 0⟩
    let l := s.crd.log ++ [e]
    let s : State := { s with crd.ex := none, crd.log := l.drop (l.length - 64) }
    let s := ((s.wr Reg.CRD_RESULT.STATUS 0 status).wr Reg.CRD_RESULT.INDEX 0 x.index).wr Reg.CRD_RESULT.FAILED 0 (if failed then 1 else 0)
    let s := ((s.wr Reg.CRD_RESULT.COUNTED 0 (if counted then 1 else 0)).cardOff).wr Reg.CRD_STATUS.PURPOSE 0 0
    let s := s.event Ev.CRD_EXCHANGE
    let s := if status = Status.CARD_ERROR then s.event Ev.CRD_ERROR else s
    if x.purpose = 2 then (s.wr Reg.CRD_SET_STATUS.BUSY 0 0).setDone status else s

/-- An exchange is cut by a cause whose result the spec does not state (17, R569: CRD_CTRL.DEACT, the end of the session, SLEEP and WATCH): the result is a
free value. -/
def State.cardCut (s : State) : State :=
  if s.crd.ex.isSome then
    let d := s.draw
    d.2.cardEnd (d.1 % 2 ^ 16) false false
  else s

/-- A tamper response with LOCK ends the exchange with ABORTED_BY_TAMPER (17, R569). -/
def State.cardTamper (s : State) : State := s.cardEnd Status.ABORTED_BY_TAMPER false false

end Sys2Proof.Machine
end

