-- ==== Sys2Proof/Machine/Scrivener.lean ====
section
/-!
DEFINITION. Machine/Scrivener.lean: void seals, chaining, checkpoints, batches, proofs, time anchors and attestation (06).
-/

namespace Sys2Proof.Machine

/-! ### Void seals and chaining (06, R225–R229) -/

/-- VOID_SEAL (06, R228; 03, R101; 16, R555): the void record at the start of a ledger's reorder window is given the tenant's next offset and
waits for a lane; it waits here for an extent, a builder, or the key of a KEY_ABSENT tenant. -/
def execVoidSeal (l : BitVec 16) (s : State) : Res :=
  .next <|
    let l := l.toNat
    let n := (s.ledger l).unchained
    match s.rec? l n with
    | none => s
    | some r =>
      if r.voidCause = 0 || r.placed || !s.keyAvailable r.tenant then s
      else match s.findPlace r.tenant 80 true with
        | .wait t => t
        | .noExtent t => t
        | .mediaFull => s
        | .at e off t =>
          if t.builders + (t.newStripes e off 80).length ≤ t.setting 0x4011 then
            let t := (t.assign r.tenant e off 80).setRec l n { r with extent := e, keygen := (t.ext e).keygen, offset := off, placed := true }
            { t with lane.voids := t.lane.voids ++ [recKey l n] }
          else t

/-- CHAIN_RECORD (06, R227, R229; 03, R105): `how` the write of its receipt ends. -/
def execChainRecord (l : BitVec 16) (how : LinkEnd) (s : State) : Res := .next (s.chainHead l.toNat how).resolve

/-! ### Checkpoints (06, R231–R233) -/

/-- The time-quality bits (06, R247): UNANCHORED, DRIFTING, DEGRADED, STALE. -/
def State.tq (s : State) : Nat :=
  (if s.scv.anchorValid then 0 else 1) + (if s.scv.drifting then 2 else 0) + (if s.isSet Reg.DEV_STATUS.TIME_DEGRADED 0 then 4 else 0) +
    (if s.scv.stale then 8 else 0)

/-- SCV_STATUS.TQ follows the time quality; a change sets SCV_EVENT.TQ_CHANGE (06, R247, R261). -/
def State.refreshTq (s : State) : State :=
  if s.rd Reg.SCV_STATUS.TQ 0 = s.tq then s else (s.wr Reg.SCV_STATUS.TQ 0 s.tq).event Ev.SCV_TQ_CHANGE

/-- CHECKPOINT_TIME_TRIGGER (06, R231, R258): CKT ms have passed since the ledger's last checkpoint with a record chained since; none while
LOCKED. -/
def execCheckpointTimeTrigger (l : BitVec 16) (s : State) : Res :=
  .next <|
    let x := s.ledger l.toNat
    if (x.st = .bound ∨ x.st = .unbound ∨ x.st = .closing) ∧ 0 < x.chainedSince ∧ x.ckt * 32768 ≤ (s.ticks - x.ckTicks) * 1000 ∧
        s.lifecycle ≠ 3 then
      s.callCkpt l.toNat (x.unchained - 1) 2 x.chain
    else s

/-- The entry of a checkpoint formed now (06, R233). -/
def State.newEntry (s : State) (c : CkCall) : CkEntry :=
  { tq := s.tq, ledger := c.ledger, tenant := (s.ledger c.ledger).tenant, cause := c.cause, seq := c.seq, ticks := s.ticks,
    anchor := s.rd Reg.SCV_ANCHOR_ID.ID 0, setepoch := s.epoch, archEpoch := s.rd Reg.DEV_ARCHIVE_EPOCH.EPOCH 0, rootSeq := s.key.root.seq,
    chain := c.chain, cfgDigest := s.cfgDigest, xroot := s.key.tree }

/-- The 192 bytes of an entry (06, R233). -/
def entryBytes (e : CkEntry) : List Nat :=
  [1, e.tq] ++ leBytes e.ledger 2 ++ [e.tenant, e.cause, 0, 0] ++ leBytes e.seq 8 ++ leBytes e.ticks 8 ++ leBytes e.anchor 4 ++
    leBytes e.setepoch 4 ++ leBytes e.archEpoch 4 ++ leBytes e.rootSeq 4 ++ leBytes e.chain 48 ++ leBytes e.cfgDigest 48 ++
    leBytes e.xroot 48 ++ leBytes 0 8

/-- A hash as it stands in 48 bytes. -/
def hash (l : List Nat) : Nat := Config.sha384 l % 2 ^ 384

/-- The hash of a leaf (06, R235; log entry 4). -/
def leafHash (e : CkEntry) : Nat := hash (0 :: entryBytes e)

/-- The root of a tree of empty positions of depth `d` (06, R235). -/
def emptyRoot : Nat → Nat
  | 0 => 0
  | d + 1 => hash (1 :: leBytes (emptyRoot d) 48 ++ leBytes (emptyRoot d) 48)

/-- The Merkle root of depth `d` over leaf hashes in order, the rest empty (06, R235). -/
def merkle : Nat → List Nat → Nat
  | 0, l => l.headD 0
  | d + 1, l =>
    if l = [] then emptyRoot (d + 1)
    else hash (1 :: leBytes (merkle d (l.take (2 ^ d))) 48 ++ leBytes (merkle d (l.drop (2 ^ d))) 48)

/-- The sibling hashes of position `i`, level 0 first (06, R240). -/
def siblings : Nat → List Nat → Nat → List Nat
  | 0, _, _ => []
  | d + 1, l, i =>
    if i < 2 ^ d then siblings d (l.take (2 ^ d)) i ++ [merkle d (l.drop (2 ^ d))]
    else siblings d (l.drop (2 ^ d)) (i - 2 ^ d) ++ [merkle d (l.take (2 ^ d))]

/-- The 160-byte batch header (06, R236). -/
def batchHeader (b : Batch) : List Nat :=
  [0x43, 0x58, 0x42, 0x48, 1, 3] ++ leBytes b.entries.length 2 ++ leBytes b.number 8 ++ leBytes Config.serial 8 ++ leBytes b.ticks 8 ++
    leBytes b.anchor 4 ++ leBytes b.archEpoch 4 ++ leBytes b.root 48 ++ leBytes b.prev 48 ++ [b.tq] ++ List.replicate 23 0

/-- Some PKE unit is in service. -/
def State.pkeInService (s : State) : Bool := s.rd Reg.PKE_STATUS.INSERVICE 0 ≠ 0

/-- Start one queued job on the unit `u`, if it is free and in service: batch signatures first, then Keeper jobs, then KCALL jobs; at most one
unit runs jobs that are no batch signatures (06, R251). -/
def State.startJobOn (s : State) (u : Nat) : State :=
  if !s.rdBit Reg.PKE_STATUS.INSERVICE 0 u || (Tab.find u s.scv.unit).isSome then s
  else
    let other := s.scv.unit.any fun x => x.2.cls ≠ 1
    let ready (c : Nat) : Option PkeJob := if c ≠ 1 && other then none else s.scv.jobs.find? fun j => j.cls = c
    match ready 1 <|> ready 2 <|> ready 3 with
    | none => s
    | some j =>
      let s := { s with scv.jobs := s.scv.jobs.erase j, scv.unit := Tab.put u j s.scv.unit }
      let s := (s.wrBit Reg.PKE_STATUS.BUSY 0 u true).wr Reg.PKE_UNIT_OP.CLASS u j.cls
      (s.wr Reg.PKE_UNIT_OP.OP u j.op).wr Reg.PKE_UNIT_OP.NTTOP u j.nttop

/-- Start queued jobs on free units. -/
def State.startJobs (s : State) : State := (List.range 4).foldl State.startJobOn s

/-- Queue a job (06, R251). -/
def State.queueJob (s : State) (j : PkeJob) : State := { s with scv.jobs := s.scv.jobs ++ [j] }.startJobs

/-- A unit ends its job and is wiped (06, R252). -/
def State.freeUnit (s : State) (u : Nat) : State :=
  let s := { s with scv.unit := Tab.del u s.scv.unit }
  let s := (s.wrBit Reg.PKE_STATUS.BUSY 0 u false).wr Reg.PKE_UNIT_OP.CLASS u 0
  (s.wr Reg.PKE_UNIT_OP.OP u 0).wr Reg.PKE_UNIT_OP.NTTOP u 0

/-- Close the open batch (06, R234–R236): never empty; the next number, the root, the header, and its signing job; the hold-off starts. -/
def State.closeBatch (s : State) : State :=
  if s.scv.entries = [] then s
  else
    let n := s.scv.lastBatch + 1
    let root := merkle 12 (s.scv.entries.map leafHash)
    let prev := match s.scv.batches.getLast? with | some b => b.header | none => 0
    let b : Batch := ⟨n, s.scv.entries, root, 0, prev, s.ticks, s.tq, s.rd Reg.SCV_ANCHOR_ID.ID 0,
      s.rd Reg.DEV_ARCHIVE_EPOCH.EPOCH 0, none, false⟩
    let h := hash (batchHeader b)
    let s := { s with scv.batches := s.scv.batches ++ [{ b with header := h }], scv.entries := [], scv.lastBatch := n, scv.holdoff := true,
                      scv.due := false }
    let s := if s.pkeInService then s else s.wr Reg.SCV_STATUS.UNSIGNED 0 1
    s.queueJob ⟨1, 0x01, 0x10, .batch n⟩

/-- The batch closes now, or when the hold-off ends. -/
def State.closeWhenAllowed (s : State) : State :=
  if s.scv.holdoff then { s with scv.due := decide (s.scv.entries ++ s.scv.outside ≠ []) } else s.closeBatch

/-- Form a checkpoint (06, R232, R234): its entry goes into the open batch, or waits outside it during the hold-off; a full batch closes. A
second checkpoint at one record is not formed. -/
def State.formCkpt (s : State) (c : CkCall) : State :=
  let s := { s with scv.calls := s.scv.calls.erase c }
  if s.ckptFormed c.ledger c.seq then s
  else
    let e := s.newEntry c
    let s := s.setLedger c.ledger { s.ledger c.ledger with lastCkpt := c.seq, hasCkpt := true }
    let s := s.addWrap Reg.SCV_CKPT_COUNT.COUNT 0 1
    if s.scv.holdoff then { s with scv.outside := s.scv.outside ++ [e] }
    else
      let s := { s with scv.entries := s.scv.entries ++ [e] }
      if 4096 ≤ s.scv.entries.length then s.closeBatch else s

/-- CHECKPOINT_FORM (06, R232): the first checkpoint called for in a ledger, once its record and every earlier one are durable. -/
def execCheckpointForm (l : BitVec 16) (s : State) : Res :=
  .next <|
    match s.scv.calls.find? fun c => c.ledger = l.toNat with
    | none => s
    | some c => if s.durableTo c.ledger c.seq then (s.formCkpt c).resolve else s

/-- BATCH_INTERVAL_EXPIRE (06, R234). -/
def execBatchIntervalExpire (s : State) : Res := .next s.closeWhenAllowed

/-- BATCH_HOLDOFF_END (06, R234): the entries that waited outside enter the open batch; a batch that is due or full closes. -/
def execBatchHoldoffEnd (s : State) : Res :=
  .next <|
    let all := s.scv.entries ++ s.scv.outside
    let s := { s with scv.holdoff := false, scv.entries := all.take 4096, scv.outside := all.drop 4096 }
    if s.scv.due || decide (4096 ≤ s.scv.entries.length) then s.closeBatch else s

/-! ### Proofs (06, R240, R241) -/

/-- A list of bytes, `len` of them: cut or filled with 0. -/
def padTo (len : Nat) (l : List Nat) : List Nat := (l ++ List.replicate len 0).take len

/-- The 4,352 bytes of a proof of position `i` of a signed batch (06, R240; the signatures log entry 4). -/
def proofBytes (b : Batch) (i : Nat) (e : CkEntry) : List Nat :=
  let sig := b.signed.getD 0
  let hdr := batchHeader b
  [0x43, 0x58, 0x50, 0x46, 1, 12] ++ leBytes i 2 ++ leBytes 0 8 ++ hdr ++ entryBytes e ++
    (siblings 12 (b.entries.map leafHash) i).flatMap (fun h => leBytes h 48) ++ leBytes (Config.sign sig [1]) 96 ++
    padTo 3309 (leBytes (Config.sign sig [2]) 3309) ++ [0, 0, 0]

/-- The position of a ledger's checkpoint in a signed batch. -/
def State.signedPlace (s : State) (l n : Nat) : Option (Batch × Nat × CkEntry) :=
  s.scv.batches.findSome? fun b =>
    if b.signed.isNone then none
    else match b.entries.findIdx? fun e => e.ledger = l && e.seq = n && !e.dead with
      | some i => (b.entries[i]?).map fun e => (b, i, e)
      | none => none

/-- Write the proof of a waiting GET_PROOF whose batch is signed, and complete it. -/
def State.giveProof (s : State) (w : ProofWait) : State :=
  match s.signedPlace w.ledger w.seq with
  | some (b, i, e) => (s.hostScatter w.fn w.sg (proofBytes b i e)).complete w.fn w.q w.cid Status.SUCCESS w.seq 4352
  | none => s

/-- Every waiting GET_PROOF whose batch is signed ends, once its function may write (02, R47). -/
def State.giveProofs (s : State) : State :=
  let ready (w : ProofWait) : Bool := (s.signedPlace w.ledger w.seq).isSome && s.fnLive w.fn
  (s.scv.proofs.filter ready).foldl State.giveProof { s with scv.proofs := s.scv.proofs.filter fun w => !ready w }

/-- Every checkpoint of a ledger that the device holds, as far as formed (06, R238). -/
def State.ckptsOf (s : State) (l : Nat) : List CkEntry :=
  (s.scv.batches.flatMap (·.entries) ++ s.scv.entries ++ s.scv.outside).filter fun e => e.ledger = l && !e.dead

/-- The checkpoint that SEQ and SEL select (03, R113): at SEQ, the first at or after it, the last at or before it. -/
def State.selectCkpt (s : State) (l seq sel : Nat) : Option CkEntry :=
  let c := (s.ckptsOf l).filter fun e => if sel = 0 then e.seq = seq else if sel = 1 then seq ≤ e.seq else e.seq ≤ seq
  c.foldl (fun b e => match b with
    | none => some e
    | some x => if (sel = 2 && x.seq < e.seq) || (sel ≠ 2 && e.seq < x.seq) then some e else b) none

/-- GET_PROOF (06, R240, R241): the proof waits for the batch to be signed. `unreadable`: no copy of the needed block can be read. -/
def execGetProof (f : Fn) (q : Q) (unreadable : Bool) (s : State) : Res :=
  .next <| s.hostCmd f.val q.val 7 fun x s =>
    let l := x.e.ledger.toNat
    let seq := x.e.bytes 32 8
    match s.ioChecks f.val q.val x true false false with
    | some st => s.fail f.val q.val x st
    | none =>
      if !onlyBytes x.e [(32, 8)] then s.fail f.val q.val x Status.FIELD_INVALID
      else if (s.ledger l).unchained ≤ seq then s.fail f.val q.val x Status.RECORD_ABSENT
      else match s.selectCkpt l seq 1 with
        | none => s.fail f.val q.val x Status.PROOF_UNAVAILABLE
        | some e =>
          if x.e.length.toNat < 4352 then s.complete f.val q.val x.e.cid.toNat Status.BUFFER_SHORT 0 4352
          else if unreadable then s.fail f.val q.val x Status.MEDIA_UNRECOVERED
          else { s with scv.proofs := s.scv.proofs ++ [(⟨f.val, q.val, x.e.cid.toNat, x.sg, l, e.seq⟩ : ProofWait)] }.giveProofs

/-- READ_CHECKPOINT (06, R241): an entry as soon as it is formed, signed or not. -/
def execReadCheckpoint (f : Fn) (q : Q) (unreadable : Bool) (s : State) : Res :=
  .next <| s.hostCmd f.val q.val 0x0B fun x s =>
    let l := x.e.ledger.toNat
    let seq := x.e.bytes 32 8
    match s.ioChecks f.val q.val x true false false with
    | some st => s.fail f.val q.val x st
    | none =>
      if !onlyBytes x.e [(32, 9)] ∨ 2 < x.e.bytes 40 1 then s.fail f.val q.val x Status.FIELD_INVALID
      else if (s.ledger l).unchained ≤ seq then s.fail f.val q.val x Status.RECORD_ABSENT
      else match s.selectCkpt l seq (x.e.bytes 40 1) with
        | none => s.fail f.val q.val x Status.PROOF_UNAVAILABLE
        | some e =>
          if x.e.length.toNat < 192 then s.complete f.val q.val x.e.cid.toNat Status.BUFFER_SHORT 0 192
          else if unreadable then s.fail f.val q.val x Status.MEDIA_UNRECOVERED
          else (s.hostScatter f.val x.sg (entryBytes e)).complete f.val q.val x.e.cid.toNat Status.SUCCESS e.seq 192

/-! ### Signing -/

/-- Mark a batch signed by the device's identity keys (06, R237; log entry 4): SCV registers and event, and all that waited for it. -/
def State.signBatch (s : State) (n us : Nat) : State :=
  match s.scv.batches.find? fun b => b.number = n with
  | none => s
  | some b =>
    let d := s.random 0
    let sig := Config.sign s.key.identity [b.header, d.1]
    let s := { d.2 with scv.batches := d.2.scv.batches.map fun (x : Batch) => if x.number = n then { x with signed := some sig } else x }
    let s := (s.wr Reg.SCV_BATCH_SEQ.BATCH 0 n).wr Reg.SCV_BATCH_LAT.US 0 (max us (s.rd Reg.SCV_BATCH_LAT.US 0))
    let s := (List.range 12).foldl (fun t i => t.wr Reg.SCV_BATCH_ROOT.ROOT i (b.root / 2 ^ (32 * i))) s
    let s := s.wr Reg.SCV_STATUS.UNSIGNED 0 0
    ((s.event Ev.SCV_BATCH).giveProofs).resolve

/-- ML-DSA attempts of a unit's signature; a signature of more than 48 was restarted (06, R249). -/
def State.attempts (s : State) (u n : Nat) : State :=
  let s := (s.wr Reg.PKE_MLDSA_ATT.LAST u n).wr Reg.PKE_MLDSA_ATT.MAX u (max n (s.rd Reg.PKE_MLDSA_ATT.MAX u))
  if 48 < n then (s.addSat Reg.PKE_MLDSA_LONG.COUNT 0 1).event Ev.PKE_LONG else s

/-- BATCH_SIGNED (06, R237, R239): unit `u` has made and verified both signatures of its batch header, with so many ML-DSA attempts, `us`
microseconds after the close. -/
def execBatchSigned (u : Fin 4) (attempts : BitVec 16) (us : BitVec 32) (s : State) : Res :=
  .next <|
    match Tab.find u.val s.scv.unit with
    | some j =>
      match j.who with
      | .batch n => ((((s.freeUnit u.val).addWrap Reg.PKE_UNIT_JOBS.COUNT u.val 1).attempts u.val attempts.toNat).signBatch n us.toNat).startJobs
      | _ => s
    | none => s

/-- BATCH_BLOCK_STORED (06, R238): the first signed batch not yet stored is stored. -/
def execBatchBlockStored (s : State) : Res :=
  .next <|
    match s.scv.batches.find? fun b => !b.stored with
    | some b => if b.signed.isNone then s
        else { s with scv.batches := s.scv.batches.map fun (x : Batch) => if x.number = b.number then { x with stored := true } else x }
    | none => s

/-! ### Time anchors (06, R245–R247) -/

/-- SET_TIME_ANCHOR_NONCE (06, R245). -/
def execSetTimeAnchorNonce (f : Fn) (q : Q) (s : State) : Res :=
  .next <| s.subCmd f.val q.val 0x85 1 2 (fun _ => none) fun x s =>
    if !onlyBytes x.e [(32, 1)] ∨ x.e.length.toNat ≠ 16 ∨ x.e.sgcount.toNat ≠ 1 then s.fail f.val q.val x Status.FIELD_INVALID
    else
      let d := s.random 0
      let nonce := d.1 % 2 ^ 128
      let s := { d.2 with scv.nonce := some (nonce, d.2.ticks) }
      (s.hostScatter f.val x.sg (leBytes nonce 16)).complete f.val q.val x.e.cid.toNat Status.SUCCESS s.ticks 0

/-- UTC in milliseconds at some ticks (06, R247). -/
def State.utc (s : State) (t : Nat) : Int :=
  (s.rd Reg.SCV_ANCHOR_UTC.MS 0 : Int) + ((t : Int) - (s.rd Reg.SCV_ANCHOR_TICKS.TICKS 0 : Int)) * 1000 / 32768

/-- The first reason of R246 that refuses a token. -/
def State.anchorReason (s : State) (token : Token) : Option Nat :=
  match s.scv.nonce with
  | none => some 1
  | some (_, t0) =>
    if s.setting 0x3004 * 32768 < s.ticks - t0 ∨ s.rd Reg.SCV_ANCHOR_ID.ID 0 = 0xFFFFFFFF then some 1
    else match token with
      | .malformed => some 2
      | .badImprint => some 3
      | .badSignature => some 4
      | .good g a =>
        let unc := (s.ticks - t0) * 1000 / 65536 + a
        if s.scv.anchorValid ∧ (g : Int) + unc + s.scv.uncert < s.utc t0 then some 5 else none

/-- Set the anchor (06, R246, R247), with the drift against the previous one where that is of the same archive epoch and at least 24 h old. -/
def State.setAnchor (s : State) (t0 utc acc : Nat) : State :=
  let at_ := (t0 + s.ticks) / 2
  let unc := (s.ticks - t0) * 1000 / 65536 + acc
  let epoch := s.rd Reg.DEV_ARCHIVE_EPOCH.EPOCH 0
  let ticks : Int := (at_ : Int) - s.rd Reg.SCV_ANCHOR_TICKS.TICKS 0
  let dT : Int := ((at_ : Int) - s.rd Reg.SCV_ANCHOR_TICKS.TICKS 0) * 1000 / 32768
  let dU : Int := (utc : Int) - s.rd Reg.SCV_ANCHOR_UTC.MS 0
  let measured := s.scv.anchorValid && s.scv.anchorEpoch = epoch && decide (86400000 ≤ dU)
  let exceeds := decide (dU * 32768 < (ticks * 1000 - dU * 32768).natAbs * 10000)
  let drift : Int := if dU = 0 then 0 else (dT - dU) * 100000000 / dU
  let s := if measured then
      { s.wr Reg.SCV_DRIFT.DRIFT 0 (drift % 2 ^ 32).toNat with scv.drifting := exceeds }
    else s
  let s := { s with scv.nonce := none, scv.anchorValid := true, scv.anchorEpoch := epoch, scv.uncert := unc, scv.stale := false }
  let s := (s.addWrap Reg.SCV_ANCHOR_ID.ID 0 1).wr Reg.SCV_ANCHOR_TICKS.TICKS 0 at_
  ((s.wr Reg.SCV_ANCHOR_UTC.MS 0 utc).event Ev.SCV_ANCHOR).refreshTq

/-- SET_TIME_ANCHOR_SUBMIT (06, R245, R246; 20, R634). -/
def execSetTimeAnchorSubmit (f : Fn) (q : Q) (token : Token) (s : State) : Res :=
  .next <| s.subCmd f.val q.val 0x85 2 2 (fun _ => none) fun x s =>
    if !onlyBytes x.e [(32, 1)] ∨ x.e.length.toNat = 0 then s.fail f.val q.val x Status.FIELD_INVALID
    else match s.anchorReason token, s.scv.nonce, token with
      | some r, _, _ => s.complete f.val q.val x.e.cid.toNat Status.ANCHOR_INVALID 0 r
      | none, some (_, t0), .good g a =>
        let s := s.setAnchor t0 g a
        s.complete f.val q.val x.e.cid.toNat Status.SUCCESS (s.rd Reg.SCV_ANCHOR_ID.ID 0) s.scv.uncert
      | none, _, _ => s

/-- ANCHOR_STALE (06, R247): the anchor is older than setting 0x3005. -/
def execAnchorStale (s : State) : Res :=
  .next <| if s.scv.anchorValid ∧ s.setting 0x3005 * 86400 * 32768 < s.ticks - s.rd Reg.SCV_ANCHOR_TICKS.TICKS 0 then { s with scv.stale := true }.refreshTq else s

/-! ### Attestation (06, R257) -/

/-- The 512-byte attestation report; `kdigest`, `pdigest` of the firmware in use. -/
def State.report (s : State) (nonce kdigest pdigest tampers : Nat) : List Nat :=
  let n := s.rd Reg.SCV_BATCH_SEQ.BATCH 0
  let root := match s.scv.batches.find? fun b => b.number = n with | some b => b.root | none => 0
  padTo 512 ([0x43, 0x58, 0x41, 0x54, 1, s.lifecycle, s.tq, 0] ++ leBytes Config.serial 8 ++ leBytes nonce 32 ++ leBytes s.ticks 8 ++
    leBytes (s.rd Reg.SCV_ANCHOR_ID.ID 0) 4 ++ leBytes (s.rd Reg.DEV_ID.DEVICE 0 * 65536 + s.rd Reg.DEV_ID.REV 0 * 256 + s.rd Reg.DEV_ID.VARIANT 0) 4 ++
    leBytes s.epoch 4 ++ leBytes (s.rd Reg.DEV_ARCHIVE_EPOCH.EPOCH 0) 4 ++ leBytes (s.rd Reg.PKE_STATUS.MCVER 0) 4 ++ leBytes tampers 4 ++
    leBytes s.cfgDigest 48 ++ leBytes kdigest 48 ++ leBytes pdigest 48 ++ leBytes n 8 ++ leBytes root 48)

/-- The certificates that fit in `room` bytes, each with its 4-byte length: how many, and the bytes. -/
def certBytes : List (List Nat) → Nat → Nat × List Nat
  | [], _ => (0, [])
  | c :: r, room =>
    if room < 4 + c.length then (0, [])
    else let x := certBytes r (room - 4 - c.length); (x.1 + 1, leBytes c.length 4 ++ c ++ x.2)

/-- A signed attestation is written and its command completed (06, R257; log entry 4). -/
def State.giveAttest (s : State) (f q cid : Nat) (report : List Nat) (sg : List (Nat × Nat)) (len : Nat) : State :=
  if !s.fnOpen f then s
  else
  let d := s.random 0
  let sig := Config.sign d.2.key.identity (d.1 :: report)
  let c := certBytes d.2.scv.certs (len - 3920)
  let out := report ++ leBytes (Config.sign sig [1]) 96 ++ leBytes (Config.sign sig [2]) 3309 ++ [0, 0, 0] ++ c.2
  (d.2.hostScatter f sg out).complete f q cid Status.SUCCESS c.1 out.length

end Sys2Proof.Machine
end

