-- ==== Sys2Proof/Machine/Tamper.lean ====
section
/-!
DEFINITION. Machine/Tamper.lean: Watchman (16): samples, alarms, responses, the lock sequence, the tamper logs, quorum sessions and UNLOCK.
-/

namespace Sys2Proof.Machine

/-! ### The tamper logs (16, R560–R562) -/

/-- Log an event in BBRAM (16, R561): 80 entries are kept; one overwritten before its copy is counted. -/
def State.tmpLog (s : State) (source ev actions det detail : Nat) : State :=
  let e : TmpEntry := ⟨s.ticks, source, ev, actions, det, s.powerCode + 8 * s.lifecycle, s.rd Reg.AON_SUPPLY.VAON 0,
    s.rd Reg.AON_SUPPLY.VBAT 0, s.rd Reg.TMP_TEMP.A 0, s.tmp.evseq, detail⟩
  let l := s.tmp.bbram ++ [e]
  let s := if 80 ≤ s.tmp.uncopied then s.addSat Reg.TMP_LOG_HEAD.LOST 0 1 else s
  let s := s.wr Reg.TMP_LOG_HEAD.NEXT 0 ((s.rd Reg.TMP_LOG_HEAD.NEXT 0 + 1) % 80)
  { s with tmp.bbram := l.drop (l.length - 80), tmp.uncopied := min 80 (s.tmp.uncopied + 1), tmp.evseq := (s.tmp.evseq + 1) % 2 ^ 32 }

/-- The Keeper copies the new BBRAM entries to log 0x71 and counts the events 1 and 3 (16, R562). -/
def State.copyTamperLog (s : State) : State :=
  let new := s.tmp.bbram.drop (s.tmp.bbram.length - s.tmp.uncopied)
  let l := s.tmp.log71 ++ new
  { s.addWrap Reg.TMP_COUNT.COUNT 0 (new.filter fun (e : TmpEntry) => e.event = 1 || e.event = 3).length with
      tmp.log71 := l.drop (l.length - 1024), tmp.uncopied := 0 }

/-- TAMPER_LOG_COPY (16, R562): in ACTIVE and READY. -/
def execTamperLogCopy (s : State) : Res := .next <| if s.mainOn then s.copyTamperLog else s

/-! ### Quorum sessions (16, R556) -/

/-- TMP_STATUS.SESSION: 0 IDLE, 1 GATHERING, 2 OPEN. -/
def State.session (s : State) : Nat := s.rd Reg.TMP_STATUS.SESSION 0

/-- The DETAIL of events 6 to 10: cards counted, ACTION, tenant. -/
def State.sessionDetail (s : State) (action tenant : Nat) : Nat := s.tmp.cards + 256 * action + 65536 * tenant

/-- The session changes state (16, R556): logged, and TMP_EVENT.SESSION set. -/
def State.setSession (s : State) (v ev : Nat) : State :=
  ((s.wr Reg.TMP_STATUS.SESSION 0 v).tmpLog 0xFF ev 0 0 (s.sessionDetail 0 0)).event Ev.TMP_SESSION

/-- The session ends, if one is held (16, R556); a card exchange that it asked for is cut (17, R569). -/
def State.endSession (s : State) : State :=
  if s.session = 0 then s
  else
    let s := match s.crd.ex with | some x => if x.purpose = 1 then s.cardCut else s | none => s
    ({ (s.setSession 0 9).wr Reg.TMP_STATUS.COUNTED 0 0 with tmp.cards := 0, tmp.sFails := 0, tmp.acts := 0 })

/-- A registered card of the set authenticates (16, R556; 17): counted once in a session; the k-th opens it. -/
def State.countCard (s : State) (c : Nat) : State :=
  if s.session = 0 || s.tmp.cards.testBit c then s
  else
    let s := ({ s with tmp.cards := s.tmp.cards ||| 2 ^ c }).addSat Reg.TMP_STATUS.COUNTED 0 1
    if s.session = 1 && s.crd.sessK ≤ s.rd Reg.TMP_STATUS.COUNTED 0 then s.setSession 2 7 else s

/-- A card fails to authenticate in a session; the fifth failure ends it (16, R556). -/
def State.failCard (s : State) : State :=
  if s.session = 0 then s
  else
    let s : State := { s with tmp.sFails := s.tmp.sFails + 1 }
    if 5 ≤ s.tmp.sFails then s.endSession else s

/-- AON ticks that a session may last (setting 0x7004). -/
def State.sessionLimit (s : State) : Nat := s.setting 0x7004 * 60 * 32768

/-- QUORUM_SESSION_TIMEOUT (16, R556). -/
def execQuorumSessionTimeout (s : State) : Res :=
  .next <| if s.session ≠ 0 ∧ s.sessionLimit ≤ s.ticks - s.tmp.opened then s.endSession else s

/-! ### The lock sequence (16, R554, R555; 01, R37; 06, R252, R258) -/

/-- A PKE job that a LOCK abandons (06, R252): its submitter is told; a batch signature is run again on the next start. -/
def State.abandonJob (s : State) (status : Nat) (j : PkeJob) : State :=
  match j.who with
  | .kcall c k => s.kcallEnd c k status [0, 0, 0, 0]
  | .attest f q cid _ _ _ => s.complete f q cid status 0 0
  | _ => s

/-- Every job that runs on a unit is abandoned, and the unit wiped (06, R252). -/
def State.abandonJobs (s : State) (status : Nat) : State :=
  s.scv.unit.foldl (fun t x => (t.freeUnit x.1).abandonJob status x.2) s

/-- Exclusive admin commands not yet completed end with ABORTED_BY_TAMPER (16, R554; 03, R128); KCALLs that wait go on waiting. -/
def State.abortExclusive (s : State) : State :=
  let rel := s.key.jwait.map (·.2) ++ s.key.jwaitNow
  let s := rel.foldl (fun t w => match w with
    | .release f q cid _ => t.complete f q cid Status.ABORTED_BY_TAMPER 0 0
    | _ => t) s
  let keep (w : JWait) : Bool := match w with | .release _ _ _ _ => false | _ => true
  let s : State := { s with key.jwait := s.key.jwait.filter fun w => keep w.2, key.jwaitNow := s.key.jwaitNow.filter keep }
  let s := s.set.waiting.foldl (fun t w => match w.who with
    | .admin f q cid => t.complete f q cid Status.ABORTED_BY_TAMPER 0 0
    | _ => t) s
  let left := s.set.waiting.filter fun w => match w.who with | .admin _ _ _ => false | _ => true
  { s with set.waiting := left, set.excl := left ≠ [] }

/-- Steps 4 to 7 of the lock sequence (16, R554): LOCKED; entries fetched and not dispatched end; records whose tag is not released become void and
CLOSING ledgers are cut short (03, R107); items and jobs in progress end; the session and the assay run end; the LOCKED windows are committed; the open batch closes; the
boot-record flag and log 0x71 are written. -/
def State.lockSequence (s : State) : State :=
  let s := (s.wr Reg.DEV_STATUS.LIFECYCLE 0 3).fnEventAll Reg.FN_EVENT.LOCK 6
  let s := s.functions.foldl (fun t f => (List.range 64).foldl (fun u q =>
    if (u.qrt f q).fetched = [] || (isPf f && q = 0) then u else u.abortFetched f q Status.ABORTED_BY_TAMPER) t) s
  let s := s.clearLaneKeys 5
  let s := (Tab.keys s.led.recs).foldl (fun t k => t.voidRecord (keyLedger k) (keySeq k) 5 true) s
  let s := (Tab.keys s.led.tab).foldl State.cutClose s
  let s := (Tab.keys s.lane.items).foldl (fun t i => match t.item? i with
    | some x => if x.phase = .leaving ∨ x.phase = .zeroing then t else t.abandonItem i true
    | none => t) s
  let s := (s.abortExclusive.abandonJobs Status.ABORTED_BY_TAMPER).cardTamper
  let s := (s.endRun 4).endSession
  let s := s.keeperWindows true
  let s := ({ s with cfg.record.lock := true }).closeWhenAllowed
  s.copyTamperLog.resolve

/-! ### Responses (16, R551–R553) -/

/-- The action set of a source in force: bit 0 LOG, 1 ALERT, 2 LOCK, 3 ERASE_CACHE, 4 ERASE_KEK. -/
def State.actionSet (s : State) (src : Nat) : Nat := s.setting (0x7100 + src)

/-- Apply an action set (16, R552, R553) after its log entries: the erasures of the power state, then LOCK in DEPLOYED only. ALERT# follows
TMP_LATCHED. -/
def State.applyActions (s : State) (acts : Nat) : State :=
  if acts.testBit 2 && s.lifecycle = 2 then
    let s := (s.wr Reg.TMP_STATUS.LOCK_FLAG 0 1).event Ev.TMP_LOCK
    if s.mainOn then s.lockSequence
    else if s.aon.watch then s
    else ({ s with tmp.lockDue := true }).startWake 0
  else s

/-- The erasures of a response (16, R553): ERASE_CACHE where something is held; ERASE_KEK outside BLANK and PROVISIONED, in WATCH of S alone. -/
def State.applyErase (s : State) (acts : Nat) : State :=
  let s := if acts.testBit 3 && s.mainOn then s.eraseCache else s
  if acts.testBit 4 && 2 ≤ s.lifecycle && (s.key.secretS ≠ 0 || s.key.kek ≠ 0) then
    if s.aon.watch then { s with key.secretS := 0 } else s.eraseKek
  else s

/-- An alarm of a source without a lasting condition clears once its actions are applied (16, R546): sources 17 to 19. -/
def State.clearAlarm (s : State) (src : Nat) : State :=
  ({ s.wrBit Reg.TMP_ALARM.ALARM 0 src false with tmp.fails := Tab.del src s.tmp.fails, tmp.clean := Tab.del src s.tmp.clean }).tmpLog src 4 0 0 0

/-- A response (16, R552): alarms confirmed together (source, detectors, detail), in order of source number; the union of their sets is applied
and logged. `ev` is 1 for an alarm, 3 for a failed stimulus test. -/
def State.respond (s : State) (ev : Nat) (hits : List (Nat × Nat × Nat)) : State :=
  if hits = [] then s
  else
    let acts := hits.foldl (fun a h => a ||| s.actionSet h.1) 0
    let s := hits.foldl (fun t h =>
      let t := t.wrBit Reg.TMP_LATCHED.LATCHED 0 h.1 true
      if ev = 1 then t.wrBit Reg.TMP_ALARM.ALARM 0 h.1 true else t.wrBit Reg.TMP_TESTFAIL.SRC 0 h.1 true) s
    let s := s.event (if ev = 1 then Ev.TMP_ALARM else Ev.TMP_TESTFAIL)
    let s := s.applyErase acts
    let s := hits.foldl (fun t h => t.tmpLog h.1 ev acts h.2.1 h.2.2) s
    let s := s.applyActions acts
    if ev = 1 then (hits.filter fun h => 17 ≤ h.1 && h.1 ≤ 19).foldl (fun t h => t.clearAlarm h.1) s else s

/-- A source is watched in the present power state (16, R543). -/
def State.watched (s : State) (src : Nat) : Bool :=
  if src = 15 ∨ src = 17 ∨ src = 19 then s.mainOn
  else if src = 18 then !s.aon.watch
  else true

/-- An alarm confirmed at once (16, R546), unless the source is in alarm already or not watched. -/
def State.tamper (s : State) (src det : Nat) : State :=
  if s.rdBit Reg.TMP_ALARM.ALARM 0 src || !s.watched src then s else s.respond 1 [(src, det, 0)]

/-! ### Samples and tests (16, R544–R550) -/

/-- Input sources can be disabled by setting 0x7002 (16, R544). -/
def State.inputOn (s : State) (src : Nat) : Bool := 8 ≤ src || (s.setting 0x7002).testBit src

/-- One bit of a loop generator, x³¹ + x²⁸ + 1 (16, R547): the bit driven and the next state. -/
def genBit (g : Nat) : Nat × Nat :=
  let b := g / 2 ^ 30 % 2
  (b, (g * 2 + (b + g / 2 ^ 27) % 2) % 2 ^ 31)

/-- The next eight bits of a generator, the first in bit 0, and its state after them (16, R547). -/
def genByte : Nat → Nat → Nat × Nat
  | 0, g => (0, g)
  | n + 1, g =>
    let x := genBit g
    let r := genByte n x.2
    (x.1 + 2 * r.1, r.2)

/-- The byte received on loop `l`. -/
def loopByte (x : Sample) (l : Nat) : Nat :=
  if l = 0 then x.loop0.toNat else if l = 1 then x.loop1.toNat else if l = 2 then x.loop2.toNat else x.loop3.toNat

/-- A setting in two's complement, as an integer. -/
def signed64 (v : Nat) : Int := if 2 ^ 63 ≤ v then (v : Int) - 2 ^ 64 else v

/-- The condition of a source holds at a sample (16, R543, R545, R547). -/
def State.condition (s : State) (x : Sample) (src : Nat) : Bool :=
  if src < 4 then x.switches.getLsbD src
  else if src < 8 then loopByte x (src - 4) ≠ (genByte 8 (s.tmp.gens.getD (src - 4) 0)).1
  else if src = 10 then x.tempA.toInt < signed64 (s.setting 0x7010) * 10 || x.tempB.toInt < signed64 (s.setting 0x7010) * 10
  else if src = 11 then x.tempA.toInt > signed64 (s.setting 0x7011) * 10 || x.tempB.toInt > signed64 (s.setting 0x7011) * 10
  else if src = 13 then x.mesh ≠ 0
  else if src = 16 then x.light ≠ 0
  else if 17 ≤ src then false
  else x.detA.getLsbD src || x.detB.getLsbD src

/-- Detectors A and B of a source at a sample, as bits 0 and 1 (16, R561). -/
def State.sampleDet (s : State) (x : Sample) (src : Nat) : Nat :=
  let two (a b : Bool) : Nat := (if a then 1 else 0) + (if b then 2 else 0)
  if src = 10 then two (x.tempA.toInt < signed64 (s.setting 0x7010) * 10) (x.tempB.toInt < signed64 (s.setting 0x7010) * 10)
  else if src = 11 then two (x.tempA.toInt > signed64 (s.setting 0x7011) * 10) (x.tempB.toInt > signed64 (s.setting 0x7011) * 10)
  else if src = 8 ∨ src = 9 ∨ src = 12 ∨ src = 14 ∨ src = 15 then two (x.detA.getLsbD src) (x.detB.getLsbD src)
  else 0

/-- A source is confirmed by samples in the present power state: the continuous ones in WATCH only (16, R545). -/
def State.sampled (s : State) (src : Nat) : Bool :=
  s.inputOn src && s.watched src && (src < 8 || src = 10 || src = 11 || src = 13 || src = 16 || (s.aon.watch && src < 17))

/-- One source at a sample (16, R546): failing and clean samples are counted; a clean source in alarm clears at the second clean sample. -/
def State.sampleSource (s : State) (x : Sample) (src : Nat) : State :=
  if !s.inputOn src || !s.watched src then s
  else if s.condition x src then
    { s with tmp.clean := Tab.del src s.tmp.clean, tmp.fails := Tab.put src (Tab.getD s.tmp.fails src 0 + 1) s.tmp.fails }
  else
    let s : State := { s with tmp.fails := Tab.del src s.tmp.fails }
    if s.rdBit Reg.TMP_ALARM.ALARM 0 src then
      let c := Tab.getD s.tmp.clean src 0 + 1
      if 2 ≤ c then s.clearAlarm src else { s with tmp.clean := Tab.put src c s.tmp.clean }
    else s

/-- A loop of a sample (16, R547, R565): TMP_LOOP keeps the patterns of a failing sample. -/
def State.sampleLoop (s : State) (x : Sample) (l : Nat) : State :=
  if !s.inputOn (4 + l) then s
  else
    let g := genByte 8 (s.tmp.gens.getD l 0)
    let s := if loopByte x l = g.1 then s else (s.wr Reg.TMP_LOOP.SENT l g.1).wr Reg.TMP_LOOP.SEEN l (loopByte x l)
    { s with tmp.gens := s.tmp.gens.set l g.2 }

/-- The patterns of a loop's alarm (16, R561 DETAIL). -/
def State.sampleDetail (s : State) (x : Sample) (src : Nat) : Nat :=
  if 4 ≤ src ∧ src < 8 then (genByte 8 (s.tmp.gens.getD (src - 4) 0)).1 + 256 * loopByte x (src - 4) else 0

/-- TAMPER_SAMPLE (16, R545–R547). -/
def execTamperSample (x : Sample) (s : State) : Res :=
  .next <|
    let s := ((s.wr Reg.TMP_TEMP.A 0 x.tempA.toNat).wr Reg.TMP_TEMP.B 0 x.tempB.toNat)
    let s := (s.wr Reg.AON_SUPPLY.VAON 0 x.vaon.toNat).wr Reg.AON_SUPPLY.VBAT 0 x.vbat.toNat
    let s0 := s
    let s := (List.range 20).foldl (fun t n => t.sampleSource x n) s
    let hits := (List.range 20).filter fun n => s0.sampled n && s0.condition x n && !s0.rdBit Reg.TMP_ALARM.ALARM 0 n &&
      decide ((if n < 8 then 2 else 1) ≤ Tab.getD s.tmp.fails n 0)
    let s := (List.range 4).foldl (fun t l => t.sampleLoop x l) s
    let s : State := { s with tmp.gens := s.tmp.gens.set 4 (genByte 8 (s.tmp.gens.getD 4 0)).2 }
    s.respond 1 (hits.map fun n => (n, s0.sampleDet x n, s0.sampleDetail x n))

/-- ENV_EXCURSION (16, R545): a detector of a continuously watched source trips. -/
def execEnvExcursion (src : Fin 20) (detA detB : Bool) (vaon vbat : BitVec 16) (s : State) : Res :=
  .next <|
    if (src.val = 8 ∨ src.val = 9 ∨ src.val = 12 ∨ src.val = 14 ∨ src.val = 15) ∧ (detA || detB) then
      ((s.wr Reg.AON_SUPPLY.VAON 0 vaon.toNat).wr Reg.AON_SUPPLY.VBAT 0 vbat.toNat).tamper src.val
        ((if detA then 1 else 0) + (if detB then 2 else 0))
    else s

/-- DETECTOR_DISAGREE (16, R549): one detector of an environmental source has tripped and the other not. -/
def execDetectorDisagree (src : Fin 20) (detA detB : Bool) (s : State) : Res :=
  .next <|
    if [8, 9, 10, 11, 12, 14, 15].contains src.val ∧ detA ≠ detB ∧ s.watched src.val then
      ((s.tmpLog src.val 2 0 (if detA then 1 else 2) 0).wrBit Reg.TMP_DISAGREE.SRC 0 src.val true).event Ev.TMP_DISAGREE
    else s

/-- A stimulus test of every enabled intrusion source (16, R550): those that fail to report respond as for an alarm. -/
def State.stimulusTest (s : State) (failed : BitVec 20) : State :=
  s.respond 3 (((List.range 20).filter fun n => (n < 8 || n = 13 || n = 16) && s.inputOn n && failed.getLsbD n).map fun n => (n, 0, 0))

/-- STIMULUS_TEST_TIMER (16, R550). -/
def execStimulusTestTimer (failed : BitVec 20) (s : State) : Res := .next (s.stimulusTest failed)

/-- TMP_TEST: TMP_CTRL.TEST (16, R550, R565). -/
def execTmpTest (m : Fin 16) (failed : BitVec 20) (s : State) : Res :=
  .next <| s.guardWrite m.val 0x40E01014 fun s => s.stimulusTest failed

/-- TMP_LATCHED_WRITE (16, R565): W1C, ignored for a source still in alarm. -/
def execTmpLatchedWrite (m : Fin 16) (v : BitVec 32) (s : State) : Res :=
  .next <| s.guardWrite m.val 0x40E01008 fun s =>
    (List.range 20).foldl (fun t n =>
      if v.getLsbD n && !t.rdBit Reg.TMP_ALARM.ALARM 0 n then t.wrBit Reg.TMP_LATCHED.LATCHED 0 n false else t) s

/-! ### UNLOCK (16, R557–R559) -/

/-- The mask of sources in alarm whose action set includes LOCK. -/
def State.lockAlarms (s : State) : Nat :=
  (List.range 20).foldl (fun m n => if s.rdBit Reg.TMP_ALARM.ALARM 0 n && (s.actionSet n).testBit 2 then m ||| 2 ^ n else m) 0

/-- The fields of UNLOCK are in range (16, R557, R558). -/
def State.unlockFields (s : State) (e : Entry) : Bool :=
  let sub := e.bytes 32 1
  let act := e.bytes 33 1
  (1 ≤ sub && sub ≤ 4) && (sub != 3 || (1 ≤ act && act ≤ 4)) &&
    onlyBytes e (if sub = 3 then (if act = 4 then [(32, 3)] else [(32, 2)]) else [(32, 1)]) &&
    e.length.toNat = (if sub = 2 then 64 else if sub = 3 ∧ act = 4 then 5184 else 0) &&
    (sub != 1 || s.session = 0) && ((sub != 3 && sub != 4) || s.session != 0)

/-- The first condition of R558 that refuses an UNLOCK, with its RES1; the token's checks are RESTORE's. -/
def State.unlockRefused (s : State) (e : Entry) : Option (Nat × Nat) :=
  let sub := e.bytes 32 1
  let act := e.bytes 33 1
  if s.lifecycle = 0 ∨ s.lifecycle = 4 ∨ s.rd Reg.TMP_STATUS.N 0 = 0 then some (Status.LIFECYCLE_STATE, 0)
  else if !s.unlockFields e then some (Status.FIELD_INVALID, 0)
  else if sub = 3 ∧ s.session = 1 then some (Status.QUORUM_REQUIRED, 0)
  else if sub = 3 ∧ ((act = 1 ∧ s.lifecycle ≠ 3) ∨ ((act = 2 ∨ act = 3) ∧ !s.archiveRo)) then some (Status.FIELD_INVALID, 0)
  else if sub = 3 ∧ act = 1 ∧ s.lockAlarms ≠ 0 then some (Status.TAMPER_ACTIVE, s.lockAlarms)
  else if sub = 3 ∧ act = 4 ∧ !s.isSet Reg.STR_STATUS.KEK_VALID 0 then some (Status.KEY_UNAVAILABLE, 0)
  else none

/-- A row of UNLOCK: SUBOP `sub`, and ACTION `act` of ACT. It waits its turn among the exclusive commands; an entry whose SUBOP or ACTION no row has
ends in whichever runs. `run` answers the state and the results. -/
def State.unlockRow (s : State) (f q sub act : Nat) (run : FEntry → State → State × Nat × Nat × Nat) : State :=
  if s.set.excl then s
  else s.frontCmd f q 0x8D fun x s =>
    let b := x.e.bytes 32 1
    let a := x.e.bytes 33 1
    if (b = sub ∧ (sub ≠ 3 ∨ a = act)) ∨ b = 0 ∨ 4 < b ∨ (b = 3 ∧ (a = 0 ∨ 4 < a)) then
      let s := s.popFront f q
      match s.unlockRefused x.e with
      | some r => s.complete f q x.e.cid.toNat r.1 0 r.2
      | none =>
        let r := run x s
        r.1.complete f q x.e.cid.toNat r.2.1 r.2.2.1 r.2.2.2
    else s

/-- UNLOCK_OPEN (16, R556): GATHERING. -/
def execUnlockOpen (f : Fn) (q : Q) (s : State) : Res :=
  .next <| s.unlockRow f.val q.val 1 0 fun _ s =>
    let s : State := { s with tmp.opened := s.ticks, tmp.cards := 0, tmp.sFails := 0, tmp.acts := 0 }
    let s : State := { s with crd.sessK := s.crd.k, crd.sessCards := s.crd.cards }
    let s := (s.wr Reg.TMP_STATUS.COUNTED 0 0).setSession 1 6
    (if s.isSet Reg.CRD_STATUS.PRESENT 0 && s.crd.ex.isNone then s.cardStart 1 0 else s, Status.SUCCESS, s.rd Reg.TMP_STATUS.K 0 + 256 * s.rd Reg.TMP_STATUS.N 0, 0)

/-- Seconds left in the session (16, R565). -/
def State.sessionLeft (s : State) : Nat := if s.session = 0 then 0 else (s.sessionLimit - (s.ticks - s.tmp.opened)) / 32768

/-- The 64-byte session report (16, R557). -/
def State.sessionReport (s : State) : List Nat :=
  [s.session, s.rd Reg.TMP_STATUS.K 0, s.rd Reg.TMP_STATUS.N 0, s.rd Reg.TMP_STATUS.COUNTED 0] ++ leBytes s.tmp.sFails 2 ++ [0, 0] ++
    leBytes s.sessionLeft 4 ++ leBytes s.tmp.acts 4 ++ leBytes (if s.session = 0 then 0 else s.tmp.opened) 8 ++ [s.tmp.cards] ++ List.replicate 39 0

/-- UNLOCK_STATUS (16, R557). -/
def execUnlockStatus (f : Fn) (q : Q) (s : State) : Res :=
  .next <| s.unlockRow f.val q.val 2 0 fun x s => (s.hostScatter f.val x.sg s.sessionReport, Status.SUCCESS, 0, 64)

/-- An action was performed in the session. -/
def State.acted (s : State) (a : Nat) : State := { s with tmp.acts := s.tmp.acts ||| 2 ^ a }

/-- UNLOCK_ACT_UNLOCK (16, R559). -/
def execUnlockActUnlock (f : Fn) (q : Q) (s : State) : Res :=
  .next <| s.unlockRow f.val q.val 3 1 fun _ s =>
    let s : State := { s.wr Reg.TMP_STATUS.LOCK_FLAG 0 0 with cfg.record.lock := false }
    let s := (s.wr Reg.DEV_STATUS.LIFECYCLE 0 2).keeperWindows false
    let s := s.wr Reg.TMP_LATCHED.LATCHED 0 (s.rd Reg.TMP_LATCHED.LATCHED 0 &&& s.rd Reg.TMP_ALARM.ALARM 0)
    ((s.acted 1).tmpLog 0xFF 8 0 0 (s.sessionDetail 1 0), Status.SUCCESS, 0, 0)

/-- Raise the KEYGEN of a FREE or RELEASE_PENDING extent by 65,536, retiring one that would pass 0xFF_FFFF (05, R218). -/
def Extent.raise (x : Extent) : Extent :=
  if x.st = .free ∨ x.st = .releasePending then
    if x.keygen + 65536 ≤ 0xFFFFFF then { x with keygen := x.keygen + 65536 } else { x with st := .retired }
  else x

/-- ROLLBACK_ACCEPT (05, R218): the candidate's OPEN extents are sealed, KEYGENs raised, a full persist, root commit, anchor and head made, and
ARCHIVE_RO cleared. -/
def execRollbackAccept (f : Fn) (q : Q) (s : State) : Res :=
  .next <| s.unlockRow f.val q.val 3 2 fun _ s =>
    let s := s.rollLogged 2 s.lastCandidate 0
    let opens := (s.key.ext.filter fun x => x.2.st = .openE).map (·.1)
    let s := opens.foldl (fun t e => t.sealExtent e) s
    let s : State := { s with key.ext := Tab.mapVal (fun _ (x : Extent) => x.raise) s.key.ext, key.freshGen := s.key.freshGen + 65536,
                              key.tenants := Tab.mapVal (fun _ (x : Tenant) => { x with opens := [] }) s.key.tenants,
                              key.candidate := false, key.journal := [] }
    let s := (s.wr Reg.DEV_STATUS.ARCHIVE_RO 0 0).wr Reg.EXT_STATUS.READ_ONLY 0 0
    let s := (s.beginPersist.rootCommit 0).addWrap Reg.EXT_JSEQ.JSEQ 0 1
    let s : State := { s with key.head := some (s.rd Reg.EXT_JSEQ.JSEQ 0) }
    (s.acted 2, Status.SUCCESS, 0, 0)

/-- ROLLBACK_REJECT (05, R218): the archive stays read-only. -/
def execRollbackReject (f : Fn) (q : Q) (s : State) : Res :=
  .next <| s.unlockRow f.val q.val 3 3 fun _ s => ((s.rollLogged 3 s.lastCandidate 0).acted 3, Status.SUCCESS, 0, 0)

/-- A restore token passes the checks of R200 for a tenant. -/
def State.tokenGood (s : State) (t : Nat) (k : RestoreToken) : Bool :=
  k.formOk && k.serial = Config.serial && (s.tenant t).st = 2 &&
    (match k.key with | some tk => tkcv tk = k.tkcv && k.tkcv = (s.slot t).check | none => false)

/-- RESTORE (05, R200): the tenant key is installed and the tenant is ACTIVE; its pending voids can be sealed again (16, R555). -/
def execRestore (f : Fn) (q : Q) (token : RestoreToken) (s : State) : Res :=
  .next <| s.unlockRow f.val q.val 3 4 fun x s =>
    let t := x.e.bytes 34 1
    if s.tokenGood t token then
      let s := s.setSlot t { s.slot t with ty := 1, owner := t, key := token.key.getD 0 }
      let s := (s.setTenant t { s.tenant t with st := 1 }).event Ev.STR_TENANT_CHANGE
      ((s.acted 4).tmpLog 0xFF 10 0 0 (s.sessionDetail 4 t), Status.SUCCESS, 0, 0)
    else (s, Status.NOT_AUTHORISED, 0, 0)

/-- UNLOCK_CLOSE (16, R556). -/
def execUnlockClose (f : Fn) (q : Q) (s : State) : Res :=
  .next <| s.unlockRow f.val q.val 4 0 fun _ s => (s.endSession, Status.SUCCESS, 0, 0)

end Sys2Proof.Machine
end

