-- ==== Sys2Proof/Machine/Pke.lean ====
section
/-!
DEFINITION. Machine/Pke.lean: the ends of public-key jobs other than a batch's good signature (06, R251–R254), and ATTEST (06, R257).
-/

namespace Sys2Proof.Machine

/-- The submitter of a Keeper or KCALL job that ends gets its result (06, R251, R257; 12, R459): PK_VERIFY its verdict in RET0. -/
def State.jobResult (s : State) (valid : Bool) (j : PkeJob) : State :=
  match j.who with
  | .attest f q cid report sg len => s.giveAttest f q cid report sg len
  | .kcall c k => s.kcallEnd c k Status.SUCCESS [if valid then 1 else 0, 0, 0, 0]
  | _ => s

/-- A signing invariant fails (06, R254): the signature is discarded, the unit is out of service, the job runs again on another, tamper source 19 is
raised. -/
def State.invariantFails (s : State) (u : Nat) (j : PkeJob) : State :=
  let s := (s.freeUnit u).wrBit Reg.PKE_STATUS.INSERVICE 0 u false
  let s := ({ s with scv.jobs := j :: s.scv.jobs }.addSat Reg.PKE_INV_FAIL.COUNT 0 1)
  let s := (s.event Ev.PKE_INVARIANT).event Ev.PKE_UNIT_OUT
  let s := if s.pkeInService || s.scv.batches.all (fun b => b.signed.isSome) then s else s.wr Reg.SCV_STATUS.UNSIGNED 0 1
  (s.startJobs).tamper 19 0

/-- The function that asked for a job may not write now (02, R47). -/
def PkeJob.inD3 (j : PkeJob) (s : State) : Bool := match j.who with | .attest f _ _ _ _ _ => (s.fnRt f).d3 | _ => false

/-- PKE_JOB_DONE (06, R251–R254): the job of a unit ends and the next starts; a batch's good signature has its own row, BATCH_SIGNED. -/
def execPkeJobDone (u : Fin 4) (ok : Bool) (valid : Bool) (attempts : BitVec 16) (s : State) : Res :=
  .next <|
    match Tab.find u.val s.scv.unit with
    | none => s
    | some j =>
      if !ok then s.invariantFails u.val j
      else match j.who with
        | .batch _ => s
        | _ => if j.inD3 s then s else
          let s := (s.freeUnit u.val).addWrap Reg.PKE_UNIT_JOBS.COUNT u.val 1
          let s := if attempts = 0 then s else s.attempts u.val attempts.toNat
          (s.jobResult valid j).startJobs

/-- SHA-384 of the policy firmware sections in use (06, R257; log entry 4). -/
def State.policyDigest (s : State) : Nat :=
  Config.sha384 [s.cfg.record.policy0.1, s.cfg.record.policy1.1] % 2 ^ 384

/-- ATTEST (06, R257): from PROVISIONED on; the report is taken now and signed by a Keeper job. It waits while the job queue is full (06, R251). -/
def execAttest (f : Fn) (q : Q) (s : State) : Res :=
  .next <| s.frontCmd f.val q.val 0x8E fun x s =>
    if 32 ≤ s.scv.jobs.length then s
    else
      let s := s.popFront f.val q.val
      if s.lifecycle = 0 then s.fail f.val q.val x Status.LIFECYCLE_STATE
      else if x.e.length.toNat < 3920 then s.complete f.val q.val x.e.cid.toNat Status.BUFFER_SHORT 0 3920
      else
        let r := s.report x.e.cdw.toNat s.cfg.record.keeper.1 s.policyDigest (s.rd Reg.TMP_COUNT.COUNT 0)
        s.queueJob ⟨2, 0x01, 0x10, .attest f.val q.val x.e.cid.toNat r x.sg x.e.length.toNat⟩

end Sys2Proof.Machine
end

