-- ==== Sys2Proof/Machine/Rng.lean ====
section
/-!
DEFINITION. Machine/Rng.lean: the random number generator (09): sources, entropy pool, instances, requests, raw test mode.
-/

namespace Sys2Proof.Machine

/-- RNG_STATUS.STATE: 0 OFF, 1 START, 2 RUN, 3 ERROR, 4 RAW. -/
def State.rngState (s : State) : Nat := s.rd Reg.RNG_STATUS.STATE 0

/-- Set it. -/
def State.setRngState (s : State) (v : Nat) : State := s.wr Reg.RNG_STATUS.STATE 0 v

/-- State of a source: 0 OFF, 1 STARTUP, 2 LIVE, 3 EXCLUDED, 4 DEAD. -/
def State.srcState (s : State) (n : Nat) : Nat := s.rd Reg.RNG_SRC_STATUS.STATE n

/-- The sources in a state. -/
def State.srcCount (s : State) (v : Nat) : Nat := ((List.range 12).filter fun n => s.srcState n = v).length

/-- An instance is instantiated (R350). -/
def State.instReady (s : State) (i : Nat) : Bool := s.rdBit Reg.RNG_STATUS.INST 0 i

/-- Erase every instance (R351, R356, R357). -/
def State.eraseInstances (s : State) : State :=
  (List.range 4).foldl (fun t i => (t.wr Reg.RNG_INST.READY i 0).wr Reg.RNG_INST.COUNTER i 0) (s.wr Reg.RNG_STATUS.INST 0 0)

/-- RNG_INST.WAITING follows the requests that the model queues: GET_RANDOM on instance 2, KCALL RANDOM on instance 3. -/
def State.refreshWaiting (s : State) : State :=
  let host := s.rng.reqs.any fun r => match r.who with | .host _ _ _ _ => true | _ => false
  let pol := s.rng.reqs.any fun r => match r.who with | .kcall _ _ _ => true | _ => false
  (s.wr Reg.RNG_INST.WAITING 2 (if host then 1 else 0)).wr Reg.RNG_INST.WAITING 3 (if pol then 1 else 0)

/-- End every waiting GET_RANDOM with a status (R356, R358). -/
def State.endHostRequests (s : State) (status : Nat) : State :=
  let s := s.rng.reqs.foldl (fun t r => match r.who with | .host f q cid _ => t.complete f q cid status 0 0 | _ => t) s
  ({ s with rng.reqs := s.rng.reqs.filter fun r => match r.who with | .host _ _ _ _ => false | _ => true }).refreshWaiting

/-- LIVE follows the sources; RUN and START fall to ERROR below setting 0x0033, and ERROR returns to START (R355, R356). -/
def State.refreshLive (s : State) : State :=
  let n := s.srcCount 2
  let s := s.wr Reg.RNG_STATUS.LIVE 0 n
  let min := s.setting 0x0033
  let s := if s.rngState = 3 ∧ min ≤ n ∧ !s.isSet Reg.RNG_STATUS.PERMANENT 0 then (s.setRngState 1).event Ev.RNG_RECOVERED else s
  if s.rngState = 2 ∧ n < min then
    (((s.setRngState 3).eraseInstances).event Ev.RNG_ERROR).endHostRequests Status.ENTROPY_UNAVAILABLE
  else s

/-- A LIVE source has failed in START (R355): ERROR where the LIVE sources have fallen below setting 0x0033 with it. -/
def State.startShort (s : State) : State :=
  if s.rngState = 1 ∧ s.srcCount 2 + 1 = s.setting 0x0033 then
    (((s.setRngState 3).eraseInstances).event Ev.RNG_ERROR).endHostRequests Status.ENTROPY_UNAVAILABLE
  else s

/-- RUN is entered once enough sources are LIVE and instances 0 and 1 are instantiated (R355). -/
def State.maybeRun (s : State) : State :=
  if s.rngState = 1 ∧ s.setting 0x0033 ≤ s.srcCount 2 ∧ s.instReady 0 ∧ s.instReady 1 then s.setRngState 2 else s

/-- The RNG stops (R351, R355): instances, pool and FIFO are erased; every source but a DEAD one is OFF. -/
def State.rngStop (s : State) : State :=
  let s := ((s.eraseInstances).wr Reg.RNG_STATUS.POOL 0 0).setRngState 0
  let s := (List.range 12).foldl (fun t n => if t.srcState n = 4 then t else t.wr Reg.RNG_SRC_STATUS.STATE n 0) s
  { s.wr Reg.RNG_STATUS.LIVE 0 0 with rng.fifo := [], rng.named := [], rng.seeded := [] }

/-- The RNG starts (R351, R355): START, and every source but a DEAD one in STARTUP. -/
def State.rngStart (s : State) : State :=
  let s := (List.range 12).foldl (fun t n => if t.srcState n = 4 then t else t.wr Reg.RNG_SRC_STATUS.STATE n 1) (s.setRngState 1)
  let dead := s.srcCount 4
  if 12 - dead < s.setting 0x0033 then ((s.setRngState 3).wr Reg.RNG_STATUS.PERMANENT 0 1).event Ev.RNG_ERROR else s

/-- RNG_SOURCE_FAIL (R345, R346): a STARTUP or LIVE source fails a health test: EXCLUDED, at the third failure DEAD; the block in progress and the pool are
discarded. -/
def execRngSourceFail (src : Fin 12) (rct apt : Bool) (s : State) : Res :=
  .next <|
    let n := src.val
    if (s.srcState n = 1 ∨ s.srcState n = 2) ∧ (rct || apt) then
      let live := s.srcState n = 2
      let k := min 3 (s.rd Reg.RNG_SRC_FAILS.COUNT n + 1)
      let s := (s.wr Reg.RNG_SRC_FAILS.COUNT n k).wr Reg.RNG_SRC_STATUS.STATE n (if k = 3 then 4 else 3)
      let s := (s.wr Reg.RNG_SRC_STATUS.RCT n (if rct then 1 else 0)).wr Reg.RNG_SRC_STATUS.APT n (if apt then 1 else 0)
      let s := (s.wr Reg.RNG_STATUS.POOL 0 0).event Ev.RNG_SRC_FAIL
      let s := if k = 3 then s.event Ev.RNG_SRC_DEAD else s
      let s := s.refreshLive
      let s := if live then s.startShort else s
      if 12 - s.srcCount 4 < s.setting 0x0033 then
        (if s.rngState = 3 ∨ s.rngState = 4 ∨ s.rngState = 0 then s
         else (((s.setRngState 3).eraseInstances).event Ev.RNG_ERROR).endHostRequests Status.ENTROPY_UNAVAILABLE).wr Reg.RNG_STATUS.PERMANENT 0 1
      else s
    else s

/-- RNG_SOURCE_RETRY (R345). -/
def execRngSourceRetry (src : Fin 12) (s : State) : Res :=
  .next <| if s.srcState src.val = 3 ∧ s.rngState ≠ 0 then s.wr Reg.RNG_SRC_STATUS.STATE src.val 1 else s

/-- RNG_STARTUP_PASS (R345). -/
def execRngStartupPass (src : Fin 12) (s : State) : Res :=
  .next <| if s.srcState src.val = 1 ∧ s.rngState ≠ 0 then ((s.wr Reg.RNG_SRC_STATUS.STATE src.val 2).refreshLive).maybeRun else s

/-- RNG_BLOCK_READY (R347, R348): a conditioned block enters the pool of 16; none while no source is LIVE. -/
def execRngBlockReady (s : State) : Res :=
  .next <| if s.rngState ≠ 0 ∧ s.srcCount 2 ≠ 0 ∧ s.rd Reg.RNG_STATUS.POOL 0 < 16 then s.addWrap Reg.RNG_STATUS.POOL 0 1 else s

/-- RNG_INSTANTIATE (R350, R351): two pool blocks; in START and RUN. Instance 0 reseeds before its first generate call too (R352). -/
def execRngInstantiate (i : Fin 4) (s : State) : Res :=
  .next <|
    if (s.rngState = 1 ∨ s.rngState = 2) ∧ !s.instReady i.val ∧ 2 ≤ s.rd Reg.RNG_STATUS.POOL 0 then
      let s := (s.subFloor Reg.RNG_STATUS.POOL 0 2).wrBit Reg.RNG_STATUS.INST 0 i.val true
      let s := (s.wr Reg.RNG_INST.READY i.val 1).wr Reg.RNG_INST.COUNTER i.val 0
      ({ s with rng.seeded := Tab.put i.val s.ticks s.rng.seeded,
                rng.named := if i.val = 0 then [0] ++ s.rng.named.filter (· ≠ 0) else s.rng.named }).maybeRun
    else s

/-- A reseed of the instance is due before its next generate call (R352): its counter, its time, RNG_CTRL.RESEED; instance 0 before every call. -/
def State.reseedDue (s : State) (i : Nat) : Bool :=
  s.setting 0x0030 ≤ s.rd Reg.RNG_INST.COUNTER i || s.rng.named.contains i ||
    s.setting 0x0031 * 32768 ≤ s.ticks - Tab.getD s.rng.seeded i 0 || (i = 0 && s.rd Reg.RNG_INST.COUNTER 0 != 0)

/-- RNG_RESEED (R352): one pool block. -/
def execRngReseed (i : Fin 4) (s : State) : Res :=
  .next <|
    if (s.rngState = 1 ∨ s.rngState = 2) ∧ s.instReady i.val ∧ s.reseedDue i.val ∧ s.rd Reg.RNG_STATUS.POOL 0 ≠ 0 then
      let s := ((s.subFloor Reg.RNG_STATUS.POOL 0 1).wr Reg.RNG_INST.COUNTER i.val 0).addWrap Reg.RNG_INST_RESEEDS.COUNT i.val 1
      { s with rng.seeded := Tab.put i.val s.ticks s.rng.seeded, rng.named := s.rng.named.filter (· ≠ i.val) }
    else s

/-- RNG_CTRL_RESEED (R352). -/
def execRngCtrlReseed (m : Fin 16) (mask : BitVec 4) (s : State) : Res :=
  .next <| s.guardWrite m.val 0x40700004 fun s =>
    { s with rng.named := (List.range 4).filter fun i => mask.getLsbD i || s.rng.named.contains i }

/-! ### Requests (R353, R354, R358; 12, R459) -/

/-- GET_RANDOM (R358; 03, R111): LENGTH 0 is FIELD_INVALID; in ERROR it ends with ENTROPY_UNAVAILABLE; otherwise it waits for instance 2. In READY it waits for
ACTIVE (11, R414). -/
def execGetRandom (f : Fn) (q : Q) (s : State) : Res :=
  .next <| if s.power ≠ 0 then s else s.hostCmd f.val q.val 8 fun x s =>
    match s.ioLifecycle 8 with
    | some st => s.fail f.val q.val x st
    | none =>
      if x.e.length.toNat = 0 ∨ !onlyBytes x.e [] then s.fail f.val q.val x Status.FIELD_INVALID
      else if s.rngState = 3 then s.fail f.val q.val x Status.ENTROPY_UNAVAILABLE
      else ({ s with rng.reqs := s.rng.reqs ++ [(⟨.host f.val q.val x.e.cid.toNat x.sg, 0, x.e.length.toNat, 0⟩ : RandReq)] }).refreshWaiting

/-- The first waiting request of an instance; a function in D3hot takes no bytes (02, R47). -/
def State.randReq (s : State) (i : Nat) : Option RandReq :=
  s.rng.reqs.find? fun r => match r.who with | .host f _ _ _ => i = 2 && s.fnLive f | .kcall _ _ _ => i = 3

/-- A byte of a core's memory as KCALL buffers see it: the caller's TCM or the staging region (12, R456, R457). -/
def State.pokeByte (s : State) (c a v : Nat) : State :=
  if 0x10000000 ≤ a ∧ a ≤ 0x1007FFFF then
    s.setCore c { s.core c with tcm := Tab.store 0 (a - 0x10000000) (BitVec.ofNat 8 v) (s.core c).tcm }
  else if 0x20000000 ≤ a ∧ a ≤ 0x23FFFFFF then { s with cpu.staging := Tab.store 0 (a - 0x20000000) (BitVec.ofNat 8 v) s.cpu.staging }
  else s

/-- Write bytes from an address on. -/
def State.pokeBytes (s : State) (c a : Nat) : List Nat → State
  | [] => s
  | v :: r => (s.pokeByte c a v).pokeBytes c (a + 1) r

/-- Bytes of the random output of one generate call, from a draw (log entry 5). -/
def randomBytes (seed n : Nat) : List Nat := (List.range n).map fun i => Config.random seed i % 256

/-- Deliver a generate call to a request: to the host buffer as numbers standing for its bytes, or to the KCALL buffer; the last call ends it. -/
def State.deliver (s : State) (r : RandReq) (seed n : Nat) (how : LinkEnd) : State :=
  let left := s.rng.reqs.erase r
  let r' : RandReq := { r with given := r.given + n }
  let fin := r.want ≤ r'.given
  let s : State := { s with rng.reqs := if fin then left else s.rng.reqs.map fun y => if y = r then r' else y }
  let s := match r.who with
    | .host f q cid sg =>
      if how ≠ LinkEnd.ok then
        ((({ s with rng.reqs := left } : State)).linkError (portOf f) how).complete f q cid Status.BUFFER_FAULT 0 0
      else
        let s := (sgPart sg r.given n).foldl (fun (t : State) (p : Nat × Nat) => t.hostWrite f p.1 p.2 [Config.random seed p.1]) s
        if fin then s.complete f q cid Status.SUCCESS 0 0 else s
    | .kcall c k buf =>
      let s := s.pokeBytes c (buf + r.given) (randomBytes seed n)
      if fin then s.kcallEnd c k Status.SUCCESS [0, 0, 0, 0] else s
  s.refreshWaiting

/-- RNG_GENERATE_CALL (R352–R354): the core finishes a call of an instance that is ready and owes no reseed, in RUN. Instances 2 and 3 serve the first request
that waits, in calls of at most 4,096 bytes, instance 3 before instance 2; on instances 0 and 1 the Keeper and the PKE units draw `bytes`. -/
def execRngGenerateCall (i : Fin 4) (bytes : Fin 4097) (how : LinkEnd) (s : State) : Res :=
  .next <|
    if s.rngState ≠ 2 ∨ !s.instReady i.val ∨ s.reseedDue i.val then s
    else if i.val < 2 then
      if bytes.val = 0 then s else (s.addWrap Reg.RNG_INST.COUNTER i.val 1).addWrap Reg.RNG_BYTES.BYTES 0 bytes.val
    else if i.val = 2 ∧ s.instReady 3 ∧ !s.reseedDue 3 ∧ (s.randReq 3).isSome then s
    else match s.randReq i.val with
      | none => s
      | some r =>
        let n := min 4096 (r.want - r.given)
        let d := s.random i.val
        let s := (d.2.addWrap Reg.RNG_INST.COUNTER i.val 1).addWrap Reg.RNG_BYTES.BYTES 0 n
        s.deliver r d.1 n how

/-- In RAW, a GET_RANDOM that has waited more than 1 s there ends with BUSY_RETRY (R358): `dt` ticks pass. -/
def State.rngTick (s : State) (dt : Nat) : State :=
  if s.rngState ≠ 4 ∨ s.rng.reqs = [] then s
  else
    let aged := s.rng.reqs.map fun (r : RandReq) => { r with rawTicks := r.rawTicks + dt }
    let late (r : RandReq) : Bool := match r.who with | .host _ _ _ _ => decide (32768 < r.rawTicks) | _ => false
    let s := (aged.filter late).foldl (fun t r => match r.who with | .host f q cid _ => t.complete f q cid Status.BUSY_RETRY 0 0 | _ => t) s
    ({ s with rng.reqs := aged.filter fun r => !late r }).refreshWaiting

/-! ### Raw test mode (R357, R361) -/

/-- RNG_RAW_CTRL_WRITE (R355, R357): EN = 1 enters RAW in BLANK and PROVISIONED and is refused elsewhere; EN = 0 leaves it. -/
def execRngRawCtrlWrite (m : Fin 16) (v : BitVec 32) (s : State) : Res :=
  .next <| s.guardWrite m.val 0x40700400 fun s =>
    let en := v.getLsbD 31
    let t := (s.wr Reg.RNG_RAW_CTRL.SEL 0 (v.toNat / 16)).wr Reg.RNG_RAW_CTRL.SRC 0 v.toNat
    if en ∧ !s.isSet Reg.RNG_RAW_CTRL.EN 0 then
      if s.lifecycle ≤ 1 then
        if s.rngState = 1 ∨ s.rngState = 2 ∨ s.rngState = 3 then
          (((t.wr Reg.RNG_RAW_CTRL.EN 0 1).eraseInstances).wr Reg.RNG_STATUS.POOL 0 0).setRngState 4
        else t
      else t.wr Reg.RNG_RAW_STATUS.REFUSED 0 1
    else if !en ∧ s.isSet Reg.RNG_RAW_CTRL.EN 0 then
      let t : State := { t.wr Reg.RNG_RAW_CTRL.EN 0 0 with rng.fifo := [] }
      (if t.rngState = 4 then t.setRngState 1 else t).wr Reg.RNG_RAW_STATUS.LEVEL 0 0
    else t

/-- Samples enter the raw FIFO of 1,024 words; those that find it full are dropped and counted (R357). -/
def State.rawFill (s : State) (l : List Nat) : State :=
  let room := 1024 - s.rng.fifo.length
  let s := s.addSat Reg.RNG_RAW_STATUS.DROPPED 0 (l.length - room)
  { s with rng.fifo := s.rng.fifo ++ l.take room }

/-- RNG_RAW_DATA_READ (R357, R361): the words sampled since the last read enter the FIFO, and its next word is returned and removed; 0 where it is empty or
outside RAW. -/
def execRngRawDataRead (m : Fin 16) (fresh : List (BitVec 32)) (s : State) : Res :=
  .next <|
    if !s.mainOn then s
    else match s.denied m.val 0x40700408 false with
    | some r => s.recordDenial m.val 0x40700408 r false
    | none =>
      if s.rngState ≠ 4 then s.send (.regRead m.val 0x40700408 0)
      else
        let s := s.rawFill (fresh.map (·.toNat))
        let w := s.rng.fifo.headD 0
        let s : State := { s with rng.fifo := s.rng.fifo.tail }
        (s.wr Reg.RNG_RAW_STATUS.LEVEL 0 s.rng.fifo.length).send (.regRead m.val 0x40700408 w)

end Sys2Proof.Machine
end

