-- ==== Sys2Proof/Machine/Reset.lean ====
section
/-!
DEFINITION. Machine/Reset.lean: the reset types (00, R13), what each keeps, the fuses (10, R385–R388), the life-cycle state (10, R392), and a boot up to
its step 4 (10, R390).
-/

namespace Sys2Proof.Machine

/-! ### What a reset reaches (00, R13) -/

/-- A reset of reach `level` (1 warm, 2 cold, 3 AON) returns the register fields of that reset type, and of narrower ones, to their reset values;
fields of type 4 are read from flash, fuses or FRAM and no reset changes them. -/
def State.resetRegs (s : State) (level : Nat) : State :=
  { s with regs := Tab.keep (fun k _ => decide (level < fieldResetTypes.getD (k % fieldSpan) 1)) s.regs }

/-- A lane after a warm or cold reset: powered down; a retirement stands until a cold reset (00, R13). -/
def State.resetLanes (s : State) (level : Nat) : State :=
  if level = 1 then
    (List.range 264).foldl (fun t n => if t.laneState n = 7 then t else t.wr Reg.SLA_LANE_STATUS.STATE n 0)
      { s with lane := { Lanes.initial with log := s.lane.log } }
  else { s with lane := Lanes.initial }

/-- Strongroom and the extent keeper after a reset: flash, fuses and BBRAM stand; SRAM and registers of keys in clear do not (05, R183, R192, R216). RK
is kept as long as main power is (R183). -/
def State.resetKeys (s : State) (level : Nat) : State :=
  { s with key := { s.key with
      rk := if level = 1 then s.key.rk else 0, kek := 0, blobKey := 0, ucache := [], dkc := [], ext := [], reserve := [], journal := [],
      commit := [], committing := false, jwait := [], jwaitNow := [], jfail := false, leaves := none, more := false, persistNow := false,
      persistAll := false, candidate := false } }

/-- The Scrivener and the PKE after a reset: batches, marks, scan starts and certificates are on media or in flash, the anchor in BBRAM; jobs are abandoned
(06, R242, R252). -/
def State.resetScrivener (s : State) : State :=
  { s with scv := { Scrivener.initial with
      batches := s.scv.batches, lastBatch := s.scv.lastBatch, marks := s.scv.marks, kept := s.scv.kept, scans := s.scv.scans,
      anchorValid := s.scv.anchorValid, anchorEpoch := s.scv.anchorEpoch, uncert := s.scv.uncert, drifting := s.scv.drifting,
      stale := s.scv.stale, certs := s.scv.certs, certOf := s.scv.certOf } }

/-- Media after a reset: the rank table, the spare pool and log 0x43 are in flash, degraded units and called-for zone resets on media; the port engines and
open stripes are lost (07, R276, R305; 05, R216). A rebuild walk does not go on: the drive of a REBUILDING slot is admitted by R278. -/
def State.resetMedia (s : State) : State :=
  { s with media := { Media.initial with
      rank := s.media.rank, spares := s.media.spares, log := s.media.log, degraded := s.media.degraded, resets := s.media.resets } }

/-- Retention after a reset: drive records, seal records and logs 0x50, 0x51 and 0x53 stand; the attention list is lost and an assay run ends (08, R308,
R328, R339); accumulators stand where the final commit of a warned loss saved them (R315). -/
def State.resetAsy (s : State) : State :=
  let s := s.endRun 3
  { s with asy := { s.asy with attn := [], softs := [], checks := [], acc := if s.key.clean then s.asy.acc else [], run := none } }

/-- The cores, KCALL, policy commands and the staging region after a reset (12, R452, R458). -/
def State.resetCpu (s : State) : State :=
  { s with cpu := { Cpu.initial with staging := s.cpu.staging, lastMismatch := s.cpu.lastMismatch } }

/-- The settings that BBRAM also holds for Watchman (16, R560): they stand until the next image load. -/
def bbramSetting (sid : Nat) : Bool := 0x7000 ≤ sid && sid < 0x7200

/-- A WRITE_CONFIG_IMAGE session closes without success (10, R381). -/
def State.closeSession (s : State) : State :=
  match s.cfg.session with
  | none => s
  | some _ => { s with cfg.session := none }

/-- The pages that Watchman writes (18, R594). -/
def watchmanPage (p : Nat) : Bool := p = 3 || 5 ≤ p

/-- Everything a reset of reach `level` returns to its reset value, in every block. What the block has sent and the commands that wait are no state of the
hardware. Drives stay in their slots: their presence is an input. -/
def State.wipe (s : State) (level : Nat) : State :=
  let present := (List.range 128).filter fun p => s.isSet Reg.MPX_PORT_STATUS.PRESENT p
  let s := s.endSession.flashCut.rngStop
  let s := (((s.resetAsy.resetLanes level).resetKeys level).resetScrivener.resetMedia.resetCpu).resetRegs level
  let s : State := { s with
    host := HostIf.initial, led := { Ledgers.initial with orphans := s.led.orphans },
    set := { s.set with live := Tab.keep (fun k _ => bbramSetting k && level ≠ 3) s.set.live, laggards := [], waiting := [], excl := false },
    rng := Rng.initial, cfg := { s.cfg with session := none, image := none, noPolicy := [] },
    aon := { s.aon with wake := none, move := none, watch := false, heldReset := false, clockLost := false, shadowDrops := 0 },
    tmp := { s.tmp with lockDue := false }, npl := { s.npl with queue := [], lock := s.npl.lock.filter fun l => watchmanPage l.page && level ≠ 3 }, crd := { s.crd with staged := s.crd.cards, ex := none } }
  present.foldl (fun t p => t.setPresent p true) s

/-! ### Fuses (10, R384–R387) -/

/-- The words of the fuse array that are assigned (R384). -/
def fuseWords : List Nat := [0, 1, 2, 3] ++ (List.range 8).map (· + 8) ++ (List.range 24).map (· + 16) ++ (List.range 320).map (· + 64)

/-- Words of the class key (R384). -/
def fuseKey (n : Nat) : Bool := n < 2 || (8 ≤ n && n < 40) || (64 ≤ n && n < 320)

/-- Key words without which a boot halts: serial number, F and helper data (R386). -/
def fuseVital (n : Nat) : Bool := n < 2 || (8 ≤ n && n < 16) || (64 ≤ n && n < 320)

/-- What word `n` is programmed to. -/
def State.fuse (s : State) (n : Nat) : Nat :=
  if n = 0 then Config.serial % 2 ^ 32 else if n = 1 then Config.serial / 2 ^ 32 % 2 ^ 32
  else if n = 2 then (if Config.part128 then 2 else 1)
  else if 320 ≤ n then Config.trim n % 2 ^ 32
  else Tab.getD s.cfg.fuses n 0

/-- The decided value of a word (R385): of a marginal security word each bit that any reading gives, with VARIANT 0x02; of a marginal trim word its design
default; none for an unusable key word. -/
def State.fuseDecided (s : State) (marginal : List (Nat × BitVec 32)) (n : Nat) : Option Nat :=
  match marginal.find? fun x => x.1 = n with
  | none => some (s.fuse n)
  | some x =>
    if fuseKey n then none
    else if n = 2 then some 2
    else if n = 3 then some x.2.toNat
    else some (Config.trimDefault n % 2 ^ 32)

/-- Show the marginal words of a read (R385, R402). -/
def State.showMarginal (s : State) (marginal : List (Nat × BitVec 32)) : State :=
  let l := marginal.map (·.1)
  let s := (List.range 16).foldl (fun t i => t.wr Reg.OTP_MARGINAL.WORD i
    (l.foldl (fun v n => if n / 32 = i then v ||| 2 ^ (n % 32) else v) 0)) s
  let s := (s.wr Reg.OTP_STATUS.MCOUNT 0 l.eraseDups.length).wr Reg.OTP_LAST_READ.TICKS 0 s.ticks
  if l = [] then s else (s.wr Reg.OTP_STATUS.MARGINAL 0 1).event Ev.OTP_MARGINAL

/-- Read the fuses at a cold reset (R385): the decided values stand until the next one. What OTP_WORD shows of an unusable word is a free value. -/
def State.readFuses (s : State) (marginal : List (Nat × BitVec 32)) : State :=
  let m := marginal.filter fun x => fuseWords.contains x.1
  let s := fuseWords.foldl (fun t n =>
    if (8 ≤ n && n < 16) || (64 ≤ n && n < 320) then t
    else match t.fuseDecided m n with
      | some v => t.wr Reg.OTP_WORD.VALUE n v
      | none => let d := t.draw; d.2.wr Reg.OTP_WORD.VALUE n d.1) s
  let s : State := { s with cfg.unusable := (m.filter fun x => fuseKey x.1).map (·.1), cfg.coldFuses := s.cfg.fuses }
  ((s.showMarginal m).wr Reg.OTP_STATUS.READ_DONE 0 1).wr Reg.OTP_STATUS.LC 0 (s.rd Reg.OTP_WORD.VALUE 3)

/-- The fused digest of an image-authority slot, where every word is usable and it is not all zeros (R386). -/
def State.imageKey (s : State) (slot : Nat) : Option Nat :=
  let ws := (List.range 12).map fun i => 16 + 12 * slot + i
  let v := ws.foldl (fun v n => v + s.rd Reg.OTP_WORD.VALUE n * 2 ^ (32 * (n - 16 - 12 * slot))) 0
  if ws.any s.cfg.unusable.contains || v = 0 then none else some v

/-! ### Life-cycle state (10, R392) -/

/-- Decide the life-cycle state; the BBRAM LOCK flag is copied to the boot record. -/
def State.decideLifecycle (s : State) : State :=
  let lc := s.rd Reg.OTP_STATUS.LC 0
  let s : State := { s with cfg.record.lock := s.cfg.record.lock || s.isSet Reg.TMP_STATUS.LOCK_FLAG 0 }
  s.wr Reg.DEV_STATUS.LIFECYCLE 0
    (if lc.testBit 2 then 4 else if lc.testBit 1 then (if s.cfg.record.lock then 3 else 2) else if lc.testBit 0 then 1 else 0)

/-! ### The start of a boot (10, R389, R390) -/

/-- Microseconds from boot step 1. -/
def State.bootMicros (s : State) : Nat := (s.ticks - s.cfg.bootTicks) * 1000000 / 32768

/-- The decimal digits of a number as ASCII bytes, `n` of them. -/
def decimalBytes (v : Nat) : Nat → List Nat
  | 0 => []
  | n + 1 => decimalBytes (v / 10) n ++ [48 + v % 10]

/-- The line of the debug UART for a boot step (19, R625). -/
def State.stepLine (s : State) (n : Nat) : State :=
  s.send (.uart ([0x43, 0x58, 0x34, 0x20, 0x53] ++ decimalBytes n 2 ++ [0x20] ++ decimalBytes s.bootMicros 9 ++ [0x0D, 0x0A]))

/-- A boot reaches step `n` (R401). The debug UART sends a line for each step reached, in BLANK and PROVISIONED (19, R625); the lines of steps 1 to 4 follow
the decision of the life-cycle state in step 4 (log entry 19). -/
def State.stage (s : State) (n : Nat) : State :=
  let first := if n ≤ 4 then 1 else s.rd Reg.PTR_STATUS.STAGE 0 + 1
  let s := s.wr Reg.PTR_STATUS.STAGE 0 n
  if n < 4 || 1 < s.lifecycle then s else (List.range (n + 1 - first)).foldl (fun (t : State) (k : Nat) => t.stepLine (first + k)) s

/-- An entry of log 0x60 as the boot ends (R399). -/
def State.logBoot (s : State) : State :=
  let mode := s.bootMode
  let e : BootLog :=
    { ticks := s.cfg.bootTicks, reset := s.cfg.boot, mode := mode, halt := s.rd Reg.PTR_STATUS.HALT 0,
      copy := if mode = 0 then s.rd Reg.PTR_STATUS.COPY 0 else 0xFF, flags := s.cfg.flags,
      areason := s.rd Reg.PTR_STATUS.AREASON 0, breason := s.rd Reg.PTR_STATUS.BREASON 0, lifecycle := s.lifecycle,
      aseq := s.rd Reg.PTR_SEQ_A.SEQ 0, bseq := s.rd Reg.PTR_SEQ_B.SEQ 0, floor := s.cfg.record.floor,
      cfgTime := s.cfg.cfgTime, readyTime := s.bootMicros, marginal := s.rd Reg.OTP_STATUS.MCOUNT 0 }
  let l := s.cfg.log ++ [e]
  { s with cfg.log := l.drop (l.length - 64), cfg.boot := 0 }

/-- ADMIN_READY (R389, R390 step 15): the boot time is shown and the boot logged. -/
def State.adminReady (s : State) : State :=
  ((s.wr Reg.DEV_STATUS.ADMIN_READY 0 1).wr Reg.PTR_BOOT_TIME.US 0 s.bootMicros).logBoot

/-- The host ports come up with no virtual function (R389): TotalVFs 0. -/
def State.noVfs (s : State) : State := (s.setVfs 0 false 0).setVfs 1 false 0

/-- The boot stops with a cause (R389). -/
def State.halt (s : State) (cause : Nat) : State :=
  (((s.wr Reg.PTR_STATUS.MODE 0 2).wr Reg.PTR_STATUS.HALT 0 cause).noVfs).adminReady

/-- The root key formed from the PUF response and F (05, R183; log entry 4). -/
def State.rootKey (s : State) : Nat := Config.kdf (Config.puf s.key.fuseF) [0x524B]

/-- Step 4: the life-cycle state, the unfinished erases of the flash (15, R534), the RNG started (09, R351). -/
def State.bootStep4 (s : State) : State :=
  ((s.decideLifecycle.stage 4).findIncomplete.rngStart).wr Reg.PTR_FLOOR.FLOOR 0 s.cfg.record.floor

/-- The state in which a boot begins: step 1, the log entry opened. -/
def State.beginBoot (s : State) (kind : Nat) : State :=
  ({ s with cfg.boot := kind, cfg.bootTicks := s.ticks, cfg.flags := 0, cfg.cfgTime := 0 }).stage 1

/-- Clocks and inputs as a boot finds them (11): the crystal and the PLLs run; TIME_DEGRADED follows the counter's source. -/
def State.clocksOn (s : State) : State :=
  let s := ((s.wr Reg.AON_CLK_STATUS.XTAL25_OK 0 1).wr Reg.AON_CLK_STATUS.SYSPLL_LOCK 0 1).wr Reg.AON_CLK_STATUS.MPLL_LOCK 0 1
  (s.wr Reg.DEV_STATUS.TIME_DEGRADED 0 (s.rd Reg.AON_STATUS.RC_ACTIVE 0)).wr Reg.SBD_STATUS.PWR_GOOD 0 1

/-- A bad BBRAM header at a cold reset (11, R430): S, the journal head and the anchor are lost, as after an AON reset. -/
def State.bbramLost (s : State) : State :=
  { s with key.secretS := 0, key.head := none, scv.anchorValid := false, cfg.aonLost := true }

/-- Steps 1 to 4 of a cold-reset boot (R390). A part that is not enrolled has no RK to form. -/
def State.coldBoot (s : State) (c : ColdStart) : State :=
  let s := (s.wipe 2).clocksOn
  let s := (if c.bbram then s else s.bbramLost).wr Reg.AON_STATUS.BBRAM_BAD 0 (if c.bbram then 0 else 1)
  let s := s.beginBoot 1
  if !c.selfTest then s.halt 1
  else
    let s := (s.stage 2).readFuses c.marginal
    if s.cfg.unusable.any fuseVital then s.halt 2
    else
      let s := s.stage 3
      if s.key.fuseF ≠ 0 ∧ !c.puf then s.halt 3
      else
        let s := if s.key.fuseF = 0 then s else ({ s with key.rk := s.rootKey }).wr Reg.STR_STATUS.RK_VALID 0 1
        s.bootStep4

/-- A warm reset and its boot up to step 4 (00, R13; 10, R390): every PKE job that runs is abandoned (06, R252). -/
def State.warmReset (s : State) : State :=
  let s := (s.wipe 1).clocksOn
  ((s.wr Reg.PKE_STATUS.BUSY 0 0).beginBoot 2).bootStep4

/-- What an AON reset clears beside its registers (11, R424): the tick counter, BBRAM and Watchman's state; the cold reset's reach follows. -/
def State.aonWipe (s : State) : State :=
  let s := s.wipe 3
  { s with
    aon := Aon.initial, tmp := { Tamper.initial with log71 := s.tmp.log71 },
    key.secretS := 0, key.head := none, scv.anchorValid := false, cfg.aonLost := true,
    asy.ageTicks := 0, key.lastRootTicks := 0, npl.page3Written := false, npl.lastBatchTicks := 0 }

/-! ### Rows: resets -/

/-- AON_RESET (11, R424): the AON domain, then a cold reset. -/
def execAonReset (c : ColdStart) (s : State) : Res :=
  .next <|
    let s := s.aonWipe
    let s := (((s.wr Reg.SCV_ANCHOR_TICKS.TICKS 0 0).wr Reg.SCV_ANCHOR_UTC.MS 0 0).wr Reg.AON_STATUS.AONPOR 0 1).event Ev.AON_AONPOR
    s.coldBoot { c with bbram := true }

/-- COLD_RESET (00, R13; 10, R390). -/
def execColdReset (c : ColdStart) (s : State) : Res := .next (s.coldBoot c)

/-- RESET_PIN (19, R624; 11, R410): held while PWR_FAIL# is asserted and during a wake from SLEEP, ignored in WATCH; in SLEEP it starts a wake, which a
warm-reset boot follows. -/
def execResetPin (s : State) : Res :=
  .next <|
    if s.aon.watch then s
    else if s.isSet Reg.AON_STATUS.PWR_FAIL 0 then { s with aon.heldReset := true }
    else if s.power = 2 then ({ s with aon.heldReset := true }).startWake 3
    else s.warmReset

/-- ADMIN_RESET (02, R96; 00, R13): DEV_RESET with KEY 0xA5C4 and WARM = 1. -/
def execAdminReset (m : Fin 16) (v : BitVec 32) (s : State) : Res :=
  .next <| s.guardWrite m.val 0x40080080 fun s => if v.toNat / 2 ^ 16 = 0xA5C4 ∧ v.getLsbD 0 then s.warmReset else s

/-! ### Rows: fuses read again (10, R387) -/

/-- A read of the fuses while the device runs: a word whose decided value is not that of the cold reset raises FUSE_DRIFT. -/
def State.rereadFuses (s : State) (r : FuseRead) : State :=
  let m := r.marginal.filter fun x => fuseWords.contains x.1
  let now (n : Nat) : Option Nat :=
    match m.find? fun x => x.1 = n, r.changed.find? fun x => x.1 = n with
    | some _, _ => s.fuseDecided m n
    | none, some x => some x.2.toNat
    | none, none => some (s.fuse n)
  let cold (n : Nat) : Option Nat :=
    if s.cfg.unusable.contains n then none
    else if (8 ≤ n && n < 16) || (64 ≤ n && n < 320) then some (Tab.getD s.cfg.coldFuses n 0)
    else some (s.rd Reg.OTP_WORD.VALUE n)
  let drift := fuseWords.any fun (n : Nat) => now n != cold n
  let s := (s.wr Reg.OTP_STATUS.MARGINAL 0 0).showMarginal m
  let s := s.event Ev.OTP_REREAD_DONE
  if drift then ((s.wr Reg.OTP_STATUS.DRIFT 0 1).event Ev.OTP_DRIFT).tamper 17 0 else s

/-- FUSE_REREAD_TIMER (10, R387): every 24 h, where the Keeper runs. -/
def execFuseRereadTimer (r : FuseRead) (s : State) : Res :=
  .next <| if s.mainOn && s.isSet Reg.OTP_STATUS.READ_DONE 0 && !s.isSet Reg.KPR_STATUS.HALTED 0 then s.rereadFuses r else s

/-- OTP_REREAD (10, R387, R402): OTP_CTRL.REREAD. -/
def execOtpReread (m : Fin 16) (r : FuseRead) (s : State) : Res := .next <| s.guardWrite m.val 0x40F03060 fun s => s.rereadFuses r

end Sys2Proof.Machine
end

