-- ==== Sys2Proof/Machine/Boot.lean ====
section
/-!
DEFINITION. Machine/Boot.lean: the boot from its step 5 (10, R368–R378, R390): the image copies, installs, settings; the restore of the extent table and
of the chains (05, R216–R219; 06, R243, R252; 08, R315, R322).
-/

namespace Sys2Proof.Machine

/-! ### Image copies (10, R368–R372) -/

/-- The signer of an image is trusted in the life-cycle state (R369). -/
def State.signerTrusted (s : State) (i : Image) : Bool :=
  if i.kind = 1 then
    0x10 ≤ i.signer && i.signer ≤ 0x13 && i.pub = Config.romKey (i.signer - 0x10) &&
      (s.lifecycle = 0 || (s.lifecycle = 1 && i.serial = Config.serial))
  else 1 ≤ s.lifecycle && i.signer ≤ 1 && (match s.imageKey i.signer with | some k => i.pub = k | none => false)

/-- The settings of an image, applied to the defaults. -/
def imageSettings (i : Image) : Tab Nat := i.settings.foldl (fun t x => Tab.put x.1 x.2.2 t) []

/-- Every SETTINGS entry names a defined setting and is in range, and the sum and tie rules hold over the whole set (R368 reason 8; the sums as log
entry 11 says). -/
def State.settingsVerify (s : State) (i : Image) : Bool :=
  let t : State := { s with set.live := imageSettings i, set.journal := [] }
  i.settings.length ≤ 2048 && i.settings.all fun x =>
    match settingDef? x.1 with
    | some d => t.settingInRange d x.2.2 && t.sumsHold x.1 x.2.2
    | none => false

/-- The reason of a copy, 0 where it verifies: the first check of R368 that fails. -/
def State.copyReason (s : State) (c : CopyRead) : Nat :=
  if c.jedec.toNat = 0 ∨ c.jedec.toNat = 0xFFFFFF ∨ c.sizeLog < 24 ∨ 29 < c.sizeLog then 1
  else match c.image with
    | none => 2
    | some i =>
      if !i.formOk ∨ (i.kind ≠ 1 ∧ i.kind ≠ 2) then 2
      else if i.extent % 4096 ≠ 0 ∨ i.extent < 8192 ∨ 16769024 < i.extent ∨ 2 ^ c.sizeLog < i.extent + 8192 then 3
      else if !s.signerTrusted i ∨ !i.sigOk then 4
      else if i.device ≠ 0xC404 ∨ !i.variants.testBit (if Config.part128 then 1 else 0) ∨ (i.serial ≠ 0 ∧ i.serial ≠ Config.serial) then 5
      else if i.seq < s.cfg.record.floor ∨ i.seq = 0 ∨ i.seq < i.seqFloor then 6
      else if !i.tableOk then 7
      else if !s.settingsVerify i ∨ !i.keysOk then 8
      else if !c.readOk then 9
      else 0

/-- SEQ of a copy, 0 if unreadable. -/
def copySeq (c : CopyRead) : Nat := match c.image with | some i => i.seq | none => 0

/-- The copy used (R372): false A, true B. -/
def selectCopy (aOk bOk diverged : Bool) (seqA seqB : Nat) : Option Bool :=
  if aOk && bOk then some (diverged && decide (seqA < seqB))
  else if aOk then some false
  else if bOk then some true
  else none

/-- PTR_CHIP of a copy (R401). -/
def State.showChip (s : State) (n : Nat) (c : CopyRead) : State :=
  (s.wr Reg.PTR_CHIP.JEDEC n c.jedec.toNat).wr Reg.PTR_CHIP.SIZELOG n c.sizeLog

/-! ### Settings at image load (10, R377) -/

/-- Apply one journal entry, or skip it and log it with issuer 3. -/
def State.loadJournal (s : State) (x : Nat × Nat) : State :=
  match settingDef? x.1 with
  | none => s
  | some d =>
    if s.set.locks.contains x.1 || !s.settingInRange d x.2 || !s.sumsHold x.1 x.2 then
      s.logSetting x.1 d.cls.code 3 (s.setting x.1) (s.setting x.1)
    else { s with set.live := Tab.put x.1 x.2 s.set.live }

/-- The live settings at an image load; in IMAGE_RECOVERY the defaults. The PFs take their quotas, HQD pools and dispatch weights from them (01, R28;
02, R50, R51; log entry 106). -/
def State.formSettings (s : State) (i : Option Image) : State :=
  let j := s.set.journal
  let s : State := match i with
    | some i => { s with set.image := imageSettings i, set.live := imageSettings i, set.journal := [],
                         set.locks := (i.settings.filter fun x => x.2.1).map (·.1) }
    | none => { s with set.image := [], set.live := [], set.locks := [] }
  let s := if i.isSome then { j.foldl State.loadJournal s with set.journal := j } else s
  let s := (s.wr Reg.DEV_SETTINGS_EPOCH.EPOCH 0 1).refreshDigest
  let s := (s.wr Reg.HIF_FN_CFG.QUOTA 0 (s.setting 0x1024)).wr Reg.HIF_FN_CFG.QUOTA 128 (s.setting 0x1025)
  let s := [0, 128].foldl (fun t f => (t.wr Reg.HIF_FN_HQD.POOL f (t.setting 0x1010)).wr Reg.HIF_FN_CFG.WEIGHT f (t.setting 0x1022)) s
  s.copyTagSettings

/-! ### Installation (10, R374–R376) -/

/-- The KEEPER section is installed where its digest differs; none where the install fails twice. -/
def State.installKeeper (s : State) (i : Image) (ok : Bool) : Option State :=
  if i.keeper.digest = s.cfg.record.keeper.1 then some s
  else if !ok then none
  else
    let s := s.installSection 0x400000 s.cfg.record.keeper.2 i.keeper.bytes
    some (({ s with cfg.record.keeper := (i.keeper.digest, i.keeper.bytes.length), cfg.flags := s.cfg.flags ||| 0x10 }).event Ev.PTR_INSTALLED)

/-- The installed digest and length of policy firmware `c`. -/
def State.policyRecord (s : State) (c : Nat) : Nat × Nat := if c = 0 then s.cfg.record.policy0 else s.cfg.record.policy1

/-- A policy section is installed where its digest differs. Where a sector it needs is write-protected the install is deferred and the core runs what is
installed (R376); where it fails twice the core is left without firmware (R375). -/
def State.installPolicy (s : State) (c : Nat) (x : Section) (ok : Bool) : State :=
  let r := s.policyRecord c
  if x.digest = r.1 then s
  else
    let n := (max r.2 x.bytes.length + 8191) / 8192
    if (List.range n).any fun k => s.protectedSector (256 * c + k) then
      ({ s with cfg.flags := s.cfg.flags ||| 0x80 }).event Ev.PTR_INSTALL_FAIL
    else if !ok then
      ({ s with cfg.flags := s.cfg.flags ||| 0x80, cfg.noPolicy := s.cfg.noPolicy ++ [c] }).event Ev.PTR_INSTALL_FAIL
    else
      let s := s.installSection (0x200000 * c) r.2 x.bytes
      let v := (x.digest, x.bytes.length)
      let s : State := if c = 0 then { s with cfg.record.policy0 := v } else { s with cfg.record.policy1 := v }
      ({ s with cfg.flags := s.cfg.flags ||| (0x20 * 2 ^ c) }).event Ev.PTR_INSTALLED

/-- WPMAP (R376). -/
def State.applyWpmap (s : State) (w : BitVec 512) : State :=
  (List.range 512).foldl (fun t i => if w.getLsbD i then t.wrBit Reg.EFL_WP.WP (i / 32) (i % 32) true else t) s

/-- Microcode (06, R255): the image's where it is acceptable, otherwise the ROM's. -/
def State.loadMicrocode (s : State) (i : Image) : State :=
  let rom := (s.wr Reg.PKE_MC_STATUS.ROM 0 1).wr Reg.PKE_STATUS.MCVER 0 0
  match i.microcode with
  | none => rom
  | some m =>
    if i.microOk ∧ s.rd Reg.PKE_MC_STATUS.MINVER 0 ≤ i.microVer then
      let s := ((s.wr Reg.PKE_MC_STATUS.ROM 0 0).wr Reg.PKE_STATUS.MCVER 0 i.microVer).wr Reg.PKE_MC_STATUS.MINVER 0
        (max i.microMin (s.rd Reg.PKE_MC_STATUS.MINVER 0))
      { s with cfg.record.microcode := m.digest }
    else (rom.wr Reg.PKE_MC_STATUS.REJECTED 0 1).event Ev.PKE_MC_REJECT

/-- Missing identity and restore key pairs are generated (10, R395). -/
def State.completeProvision (s : State) : State :=
  if s.lifecycle = 0 ∨ s.cfg.record.identity then s
  else
    let a := s.random 0
    let b := a.2.random 0
    { b.2 with key.identity := a.1, key.restoreKey := b.1, cfg.record.identity := true }

/-- Tenant 0 of a DEPLOYED part (05, R194; 10, R397), created if it is absent. -/
def State.ensureTenant0 (s : State) : State :=
  if s.lifecycle = 2 ∧ (s.tenant 0).st = 0 then
    s.createTenant 0 { Tenant.none with openw := s.setting 0x4020, extQuota := extentSpace, ledQuota := 65536, rankMask := 0xFFFFFFFF }
  else s

/-- The policy cores are released, but one left without firmware (R375, R390 step 12). -/
def State.releaseCores (s : State) : State :=
  [0, 1].foldl (fun t c =>
    if t.cfg.noPolicy.contains c then t else (t.wr Reg.POL_CORE_CTRL.RESET c 0).setCore c { t.core c with run := .running }) s

/-- Ports with a drive are brought up (07, R271; 10, R390 step 13). -/
def State.startPorts (s : State) : State :=
  ((List.range 128).filter fun p => s.isSet Reg.MPX_PORT_STATUS.PRESENT p && !portFused p).foldl State.bringUp s

/-- Steps 11 and 12 with the image in use. -/
def State.bootStep12 (s : State) (i : Image) (r : PorterRead) : State :=
  let s := s.completeProvision.loadMicrocode i
  let s := (s.deriveKeys).ensureTenant0
  let d := s.random 0
  let s : State := { d.2 with key.blobKey := d.1 }
  let s := s.wr Reg.FWL_STG_LOW.ADDR 0 (0x200 + s.setting 0x0010 + s.setting 0x0011 + s.setting 0x0012)
  let s := (s.keeperWindows (decide (3 ≤ s.lifecycle))).seedLoops
  let s := (s.wr Reg.TMP_STATUS.K 0 s.crd.k).wr Reg.TMP_STATUS.N 0 s.crd.cards.length
  let s := (s.installPolicy 0 i.policy0 r.policy0Ok).installPolicy 1 i.policy1 r.policy1Ok
  let s := (s.bootRefresh.applyWpmap i.wpmap).releaseCores
  (s.startPorts).stage 12

/-- The image in use is put in force (R373, R377, R390 steps 9 and 10). -/
def State.useImage (s : State) (i : Image) (r : PorterRead) : State :=
  let s : State := { s with cfg.image := some i, cfg.record.seq := i.seq, cfg.record.digest := i.digest,
                            cfg.record.floor := max s.cfg.record.floor i.seqFloor, cfg.cfgTime := r.us }
  let s := (List.range 12).foldl (fun t k => t.wr Reg.PTR_IMG_DIGEST.DIGEST k (i.digest / 2 ^ (32 * k))) s
  let s := (s.wr Reg.PTR_FLOOR.FLOOR 0 s.cfg.record.floor).formSettings (some i)
  match s.installKeeper i r.keeperOk with
  | none => s.halt 4
  | some s => ((s.wr Reg.KPR_STATUS.RUNNING 0 1).wr Reg.KPR_VERSION.FW 0 i.keeperVer).bootStep12 i r

/-- Neither copy verifies (R389): IMAGE_RECOVERY, with default settings and the Keeper firmware already installed. -/
def State.imageRecovery (s : State) : State :=
  let s := (s.formSettings none).wr Reg.PTR_STATUS.MODE 0 1
  let s := if s.cfg.record.keeper.2 = 0 then s else s.wr Reg.KPR_STATUS.RUNNING 0 1
  ((s.keeperWindows (decide (3 ≤ s.lifecycle))).noVfs).adminReady

/-- PORTER_COPY_READ (10, R371, R372): steps 5 to 12. -/
def execPorterCopyRead (r : PorterRead) (s : State) : Res :=
  .next <|
    if s.cfg.boot = 0 ∨ s.rd Reg.PTR_STATUS.STAGE 0 ≠ 4 then s
    else if !r.record then s.halt 5
    else
      let ra := s.copyReason r.a
      let rb := s.copyReason r.b
      let ext (c : CopyRead) : Option Nat := c.image.map (·.extent)
      let diverged := ra ≠ 1 && rb ≠ 1 && (!r.same || ext r.a != ext r.b)
      let slow := r.a.slow || r.b.slow
      let s := (s.showChip 0 r.a).showChip 1 r.b
      let s := (s.wr Reg.PTR_SEQ_A.SEQ 0 (copySeq r.a)).wr Reg.PTR_SEQ_B.SEQ 0 (copySeq r.b)
      let s := (s.wr Reg.PTR_STATUS.AREASON 0 ra).wr Reg.PTR_STATUS.BREASON 0 rb
      let s := (s.wr Reg.PTR_STATUS.A_OK 0 (if ra = 0 then 1 else 0)).wr Reg.PTR_STATUS.B_OK 0 (if rb = 0 then 1 else 0)
      let s := (s.wr Reg.PTR_STATUS.SLOW 0 (if slow then 1 else 0)).wr Reg.PTR_STATUS.DIVERGED 0 (if diverged then 1 else 0)
      let s := if diverged then s.event Ev.PTR_DIVERGED else s
      let s := if ra = 0 ∧ rb = 0 then s else s.event Ev.PTR_COPY_INVALID
      let s : State := { s with cfg.flags := (if ra = 0 then 1 else 0) + (if rb = 0 then 2 else 0) + (if diverged then 4 else 0) + (if slow then 8 else 0) }
      let s := s.stage 8
      match selectCopy (ra = 0) (rb = 0) diverged (copySeq r.a) (copySeq r.b) with
      | none => s.imageRecovery
      | some b =>
        match (if b then r.b.image else r.a.image) with
        | none => s
        | some i => (s.wr Reg.PTR_STATUS.COPY 0 (if b then 1 else 0)).useImage i r

/-- MEDIA_WAIT_END (10, R390 step 13, R391): a slot in service whose drive is not back is MISSING (log entry 17). -/
def execMediaWaitEnd (s : State) : Res :=
  .next <|
    if s.cfg.boot = 0 ∨ s.rd Reg.PTR_STATUS.STAGE 0 ≠ 12 then s
    else
      let gone := s.media.rank.flatMap fun x => ((List.range x.2.slots.length).filter fun i =>
        match x.2.slots[i]? with | some y => y.st ≠ 1 && s.portState y.port ≠ 2 | none => false).map fun i => (x.1, i)
      (gone.foldl (fun t x => t.slotMissing x.1 x.2) s).stage 13

/-! ### The extent table (05, R216–R219) -/

/-- The state with a STATE code (05, R203). -/
def estate (n : Nat) : EState :=
  if n = 0 then .free else if n = 1 then .openE else if n = 2 then .sealedE else if n = 3 then .migrating else if n = 4 then .releasePending
  else .retired

/-- An entry from its 128 bits (05, R202). FILL gives the next offset to the next multiple of 65,536. -/
def Extent.ofWord (w : Nat) : Extent :=
  ⟨estate (w / 2 ^ 86 % 16), w.testBit 120, w / 2 ^ 105 % 2 ^ 15, w / 2 ^ 56 % 64, w / 2 ^ 62 % 2 ^ 24, w / 2 ^ 48 % 256, w / 2 ^ 24 % 2 ^ 24,
    w % 2 ^ 24, w / 2 ^ 90 % 2 ^ 15 * 65536, true⟩

/-- The table of a candidate (05, R217). -/
def candidateTable (l : List (Nat × Nat)) : Tab Extent := l.foldl (fun t x => Tab.put x.1 (Extent.ofWord x.2) t) []

/-- The bays in use of every rank, from the table, the targets of migrations to repeat and the zone resets to repeat. -/
def State.restoreBays (s : State) : State :=
  let held := (s.key.ext.filter fun x => x.2.rank ≠ 63 && x.2.st ≠ .free && x.2.st ≠ .retired).map (fun x => (x.2.rank, x.2.bay)) ++
    s.asy.attn.filterMap (·.target) ++ s.media.resets.map fun x => (x.1, x.2.1)
  { s with media.rank := Tab.mapVal (fun r (x : RankRt) => { x with used := (held.filter fun h => h.1 = r).map (·.2) |>.eraseDups }) s.media.rank }

/-- An OPEN extent after an unwarned loss (05, R216 step 6; 08, R315): sealed after the last stripe of which a unit was found, `n` stripes; one with FILL 0
and no unit goes to RELEASE_PENDING. `low` is the lowest offset that recovery reads. -/
def State.sealLost (s : State) (e n low : Nat) : State :=
  let x := s.ext e
  if x.next = 0 ∧ n = 0 then
    { (s.setExt e { x with st := .releasePending }).resetBay x.rank x.bay (e + 1) with asy.acc := Tab.del e s.asy.acc }
  else
    let stripe := match s.rank? x.rank with | some r => r.stripeBytes | none => 0
    let fin := min (2 ^ 30) (max x.next (n * stripe))
    let r : SealRec := ⟨x.tenant, x.keygen, true, true, 0, fin, 0, 2 ^ 1024 - 1, low, []⟩
    let s := s.setExt e { x with st := .sealedE, age := 0, next := fin }
    { s with asy.seals := Tab.put e r s.asy.seals, asy.acc := Tab.del e s.asy.acc }

/-- MIGRATING extents at a start (08, R322): the target's zones are reset and the extent is RECOVERY, with the same target. -/
def State.resumeMigration (s : State) (old : List Mig) (e : Nat) : State :=
  match old.find? fun m => m.extent = e with
  | none => s.attend e 7 none
  | some m =>
    ((s.resetBay m.rank m.bay 0).migLogged m 3).addSat Reg.ASY_MIG_ABANDON.COUNT 0 1 |>.attend e 7 (some (m.rank, m.bay))

/-- Zone resets called for and not done are repeated (05, R216 step 7). -/
def State.repeatResets (s : State) : State :=
  let s := s.media.resets.foldl (fun t z => t.send (.nvme z.1 "resetBay" [z.2.1])) s
  (s.key.ext.filter fun x => x.2.st = .releasePending && x.2.rank ≠ 63 && !s.bayResetting x.2.rank x.2.bay).foldl
    (fun t x => t.resetBay x.2.rank x.2.bay (x.1 + 1)) s

/-! ### The chains (06, R243) -/

/-- The record found for a sequence number, if its header matches and its tag verifies (06, R243 step 3). -/
def State.foundRecord (s : State) (fs : List Found) (l n : Nat) : Option Found :=
  fs.find? fun f =>
    let h := f.stored.hdr
    h.ledger = l && h.seq = n && h.hver = 1 && 1 ≤ h.ty && h.ty ≤ 6 && h.reservedZero && h.tenant = (s.ledger l).tenant &&
      h.keygen = (s.ext h.extent).keygen && (s.ext h.extent).tenant = h.tenant && s.keyAvailable h.tenant &&
      f.stored.tag = recordTag (s.ek (h.tenant, h.extent, h.keygen)) h f.stored.payload

/-- Chain the records found from a ledger's mark on, until one is not found (06, R243 steps 3 and 5): each counts as durable, its receipt is an orphan,
and its checkpoint is called for where its header asks for one. -/
def State.chainFound (s : State) (fs : List Found) (l : Nat) : Nat → State
  | 0 => s
  | k + 1 =>
    let x := s.ledger l
    let n := x.unchained
    match s.foundRecord fs l n with
    | none => s
    | some f =>
      let h := f.stored.hdr
      let c := chainStep x.chain h f.stored.tag
      let s := s.setLedger l { x with unchained := n + 1, uncompleted := n + 1, next := max x.next (n + 1), chain := c, chainedSince := x.chainedSince + 1 }
      let s := ((s.orphan ⟨l, n, locator h.extent h.offset h.keygen h.ty⟩).addWrap Reg.SCV_CHAIN_COUNT.COUNT 0 1).event Ev.SCV_RECOVERED
      let s := if f.complete then s else s.attend h.extent 1 none
      let s := if h.ty = 4 then s.callCkpt l n 5 c else if h.flags.testBit 2 then s.callCkpt l n 3 c else s
      s.chainFound fs l k

/-- A void record of recovery: cause 6, no slot known (03, R99; 06, R243 step 4). -/
def State.recoveryVoid (s : State) (l n : Nat) : State :=
  let x := s.ledger l
  let r : Rec :=
    { ty := if x.closeSeq = some n then .close else .data, fn := noFn, q := 0, cid := 0, owed := false, length := 0xFFFFFF, sg := [], asked := 0, crcv := false,
      hcrc := 0, dur := false, ckpt := false, setepoch := s.epoch, ticks := s.ticks, tenant := x.tenant, extent := 0xFFFFFFFF, keygen := 0,
      offset := 2 ^ 64 - 1, label := 0, data := [], grp := 0, lane := 0, pages := 0, lsc := false, sco := false, crc := 0, tag := none,
      voidCause := 6, slotExt := 0xFFFFFFFF, slotOff := 2 ^ 64 - 1, placed := false, chained := false, before := 0, durable := false,
      lost := false, completed := false, status := Status.ABORTED_BY_RESET }
  s.setRec l n r

/-- Restore one ledger from its mark and the records found (06, R243): its state, chain and numbers, the void records to come. -/
def State.restoreLedger (s : State) (fs : List Found) (l : Nat) (m : Mark) (clean : Bool) : State :=
  let y := m.led
  let bound := y.st = .bound || y.st = .closing
  let y := { y with st := if y.st = .closing then .closed else if y.st = .bound then .unbound else y.st,
                    prevFn := if bound then y.fn else y.prevFn, prevQ := if bound then y.q else y.prevQ, fn := 0, q := 0xFF, unbindCause := 0,
                    unchained := m.dnext, uncompleted := m.dnext, next := if clean then m.dnext else max y.next m.dnext, chain := m.dchain,
                    chainedSince := 0, ckTicks := s.ticks }
  let s := s.setLedger l y
  if clean then s
  else
    let s := s.chainFound fs l fs.length
    let x := s.ledger l
    let high := fs.foldl (fun h f => if f.stored.hdr.ledger = l then max h (f.stored.hdr.seq + 1) else h) x.next
    let s := s.setLedger l { x with next := high }
    (List.range (high - x.unchained)).foldl (fun t k => t.recoveryVoid l (x.unchained + k)) s

/-- Batches closed and not stored (06, R252): one whose entries the Scrivener log holds is signed again; other entries of the mark blocks that no stored
block holds go into the next batch. -/
def State.resumeBatches (s : State) : State :=
  let held (b : Batch) : Bool := b.stored || b.entries.all s.scv.kept.contains
  let bs := (s.scv.batches.filter held).map fun (b : Batch) => if b.stored then b else { b with signed := none }
  let rest := s.scv.kept.filter fun e => !bs.any fun b => b.entries.contains e
  let s : State := { s with scv.batches := bs, scv.lastBatch := (match bs.getLast? with | some b => b.number | none => 0) }
  let s := bs.foldl (fun t b => if b.stored then t else t.queueJob ⟨1, 0x01, 0x10, .batch b.number⟩) s
  if rest = [] then s
  else { ({ s with scv.entries := rest.take 4096, scv.outside := rest.drop 4096 }).closeBatch with scv.due := decide (rest.drop 4096 ≠ []) }

/-! ### After an AON reset (05, R214, R219; 03, R108) -/

/-- The archive epoch rises, the journal stands without a head, a full persist and a root commit are made, and every ledger's TIME_GAP record is called
for. The time that the persist took is a free value. -/
def State.afterAonReset (s : State) : State :=
  let old := s.rd Reg.DEV_ARCHIVE_EPOCH.EPOCH 0
  let s := (s.wr Reg.DEV_ARCHIVE_EPOCH.EPOCH 0 (old + 1)).wr Reg.EXT_STATUS.UNANCHORED 0 1
  let s := s.rollLogged 4 (s.key.root.seq, s.key.root.root) 0
  let d := s.draw
  let s := (d.2.beginPersist).rootCommit d.1
  let gaps := (s.led.tab.filter fun x => x.2.st = .bound || x.2.st = .unbound).map fun x => (x.1, old, old + 1)
  { s with led.gaps := gaps }

/-! ### EXTENT_TABLE_RESTORE -/

/-- The rollback conditions of R217 that hold, as CAUSE bits of log 0x42. -/
def State.rollbackCause (s : State) (t : TableRead) : Nat :=
  (if t.descriptor then 0 else 1) + (if t.leaves then 0 else 2) +
    (match s.key.head with | some h => if t.jseq < h then 4 else 0 | none => 0)

/-- Steps 5 to 9 of R216 with the table in place. -/
def State.restoreFrom (s : State) (t : TableRead) : State :=
  let clean := s.key.clean
  let migs := s.asy.migs
  let s := s.setMigs []
  let s := (s.key.ext.filter fun x => x.2.st = .migrating).foldl (fun u x => u.resumeMigration migs x.1) s
  let low (e : Nat) : Nat := match s.scv.scans.find? fun x => x.1 = e with | some x => x.2 | none => (s.ext e).fill * 65536
  let s := if clean then s
    else (s.key.ext.filter fun x => x.2.st = .openE).foldl (fun u x =>
      u.sealLost x.1 (match t.open_.find? fun y => y.1 = x.1 with | some y => y.2 | none => 0) (low x.1)) s
  let s : State := if clean then s else { s with key.tenants := Tab.mapVal (fun _ (x : Tenant) => { x with opens := [] }) s.key.tenants }
  let s := s.repeatResets.restoreBays
  let s := s.scv.marks.foldl (fun u x => u.restoreLedger t.found x.1 x.2 clean) s
  s.resumeBatches

/-- EXTENT_TABLE_RESTORE (05, R216–R219; 10, R390 steps 14 and 15). -/
def execExtentTableRestore (t : TableRead) (s : State) : Res :=
  .next <|
    if s.cfg.boot = 0 ∨ s.rd Reg.PTR_STATUS.STAGE 0 ≠ 13 then s
    else
      let cause := s.rollbackCause t
      let s := if t.repaired then s.event Ev.EXT_COPY_REPAIRED else s
      let s := s.wr Reg.EXT_STATUS.RECOVERY 0 (if s.cfg.aonLost then 3 else if !s.key.clean then 2 else if s.key.warned then 1 else 0)
      let s : State :=
        if cause ≠ 0 then
          let s : State := { s with key.ext := [] }
          let s := s.rollback cause (t.candidate.map fun c => (candidateTable c.2, c.1))
          let s := s.restoreBays.wr Reg.EXT_STATUS.TABLE_VALID 0 (if t.candidate.isSome then 1 else 0)
          s.scv.marks.foldl (fun u x => u.restoreLedger [] x.1 x.2 true) s
        else
          let s := ({ s with key.ext := s.key.durable }).restoreFrom t
          let s := if s.cfg.aonLost then s.afterAonReset else s
          (s.refillReserve 16).wr Reg.EXT_STATUS.TABLE_VALID 0 1
      let s : State := { s with cpu.staging := [], key.clean := false, key.warned := false }
      let s := if s.cfg.aonLost ∧ !s.isSet Reg.AON_STATUS.BBRAM_BAD 0 then s.tmpLog 0xFF 5 0 0 0 else s
      let s := ({ s with cfg.aonLost := false } : State).copyTamperLog
      let s := (s.stage 15).wr Reg.DEV_STATUS.POWER 0 (s.setting 0x6003)
      let s := if s.power = 0 then s.maskPower else s
      (s.adminReady).resolve

/-! ### WRITE_CONFIG_IMAGE (10, R380–R382) -/

/-- Show the session (R401). -/
def State.showSession (s : State) : State :=
  match s.cfg.session with
  | some x =>
    let s := (s.wr Reg.PTR_STATUS.SESSION 0 1).wr Reg.PTR_SESSION.OPEN 0 1
    let s := (s.wr Reg.PTR_SESSION.TARGET 0 x.target).wr Reg.PTR_SESSION.HDR 0 (if x.hdr then 1 else 0)
    (s.wr Reg.PTR_SESSION.TOTAL 0 (x.total / 4096)).wr Reg.PTR_SESSION.WRITTEN 0 x.written.length
  | none =>
    let s := (s.wr Reg.PTR_STATUS.SESSION 0 0).wr Reg.PTR_SESSION.OPEN 0 0
    let s := (s.wr Reg.PTR_SESSION.TARGET 0 0).wr Reg.PTR_SESSION.HDR 0 0
    (s.wr Reg.PTR_SESSION.TOTAL 0 0).wr Reg.PTR_SESSION.WRITTEN 0 0

/-- The session ends without SUCCESS (R381, R401). -/
def State.failSession (s : State) : State :=
  match s.cfg.session with
  | none => s
  | some _ => (({ s with cfg.session := none }).showSession).event Ev.PTR_WRITE_FAIL

/-- The size of a copy's chip in bytes. -/
def State.chipSize (s : State) (n : Nat) : Nat := 2 ^ s.rd Reg.PTR_CHIP.SIZELOG n

/-- Fields of a WRITE_CONFIG_IMAGE entry in range (R380). -/
def configFields (e : Entry) : Bool :=
  let sub := e.bytes 32 1
  onlyBytes e (if sub = 1 then [(32, 2), (40, 4)] else if sub = 2 then [(32, 1), (36, 4)] else [(32, 1)]) &&
    (if sub = 2 then e.length.toNat % 4096 = 0 && 4096 ≤ e.length.toNat && e.length.toNat ≤ 1048576 && e.bytes 36 4 % 4096 = 0
     else e.length.toNat = 0) && (sub ≠ 1 || e.bytes 33 1 ≤ 1)

/-- The condition of R382 that refuses a command before it acts. -/
def State.configRefused (s : State) (e : Entry) : Option Nat :=
  let sub := e.bytes 32 1
  if s.lifecycle = 3 then some Status.DEVICE_LOCKED
  else if (s.lifecycle = 0 && s.cfg.image.isSome) || s.lifecycle = 4 then some Status.LIFECYCLE_STATE
  else if !configFields e then some Status.FIELD_INVALID
  else match s.cfg.session with
    | none =>
      if sub ≠ 1 then some Status.FIELD_INVALID
      else
        let t := e.bytes 33 1
        let total := e.bytes 40 4
        if total % 4096 ≠ 0 ∨ total < 16384 ∨ 16777216 < total ∨ s.chipSize t < total then some Status.FIELD_INVALID
        else
          let other := if t = 0 then s.isSet Reg.PTR_STATUS.B_OK 0 && !s.isSet Reg.PTR_STATUS.B_WRITTEN 0
            else s.isSet Reg.PTR_STATUS.A_OK 0 && !s.isSet Reg.PTR_STATUS.A_WRITTEN 0
          if !other ∧ s.bootMode ≠ 1 then some Status.NOT_AUTHORISED else none
    | some x =>
      if sub = 1 then some Status.FIELD_INVALID
      else if sub = 2 ∧ x.total < e.bytes 36 4 + e.length.toNat then some Status.FIELD_INVALID
      else none

/-- A row of WRITE_CONFIG_IMAGE; it waits its turn among the exclusive commands. -/
def State.configRow (s : State) (f q sub : Nat) (run : FEntry → State → State × Nat × Nat × Nat) : State :=
  if s.set.excl then s
  else s.subCmd f q 0x87 sub 4 (fun x => (s.configRefused x.e).map fun st => (st, 0)) fun x s =>
    match s.configRefused x.e with
    | some st => s.complete f q x.e.cid.toNat st 0 0
    | none =>
      let r := run x s
      r.1.complete f q x.e.cid.toNat r.2.1 r.2.2.1 r.2.2.2

/-- WRITE_CONFIG_IMAGE_BEGIN (R381): `ok` the erase ended in time. -/
def execWriteConfigImageBegin (f : Fn) (q : Q) (ok : Bool) (s : State) : Res :=
  .next <| s.configRow f.val q.val 1 fun x s =>
    let t := x.e.bytes 33 1
    let s := s.wr (if t = 0 then Reg.PTR_STATUS.A_WRITTEN else Reg.PTR_STATUS.B_WRITTEN) 0 1
    let s := ({ s with cfg.session := some ⟨t, x.e.bytes 40 4, false, []⟩ }).showSession
    if ok then (s, Status.SUCCESS, 0, 0) else (s.failSession, Status.IMAGE_INVALID, 0, 9)

/-- WRITE_CONFIG_IMAGE_WRITE (R381): the first 4,096 bytes go to the header buffer. -/
def execWriteConfigImageWrite (f : Fn) (q : Q) (ok : Bool) (s : State) : Res :=
  .next <| s.configRow f.val q.val 2 fun x s =>
    if !ok then (s, Status.IMAGE_INVALID, 0, 9)
    else match s.cfg.session with
      | none => (s, Status.FIELD_INVALID, 0, 0)
      | some w =>
        let us := (List.range (x.e.length.toNat / 4096)).map fun k => x.e.bytes 36 4 / 4096 + k
        let w' : WSession := { w with hdr := w.hdr || us.contains 0, written := (w.written ++ us).eraseDups }
        (({ s with cfg.session := some w' }).showSession, Status.SUCCESS, 0, 0)

/-- WRITE_CONFIG_IMAGE_FINISH (R381): what the Porter reads back, with the header buffer, must verify; then the header is programmed (`ok`: and reads
back), and the settings journal is emptied. -/
def execWriteConfigImageFinish (f : Fn) (q : Q) (c : CopyRead) (ok : Bool) (s : State) : Res :=
  .next <| s.configRow f.val q.val 3 fun _ s =>
    match s.cfg.session with
    | none => (s, Status.FIELD_INVALID, 0, 0)
    | some w =>
      let reason := if !w.hdr then 2 else s.copyReason c
      if reason ≠ 0 then (s.failSession, Status.IMAGE_INVALID, 0, reason)
      else if !ok then (s.failSession, Status.IMAGE_INVALID, 0, 9)
      else ((({ s with cfg.session := none, set.journal := [] }).showSession).event Ev.PTR_WRITE_DONE, Status.SUCCESS, copySeq c, 0)

/-- WRITE_CONFIG_IMAGE_ABORT (R381). -/
def execWriteConfigImageAbort (f : Fn) (q : Q) (s : State) : Res :=
  .next <| s.configRow f.val q.val 4 fun _ s => (s.failSession, Status.SUCCESS, 0, 0)

end Sys2Proof.Machine
end

