-- ==== Sys2Proof/Machine/Icu.lean ====
section
/-!
DEFINITION. Machine/Icu.lean: the interrupt controller (13, R479–R494): claims, completion, the configuration writes, assertions from outside, and what a core
reset returns of it.
-/

namespace Sys2Proof.Machine

/-- The shared sources that are edge sources (R484); every other defined one is a level source. -/
def edgeSource (n : Nat) : Bool := n = 23 || n = 24 || n = 25 || 448 ≤ n

/-- A source's input is asserted now: a level source whose condition holds (R479). -/
def State.levelOn (s : State) (c id : Nat) : Bool :=
  if id < 32 then id = 4 && s.timerOn c else sharedDefined (id - 32) && !edgeSource (id - 32) && s.sharedInput (id - 32)

/-- Claim a source for a core (R486): pending clears, in service and the core's bit of its level are set. -/
def State.claim (s : State) (c id : Nat) : State :=
  let l := s.srcLevel c id
  let s := if id < 32 then (s.wr Reg.ICU_PCFG.PEND (c * 32 + id) 0).wr Reg.ICU_PCFG.INSVC (c * 32 + id) 1
    else (s.wrBit Reg.ICU_PENDING.PEND ((id - 32) / 32) ((id - 32) % 32) false).wrBit Reg.ICU_INSERVICE.INSVC ((id - 32) / 32) ((id - 32) % 32) true
  let s := s.wrBit Reg.ICU_NEST.NEST c l true
  { s with cpu.claims := Tab.put (c * 16 + l) id s.cpu.claims }

/-- A shared source in service (R479). -/
def State.inService (s : State) (n : Nat) : Bool := s.rdBit Reg.ICU_INSERVICE.INSVC (n / 32) (n % 32)

/-- Set TARGET now, or once the old target has retired the source (R482). -/
def State.retargetTo (s : State) (n v : Nat) : State :=
  if s.inService n then { s with cpu.retarget := Tab.put n v s.cpu.retarget } else s.wr Reg.ICU_SRC_CFG.TARGET n v

/-- The in-service bit of a shared source clears, and a change of TARGET that waited applies (R482, R488). -/
def State.endService (s : State) (n : Nat) : State :=
  let s := s.wrBit Reg.ICU_INSERVICE.INSVC (n / 32) (n % 32) false
  match Tab.find n s.cpu.retarget with
  | some v => { s with cpu.retarget := Tab.del n s.cpu.retarget }.wr Reg.ICU_SRC_CFG.TARGET n v
  | none => s

/-- Retire the source claimed at a level (R488); a level source still asserted is pending again (R481). -/
def State.retire (s : State) (c l : Nat) : State :=
  match Tab.find (c * 16 + l) s.cpu.claims with
  | none => s.wr Reg.ICU_PSTAT.BAD_RETIRE c 1
  | some id =>
    let s : State := { s with cpu.claims := Tab.del (c * 16 + l) s.cpu.claims }
    let s := s.wrBit Reg.ICU_NEST.NEST c l false
    if id < 32 then
      let s := s.wr Reg.ICU_PCFG.INSVC (c * 32 + id) 0
      if s.levelOn c id then s.assertPrivate c id else s
    else
      let s := s.endService (id - 32)
      if s.levelOn c id then s.releaseShared (id - 32) else s

/-- A register field returns to its reset value. -/
def State.clr (s : State) (f : Fld) (i : Nat) : State := { s with regs := Tab.del (f.key i) s.regs }

/-- A core reset or a Keeper restart returns the core's private bank and its ICU_NEST to reset and clears the in-service bits of the shared sources
that target it; their pending bits stay (R492). -/
def State.resetBank (s : State) (c : Nat) : State :=
  let s := (List.range 32).foldl (fun (t : State) (i : Nat) =>
    [Reg.ICU_PCFG.EN, Reg.ICU_PCFG.PEND, Reg.ICU_PCFG.INSVC, Reg.ICU_PCFG.LEVEL].foldl (fun (u : State) (f : Fld) => u.clr f (c * 32 + i)) t) s
  let s := [Reg.ICU_THRESH.THRESH, Reg.ICU_NEST.NEST, Reg.ICU_PSTAT.STALE_TAKE, Reg.ICU_PSTAT.BAD_RETIRE, Reg.ICU_TCMP.CMP, Reg.ICU_HOLDOVR.COUNT,
    Reg.ICU_HOLDPC.PC].foldl (fun (u : State) (f : Fld) => u.clr f c) s
  let s := ((List.range 480).filter fun n => s.rd Reg.ICU_SRC_CFG.TARGET n = c).foldl State.endService s
  { s with cpu.claims := Tab.keep (fun k _ => decide (k / 16 ≠ c)) s.cpu.claims }

/-! ### Rows -/

/-- SOURCE_ASSERT (R480): a defined source is asserted: a shared one by its ID, or private source of core `c`. -/
def execSourceAssert (id : Fin 512) (c : CoreId) (s : State) : Res :=
  .next <| if !s.mainOn then s else if id.val < 32 then s.assertPrivate c.val id.val else s.assertShared (id.val - 32)

/-- ICU_COAL_TIMER (R480): the coalescing time of a source whose stage has counted an assertion is over, and the stage releases. -/
def execIcuCoalTimer (n : Fin 480) (s : State) : Res :=
  .next <|
    match Tab.find n.val s.cpu.coal with
    | some _ => ({ s with cpu.coal := Tab.del n.val s.cpu.coal }).releaseShared n.val
    | none => s

/-- A core reaches its private bank: it runs (12, R466; 11). -/
def State.bankReached (s : State) (c : Nat) : Bool := s.mainOn && (s.core c).run != .held

/-- A write of ICU_TAKE (R487). -/
def State.takeWrite (s : State) (c id : Nat) : State :=
  if s.bestSource c = some id then s.claim c id else s.wr Reg.ICU_PSTAT.STALE_TAKE c 1

/-- ICU_TAKE_WRITE (R487). -/
def execIcuTakeWrite (c : CoreId) (v : BitVec 32) (s : State) : Res :=
  .next <| if s.bankReached c.val then s.takeWrite c.val (v.toNat % 512) else s

/-- ICU_RETIRE_WRITE (R488). -/
def execIcuRetireWrite (c : CoreId) (v : BitVec 32) (s : State) : Res :=
  .next <| if s.bankReached c.val then s.retire c.val (v.toNat % 16) else s

/-- A write of ICU_SWI asserts the software sources whose bit is 1 (R484). -/
def State.swiWrite (s : State) (v : Nat) : State :=
  ((List.range 32).filter fun j => v.testBit j).foldl (fun (t : State) (j : Nat) => t.assertShared (448 + j)) s

/-- ICU_SWI_WRITE (R484, R494). -/
def execIcuSwiWrite (m : Fin 16) (v : BitVec 32) (s : State) : Res :=
  .next <| s.guardWrite m.val 0x40C02080 fun s => s.swiWrite v.toNat

/-- A write of ICU_SRC_CFG (R481, R482, R494): TARGET 3 and TARGET of a locked source are ignored; enabling an asserted level source sets it pending. -/
def State.srcCfgWrite (s : State) (n v : Nat) : State :=
  let was := s.isSet Reg.ICU_SRC_CFG.EN n
  let s := (s.wr Reg.ICU_SRC_CFG.EN n (v / 2 ^ 31)).wr Reg.ICU_SRC_CFG.LEVEL n (v / 2 ^ 20)
  let s := s.wr Reg.ICU_SRC_CFG.COUNT n v
  let tgt := v / 2 ^ 28 % 4
  let s := if tgt = 3 || lockedSource n then s else s.retargetTo n tgt
  if !was && s.isSet Reg.ICU_SRC_CFG.EN n && s.levelOn 0 (n + 32) then s.wrBit Reg.ICU_PENDING.PEND (n / 32) (n % 32) true else s

/-- ICU_SRC_CFG_WRITE (R482): ICU_SRC_CFG, or ICU_SRC_COAL where `coal`. -/
def execIcuSrcCfgWrite (m : Fin 16) (n : Fin 480) (coal : Bool) (v : BitVec 32) (s : State) : Res :=
  .next <| s.guardWrite m.val (0x40C01000 + n.val * 8 + (if coal then 4 else 0)) fun s =>
    if coal then s.wr Reg.ICU_SRC_COAL.TIME n.val v.toNat else s.srcCfgWrite n.val v.toNat

/-- A write of ICU_PCFG (R481, R483, R493): EN of a reserved source is ignored; a 1 clears PEND; enabling TIMER while it is asserted sets it pending. -/
def State.pcfgWrite (s : State) (c i v : Nat) : State :=
  let k := c * 32 + i
  let was := s.isSet Reg.ICU_PCFG.EN k
  let s := s.wr Reg.ICU_PCFG.LEVEL k v
  let s := if privateDefined c i then s.wr Reg.ICU_PCFG.EN k (v / 2 ^ 31) else s
  let s := if v.testBit 30 then s.wr Reg.ICU_PCFG.PEND k 0 else s
  if !was && s.isSet Reg.ICU_PCFG.EN k && s.levelOn c i then s.wr Reg.ICU_PCFG.PEND k 1 else s

/-- ICU_PCFG_WRITE (R481). -/
def execIcuPcfgWrite (c : CoreId) (i : Fin 32) (v : BitVec 32) (s : State) : Res :=
  .next <| if s.bankReached c.val then s.pcfgWrite c.val i.val v.toNat else s

end Sys2Proof.Machine
end

