-- ==== Sys2Proof/Machine/Mpu.lean ====
section
/-!
DEFINITION. Machine/Mpu.lean: the memory protection units of the policy cores (14, R495–R509): the decision on an access, the writes of their registers, and
tag fills.
-/

namespace Sys2Proof.Machine

/-- The permission that an access needs in a region (R498): `access` 0 fetch, 1 load, 2 store; at U or S. -/
def State.granted (s : State) (c r access : Nat) (user : Bool) : Bool :=
  let i := c * 16 + r
  s.isSet (match access, user with
    | 0, true => Reg.MPU_RGN_ATTR.UX | 0, false => Reg.MPU_RGN_ATTR.SX
    | 1, true => Reg.MPU_RGN_ATTR.UR | 1, false => Reg.MPU_RGN_ATTR.SR
    | _, true => Reg.MPU_RGN_ATTR.UW | _, false => Reg.MPU_RGN_ATTR.SW) i

/-- An address in the MPU registers of either policy core (R503). -/
def mpuRegister (a : Nat) : Bool := 0x40C03000 ≤ a && a < 0x40C03800

/-- The colour check of R499 order 5 (R505): a granule of tagged memory has another colour than `k`. -/
def State.colourDiffers (s : State) (c a k : Nat) : Bool := match s.colourAt c a with | some x => x != k | none => false

/-- The MPU's decision on an access of a policy core (R499, R501, R503): the cause of a refusal, or none. The Keeper has no MPU (R495). -/
def State.mpuCause (s : State) (c a access : Nat) : Option Nat :=
  let x := s.core c
  let user := x.priv = 0
  if 2 ≤ c then none
  else if !x.mpuEn then (if user then some 1 else none)
  else if user && mpuRegister a then some 4
  else match s.regionsAt c a with
    | [] => if user || !x.mpuPrivdef then some 2 else if s.colourDiffers c a 0 then some 5 else none
    | [r] => if !s.granted c r access user then some 4
        else if s.colourDiffers c a (s.rd Reg.MPU_RGN_ATTR.COLOUR (c * 16 + r)) then some 5 else none
    | _ => some 3

/-- The base of a policy core's MPU registers (R516). -/
def mpuBase (c : Nat) : Nat := 0x40C03000 + c * 0x400

/-- A write of MPU_CTRL (R502): what it sets takes force at the core's next FENCE. -/
def State.mpuCtrlWrite (s : State) (c v : Nat) : State := (s.wr Reg.MPU_CTRL.EN c v).wr Reg.MPU_CTRL.PRIVDEF c (v / 2)

/-- MPU_CTRL_WRITE (R502). -/
def execMpuCtrlWrite (m : Fin 16) (c : PCore) (v : BitVec 32) (s : State) : Res :=
  .next <| s.guardWrite m.val (mpuBase c.val) fun s => s.mpuCtrlWrite c.val v.toNat

/-- A write of region register `k` (0 BASE, 1 LIMIT, 2 ATTR) of region `r` (R502): ignored while MPU_CTRL.EN = 1. -/
def State.mpuRegionWrite (s : State) (c r k v : Nat) : State :=
  let i := c * 16 + r
  if s.isSet Reg.MPU_CTRL.EN c then s.wr Reg.MPU_STATUS.RGN_WR_IGNORED c 1
  else if k = 0 then s.wr Reg.MPU_RGN_BASE.ADDR i (v / 64)
  else if k = 1 then s.wr Reg.MPU_RGN_LIMIT.ADDR i (v / 64)
  else
    let s := (s.wr Reg.MPU_RGN_ATTR.EN i (v / 2 ^ 31)).wr Reg.MPU_RGN_ATTR.COLOUR i (v / 2 ^ 8)
    let s := ((s.wr Reg.MPU_RGN_ATTR.SX i (v / 32)).wr Reg.MPU_RGN_ATTR.SW i (v / 16)).wr Reg.MPU_RGN_ATTR.SR i (v / 8)
    ((s.wr Reg.MPU_RGN_ATTR.UX i (v / 4)).wr Reg.MPU_RGN_ATTR.UW i (v / 2)).wr Reg.MPU_RGN_ATTR.UR i v

/-- MPU_RGN_WRITE (R502). -/
def execMpuRgnWrite (m : Fin 16) (c : PCore) (r : Fin 16) (k : Fin 3) (v : BitVec 32) (s : State) : Res :=
  .next <| s.guardWrite m.val (mpuBase c.val + 0x100 + r.val * 0x10 + k.val * 4) fun s => s.mpuRegionWrite c.val r.val k.val v.toNat

/-- A write of MPU_TAG_SET (R506): GO starts a fill, or is refused. -/
def State.tagSetWrite (s : State) (c v : Nat) : State :=
  let n := v % 2 ^ 13
  if v / 2 ^ 31 % 2 = 0 then s
  else if s.isSet Reg.MPU_STATUS.TAG_BUSY c || 4096 < n then s.wr Reg.MPU_STATUS.TAG_ERR c 1
  else
    let f := (c, s.rd Reg.MPU_TAG_ADDR.ADDR c * 64, (if n = 0 then 4096 else n), v / 2 ^ 16 % 16)
    ({ s with cpu.fills := s.cpu.fills ++ [f] }).wr Reg.MPU_STATUS.TAG_BUSY c 1

/-- MPU_TAG_SET (R506). -/
def execMpuTagSet (m : Fin 16) (c : PCore) (v : BitVec 32) (s : State) : Res :=
  .next <| s.guardWrite m.val (mpuBase c.val + 0x14) fun s => s.tagSetWrite c.val v.toNat

/-- Why the check pass refuses a granule (R506). -/
def State.fillCause (s : State) (c a : Nat) : Option Nat :=
  if (s.colourAt c a).isNone then some 8
  else if !(s.core c).mpuEn then none
  else match s.regionsAt c a with
    | [] => some 2
    | [r] => if s.isSet Reg.MPU_RGN_ATTR.SW (c * 16 + r) then none else some 4
    | _ => some 3

/-- The first granule of a run that the check pass refuses, with its cause. -/
def State.fillCheck (s : State) (c a : Nat) : Nat → Option (Nat × Nat)
  | 0 => none
  | n + 1 => match s.fillCause c a with
    | some k => some (a, k)
    | none => s.fillCheck c (a + 64) n

/-- Set the colour of one granule (R504). -/
def State.setColour (s : State) (c a k : Nat) : State :=
  if 0x10000000 ≤ a ∧ a ≤ 0x1007FFFF then
    s.setCore c { s.core c with colours := Tab.store 0 ((a - 0x10000000) / 64) k (s.core c).colours }
  else { s with cpu.stagingColours := Tab.store 0 ((a - 0x20000000) / 64) k s.cpu.stagingColours }

/-- The set pass (R506). -/
def State.fillSet (s : State) (c a k : Nat) : Nat → State
  | 0 => s
  | n + 1 => (s.setColour c a k).fillSet c (a + 64) k n

/-- A fill reaches the staging colour store (R507): fills of the two cores there run one at a time, in the order of their GO writes. -/
def fillStaging (f : Nat × Nat × Nat × Nat) : Bool := 0x20000000 ≤ f.2.1

/-- TAG_FILL_DONE (R506, R507): the core's fill ends; where it has to wait for the other core's, nothing happens yet. -/
def execTagFillDone (c : PCore) (s : State) : Res :=
  .next <|
    match s.cpu.fills.find? fun f => f.1 = c.val with
    | none => s
    | some f =>
      if fillStaging f && (s.cpu.fills.find? fillStaging) != some f then s
      else
        let s := ({ s with cpu.fills := s.cpu.fills.erase f }).wr Reg.MPU_STATUS.TAG_BUSY c.val 0
        match s.fillCheck c.val f.2.1 f.2.2.1 with
        | some (a, k) => (s.wr Reg.MPU_STATUS.TAG_ERR c.val 1).mpuFault c.val a k 3
        | none => s.fillSet c.val f.2.1 f.2.2.2 f.2.2.1

/-- A core reset returns its MPU registers and TCM colours to reset and ends its fill (R504, R516). -/
def State.resetMpu (s : State) (c : Nat) : State :=
  let s := [Reg.MPU_CTRL.EN, Reg.MPU_CTRL.PRIVDEF, Reg.MPU_STATUS.TAG_BUSY, Reg.MPU_STATUS.TAG_ERR, Reg.MPU_STATUS.RGN_WR_IGNORED, Reg.MPU_FAULT.VALID,
    Reg.MPU_FAULT.OVER, Reg.MPU_FAULT.REGION2, Reg.MPU_FAULT.REGION, Reg.MPU_FAULT.CAUSE, Reg.MPU_FAULT.ACCESS, Reg.MPU_FAULT.PRIV,
    Reg.MPU_FAULT_ADDR.ADDR, Reg.MPU_TAG_ADDR.ADDR].foldl (fun (u : State) (f : Fld) => u.clr f c) s
  let s := (List.range 16).foldl (fun (t : State) (r : Nat) =>
    [Reg.MPU_RGN_BASE.ADDR, Reg.MPU_RGN_LIMIT.ADDR, Reg.MPU_RGN_ATTR.EN, Reg.MPU_RGN_ATTR.COLOUR, Reg.MPU_RGN_ATTR.SX, Reg.MPU_RGN_ATTR.SW,
      Reg.MPU_RGN_ATTR.SR, Reg.MPU_RGN_ATTR.UX, Reg.MPU_RGN_ATTR.UW, Reg.MPU_RGN_ATTR.UR].foldl (fun (u : State) (f : Fld) => u.clr f (c * 16 + r)) t) s
  { s with cpu.fills := s.cpu.fills.filter fun f => f.1 ≠ c }

/-- A core returns to its state after reset (12, R452; 13, R492; 14, R504): its TCM keeps its content. -/
def State.resetCore (s : State) (c : Nat) : State :=
  let s := (s.setCore c { Core.reset c with tcm := (s.core c).tcm }).resetBank c
  if c < 2 then s.resetMpu c else s

end Sys2Proof.Machine
end

