-- ==== Sys2Proof/Machine/Policy.lean ====
section
/-!
DEFINITION. Machine/Policy.lean: policy commands, their DMA and their completion (12, R462–R464), and the reset of a policy core (12, R458, R461; 13, R476, R492;
14, R504).
-/

namespace Sys2Proof.Machine

/-! ### Memory as the policy DMA engines and KCALL buffers see it -/

/-- A byte of the caller's TCM or of staging. -/
def State.peekByte (s : State) (c a : Nat) : Nat :=
  if 0x10000000 ≤ a ∧ a ≤ 0x1007FFFF then (Tab.getD (s.core c).tcm (a - 0x10000000) 0).toNat
  else (Tab.getD s.cpu.staging (a - 0x20000000) 0).toNat

/-- `n` bytes from an address on. -/
def State.peekBytes (s : State) (c a n : Nat) : List Nat := (List.range n).map fun i => s.peekByte c (a + i)

/-- A range lies wholly in a core's TCM. -/
def inTcm (a n : Nat) : Bool := 0x10000000 ≤ a && a + n ≤ 0x10080000

/-- A range lies wholly in the policy staging region (14, R496). -/
def State.inStaging (s : State) (a n : Nat) : Bool := 0x20000000 ≤ a && s.stgLow ≤ a && a + n ≤ 0x24000000

/-! ### A command enters a ring (R462) -/

/-- The policy core that serves an opcode. -/
def State.policyCore (s : State) (opc : Nat) : Nat := if (s.setting 0x9001).testBit (opc - 0xC0) then 1 else 0

/-- The core is HELD (R466). -/
def State.coreHeld (s : State) (c : Nat) : Bool := decide ((s.core c).run = .held)

/-- A tag that no outstanding command has: which one is a free value. -/
def State.freshTag (s : State) : Nat × State :=
  let d := s.draw
  let used := s.cpu.polCmds.map (·.tag)
  (((List.range (used.length + 1)).find? fun i => !used.contains ((d.1 + i) % 65536)).elim 0 (fun i => (d.1 + i) % 65536), d.2)

/-- The 64 bytes of an entry (02, R64). -/
def policyEntryBytes (e : Entry) : List Nat :=
  [e.opc.toNat, (if e.crcv then 1 else 0) + (if e.pv then 2 else 0) + 4 * e.rsv1.toNat] ++ leBytes e.cid.toNat 2 ++ leBytes e.ledger.toNat 2 ++
    leBytes e.sgcount.toNat 2 ++ leBytes (e.pasid.toNat + 2 ^ 20 * e.rsv8.toNat) 4 ++ leBytes e.length.toNat 4 ++ leBytes e.hcrc.toNat 4 ++
    leBytes e.rsv20.toNat 4 ++ leBytes e.dptr.toNat 8 ++ leBytes e.cdw.toNat 32

/-- Whether PHASE of the records of the core's present pass is 1. -/
def State.polPhase (s : State) (c : Nat) : Bool := if c = 0 then s.cpu.polPhase0 else s.cpu.polPhase1

/-- A command record (R462). -/
def State.commandRecord (s : State) (c : Nat) (p : PolCmd) : List Nat :=
  policyEntryBytes p.entry ++ leBytes p.tag 2 ++ [p.fn, p.q, s.fnTenant p.fn, if s.polPhase c then 1 else 0, 0, 0] ++ leBytes s.ticks 8 ++ leBytes 0 48

/-- The ring of a core is full. -/
def State.ringFull (s : State) (c : Nat) : Bool := (s.rd Reg.POL_CMDQ_PTR.TAIL c + 1) % 256 = s.rd Reg.POL_CMDQ_PTR.HEAD c

/-- The record of a command is written to the core's ring, and POLCMD is raised. -/
def State.pushCommand (s : State) (c : Nat) (p : PolCmd) : State :=
  let i := s.rd Reg.POL_CMDQ_PTR.TAIL c
  let base := s.rd Reg.POL_CMDQ_BASE.ADDR c * 32768 + i * 128
  let s := if inTcm base 128 then s.pokeBytes c base (s.commandRecord c p) else s
  let s := s.wr Reg.POL_CMDQ_PTR.TAIL c (i + 1)
  let s := if i = 255 then (if c = 0 then { s with cpu.polPhase0 := !s.cpu.polPhase0 } else { s with cpu.polPhase1 := !s.cpu.polPhase1 }) else s
  ({ s with cpu.polCmds := s.cpu.polCmds ++ [p] }).assertPrivate c 2

/-- POLICY_OPCODE (R462): the front entry with opcode 0xC0 to 0xFF. -/
def execPolicyOpcode (f : Fn) (q : Q) (s : State) : Res :=
  .next <|
    match s.front f.val q.val with
    | none => s
    | some y =>
      if y.e.opc.toNat < 0xC0 then s
      else s.frontCmd f.val q.val y.e.opc.toNat fun x s =>
        let c := s.policyCore x.e.opc.toNat
        if s.coreHeld c then (s.popFront f.val q.val).complete f.val q.val x.e.cid.toNat Status.OPCODE_INVALID 0 0
        else if s.ringFull c then s.event Ev.POL_RING_FULL
        else
          let t := s.freshTag
          (t.2.popFront f.val q.val).pushCommand c ⟨t.1, c, f.val, q.val, x.e.cid.toNat, x.e, x.sg⟩

/-! ### Policy DMA (R463) -/

/-- The outstanding command of a tag. -/
def State.polCmd (s : State) (tag : Nat) : Option PolCmd := s.cpu.polCmds.find? fun p => p.tag = tag

/-- A write of POL_DMA_CTRL. -/
def State.dmaCtrlWrite (s : State) (c v : Nat) : State :=
  if v % 2 = 0 || s.isSet Reg.POL_DMA_STATUS.BUSY c then s
  else
    let tag := v / 2 ^ 16 % 65536
    let n := s.rd Reg.POL_DMA_LEN.LEN c
    let n := if n = 0 then 1048576 else n
    let off := s.rd Reg.POL_DMA_OFFSET.OFFSET c
    match s.polCmd tag with
    | none => (s.wr Reg.POL_DMA_STATUS.ERR c 2).event Ev.POL_BAD_TAG
    | some p =>
      if p.entry.length.toNat < off + n then s.wr Reg.POL_DMA_STATUS.ERR c 1
      else
        ({ s with cpu.poldma := Tab.put c ⟨tag, v / 2 % 2, s.rd Reg.POL_DMA_LOCAL.ADDR c, off, n⟩ s.cpu.poldma }).wr Reg.POL_DMA_STATUS.BUSY c 1

/-- POL_DMA_GO (R463). -/
def execPolDmaGo (m : Fin 16) (c : PCore) (v : BitVec 32) (s : State) : Res :=
  .next <| s.guardWrite m.val (0x40C0002C + c.val * 0x100) fun s => s.dmaCtrlWrite c.val v.toNat

/-- The first address of a local range that the firewall denies the engine, with the rule; the TCM is its core's local path (14, R495, R511 rule 7). -/
def State.dmaDenied (s : State) (c a n : Nat) (write : Bool) : Option (Nat × Nat) :=
  if inTcm a n then none
  else (a :: (List.range 257).map fun k => (a / 4096 + k + 1) * 4096).findSome? fun x =>
    if x < a + n then (s.denied (5 + c) x write).map fun r => (x, r) else none

/-- A transfer ends: BUSY clears, ERR is set, POLDMA is raised. -/
def State.dmaEnd (s : State) (c err : Nat) : State :=
  let s : State := { s with cpu.poldma := Tab.del c s.cpu.poldma }
  ((s.wr Reg.POL_DMA_STATUS.BUSY c 0).wr Reg.POL_DMA_STATUS.ERR c err).assertPrivate c 3

/-- POL_DMA_DONE (R463): the transfer of a core ends; `data` is what the host reads gave. A tag cancelled meanwhile ends it with ERR 2;
a function in D3hot makes it wait (02, R47). -/
def execPolDmaDone (c : PCore) (how : LinkEnd) (data : List (BitVec 8)) (s : State) : Res :=
  .next <|
    match Tab.find c.val s.cpu.poldma with
    | none => s
    | some x =>
      match s.polCmd x.tag with
      | none => (s.dmaEnd c.val 2).event Ev.POL_BAD_TAG
      | some p =>
        if (s.fnRt p.fn).d3 then s
        else match s.dmaDenied c.val x.addr x.len (x.dir = 0) with
        | some (a, r) => (s.recordDenial (5 + c.val) a r (x.dir = 0)).dmaEnd c.val 3
        | none =>
          if how ≠ LinkEnd.ok then (s.linkError (portOf p.fn) how).dmaEnd c.val 3
          else if x.dir = 0 then
            ((s.addWrap Reg.HIF_PORT_RD_BYTES.BYTES (portOf p.fn) x.len).pokeBytes c.val x.addr ((data.take x.len).map (·.toNat))).dmaEnd c.val 0
          else (s.hostScatter p.fn (sgPart p.sg x.off x.len) (s.peekBytes c.val x.addr x.len)).dmaEnd c.val 0

/-! ### Completion (R464) -/

/-- A write of POL_CMD_DONE. -/
def State.cmdDoneWrite (s : State) (c v : Nat) : State :=
  match s.polCmd (v % 65536) with
  | none => s.event Ev.POL_BAD_TAG
  | some p =>
    let st := v / 2 ^ 16 % 65536
    let s : State := { s with cpu.polCmds := s.cpu.polCmds.filter fun y => y.tag ≠ p.tag }
    let s := if 0x8000 ≤ st then s.event Ev.POL_BAD_STATUS else s
    s.complete p.fn p.q p.cid (if 0x8000 ≤ st then Status.FIELD_INVALID else st) (s.rd Reg.POL_CMD_RES0.RES0 c) (s.rd Reg.POL_CMD_RES1.RES1 c)

/-- POL_CMD_DONE (R464). -/
def execPolCmdDone (m : Fin 16) (c : PCore) (v : BitVec 32) (s : State) : Res :=
  .next <| s.guardWrite m.val (0x40C0004C + c.val * 0x100) fun s => s.cmdDoneWrite c.val v.toNat

/-! ### Core reset (R458, R461, R464, R466) -/

/-- The KCALL slots of a core that is reset (R458): a pending request is gone; the result of a running one will be discarded. -/
def State.dropKcalls (s : State) (c : Nat) : State :=
  let mine (k : Nat) : Bool := decide (k / 4 = c)
  let running (k : Nat) : Bool := match Tab.find k s.cpu.kslots with | some x => x.state = 2 | none => false
  { s with
    cpu.korder := s.cpu.korder.filter fun k => !mine k || running k,
    cpu.kslots := Tab.mapVal (fun k (x : KSlot) => if mine k && x.state = 2 then { x with drop := true } else x)
      (Tab.keep (fun k (x : KSlot) => !mine k || x.state = 2) s.cpu.kslots) }

/-- Every tag routed to a core completes with ABORTED_BY_RESET (R464). -/
def State.abortTags (s : State) (c : Nat) : State :=
  let l := s.cpu.polCmds.filter fun p => p.core = c
  l.foldl (fun t p => t.complete p.fn p.q p.cid Status.ABORTED_BY_RESET 0 0) { s with cpu.polCmds := s.cpu.polCmds.filter fun p => p.core ≠ c }

/-- A policy core is held in reset. -/
def State.holdCore (s : State) (c : Nat) : State :=
  let s := (((s.wr Reg.POL_CORE_CTRL.RESET c 1).resetCore c).abortTags c).dropKcalls c
  let s : State := { s with cpu.poldma := Tab.del c s.cpu.poldma, set.laggards := s.set.laggards.filter fun x => !(x.1 = 5 && x.2 = c) }
  s.wr Reg.POL_DMA_STATUS.BUSY c 0

/-- A held policy core is released: it starts at its vector base, under the current settings epoch (R461; 13, R470). -/
def State.releaseCore (s : State) (c : Nat) : State :=
  (s.wr Reg.POL_CORE_CTRL.RESET c 0).setCore c { s.core c with run := .running, epochAck := s.epoch }

/-- A write of POL_CORE_CTRL. -/
def State.coreCtrlWrite (s : State) (c v : Nat) : State :=
  if v % 2 = 1 then s.holdCore c else if s.coreHeld c then s.releaseCore c else s

/-- POL_CORE_RESET (R464, R466; 13, R476). -/
def execPolCoreReset (m : Fin 16) (c : PCore) (v : BitVec 32) (s : State) : Res :=
  .next <| s.guardWrite m.val (0x40C00000 + c.val * 0x100) fun s => s.coreCtrlWrite c.val v.toNat

end Sys2Proof.Machine
end

