-- ==== Sys2Proof/Machine/Kcall.lean ====
section
/-!
DEFINITION. Machine/Kcall.lean: the Keeper's request slots and services (12, R456–R460; 05, R196; 10, R394–R398) and the lockstep pair (12, R453, R454).
A service runs when its row comes, on the request that is next in the order of GO writes; KCALL_DONE ends it.
-/

namespace Sys2Proof.Machine

/-- A request slot: core x 4 + slot. -/
def State.kslot (s : State) (i : Nat) : KSlot := Tab.getD s.cpu.kslots i ⟨0, [], 0, 0, 0, 0, [], false, false⟩

/-- Replace it. -/
def State.setKslot (s : State) (i : Nat) (x : KSlot) : State := { s with cpu.kslots := Tab.put i x s.cpu.kslots }

/-- An argument of a request. -/
def KSlot.arg (x : KSlot) (i : Nat) : Nat := x.args.getD i 0

/-- The slots whose request is PENDING or RUNNING (KPR_STATUS.PENDING). -/
def State.kcallsOpen (s : State) : Nat := (s.cpu.kslots.filter fun x => x.2.state = 1 || x.2.state = 2).length

/-- Some service is RUNNING. -/
def State.kcallRunning (s : State) : Bool := s.cpu.kslots.any fun x => x.2.state = 2

/-- The request of a slot ends (R457, R458): DONE, and KCALL_DONE is raised; that of a caller that was reset is discarded. -/
def State.finishKcall (s : State) (i : Nat) : State :=
  let x := s.kslot i
  let s := s.addWrap Reg.KPR_KCALL_COUNT.COUNT 0 1
  if x.drop then { s with cpu.kslots := Tab.del i s.cpu.kslots }
  else (s.setKslot i { x with state := 3 }).assertPrivate (i / 4) 0

/-- A write of GO = 1 (R457): ignored while PENDING or RUNNING; with the pair halted it ends with DEVICE_LOCKED (R454). -/
def State.goWrite (s : State) (i : Nat) : State :=
  let x := s.kslot i
  if x.state = 1 || x.state = 2 then s
  else
    let x : KSlot := { x with state := 1, result := 0, ret := [0, 0, 0, 0], ready := false, drop := false }
    if s.isSet Reg.KPR_STATUS.HALTED 0 then (s.setKslot i { x with result := Status.DEVICE_LOCKED }).finishKcall i
    else ({ s.setKslot i x with cpu.korder := s.cpu.korder ++ [i] } : State).assertPrivate 2 0

/-- KCALL_GO (R457). -/
def execKcallGo (c : PCore) (k : Fin 4) (s : State) : Res :=
  .next <| if s.mainOn && !s.coreHeld c.val then s.goWrite (c.val * 4 + k.val) else s

/-- The service numbers (R459). -/
def services : List Nat :=
  [0x01, 0x02, 0x10, 0x20, 0x21, 0x22, 0x23, 0x30, 0x31, 0x32, 0x33, 0x34, 0x35, 0x40, 0x50, 0x51, 0x52, 0x53]

/-- The next request leaves PENDING for RUNNING (R457; 13, R484). -/
def State.startKcall (s : State) (i : Nat) : State :=
  ({ s.setKslot i { s.kslot i with state := 2 } with cpu.korder := s.cpu.korder.tail } : State).assertShared 26

/-- KCALL_DONE (R457): a running service that has its result ends; so does a request in turn that names an unknown service (R458). -/
def execKcallDone (c : PCore) (k : Fin 4) (s : State) : Res :=
  .next <|
    let i := c.val * 4 + k.val
    let x := s.kslot i
    if x.state = 2 && x.ready then s.finishKcall i
    else if s.cpu.korder.head? = some i && !s.kcallRunning && !services.contains x.svc then
      ((s.startKcall i).kcallEnd c.val k.val Status.OPCODE_INVALID [0, 0, 0, 0]).finishKcall i
    else s

/-- The buffer of a request lies wholly in the caller's TCM or in the policy staging region (R457). -/
def State.bufOk (s : State) (x : KSlot) : Bool := x.blen = 0 || inTcm x.buf x.blen || s.inStaging x.buf x.blen

/-- Services executed in the one order of exclusive admin commands (R458; 03, R128). -/
def exclusiveService (svc : Nat) : Bool := svc = 0x01 || (0x20 ≤ svc && svc ≤ 0x23) || (0x50 ≤ svc && svc ≤ 0x53)

/-- A service row runs on the request that is next, where it names that service and none runs (R457): `run` has the core, the slot and the request. -/
def State.serve (s : State) (svc : Nat) (run : Nat → Nat → KSlot → State → State) : State :=
  if !s.mainOn || s.kcallRunning || (exclusiveService svc && s.set.excl) then s
  else match s.cpu.korder with
    | [] => s
    | i :: _ =>
      let x := s.kslot i
      if x.svc ≠ svc then s
      else
        let s := s.startKcall i
        if !s.bufOk x then s.kcallEnd (i / 4) (i % 4) Status.BUFFER_FAULT [0, 0, 0, 0] else run (i / 4) (i % 4) x s

/-- A service ends with a status and no results. -/
def State.kfail (s : State) (c k st : Nat) : State := s.kcallEnd c k st [0, 0, 0, 0]

/-! ### Settings and random numbers (R459) -/

/-- SETTING_SET (R459; 03, R128–R139, R647). -/
def execSettingSet (s : State) : Res :=
  .next <| s.serve 0x01 fun c k x s => s.changeSetting (.kcall c k) (x.arg 0) (x.arg 2 + 2 ^ 32 * x.arg 3) (x.arg 1 % 2 = 1)

/-- SETTING_GET (R459; 03, R129, R130). -/
def execSettingGet (s : State) : Res :=
  .next <| s.serve 0x02 fun c k x s =>
    match settingDef? (x.arg 0) with
    | none => s.kfail c k Status.FIELD_INVALID
    | some d =>
      match s.settingValue d (x.arg 1) with
      | none => s.kfail c k Status.FIELD_INVALID
      | some v => s.kcallEnd c k Status.SUCCESS [v % 2 ^ 32, v / 2 ^ 32, s.settingFlags d, 0]

/-- RANDOM (R459; 09, R350): the request waits for instance 3. -/
def execRandom (s : State) : Res :=
  .next <| s.serve 0x10 fun c k x s =>
    if 32 < x.arg 0 || x.blen = 0 || 65536 < x.blen || x.blen < x.arg 0 then s.kfail c k Status.FIELD_INVALID
    else ({ s with rng.reqs := s.rng.reqs ++ [(⟨.kcall c k x.buf, 0, x.blen, 0⟩ : RandReq)] }).refreshWaiting

/-- RANDOM_WAIT_TIMEOUT (R459): a RANDOM that has waited the time of setting 0x9002 ends with BUSY_RETRY. -/
def execRandomWaitTimeout (s : State) : Res :=
  .next <|
    match s.rng.reqs.find? fun r => match r.who with | .kcall _ _ _ => true | _ => false with
    | some r =>
      match r.who with
      | .kcall c k _ => (({ s with rng.reqs := s.rng.reqs.erase r }).refreshWaiting).kfail c k Status.BUSY_RETRY
      | _ => s
    | none => s

/-! ### Tenants (05, R194–R199) -/

/-- A tenant descriptor in a buffer (05, R195). -/
structure Descriptor where
  tenant : Nat
  openw : Nat
  extQuota : Nat
  ledQuota : Nat
  rankMask : Nat
  name : Nat
  rsvZero : Bool
  deriving DecidableEq, Repr

/-- A little-endian number from bytes. -/
def ofBytes : List Nat → Nat
  | [] => 0
  | b :: r => b + 256 * ofBytes r

/-- Read the descriptor at an address. -/
def State.readDescriptor (s : State) (c a : Nat) : Descriptor :=
  let n (o l : Nat) : Nat := ofBytes (s.peekBytes c (a + o) l)
  ⟨n 0 1, n 1 1, n 4 4, n 8 4, n 12 4, n 16 16, n 2 2 = 0 && n 32 32 = 0⟩

/-- Its fields are in range (05, R195). -/
def Descriptor.ok (d : Descriptor) : Bool :=
  1 ≤ d.tenant && d.openw ≤ 32 && 1 ≤ d.extQuota && d.extQuota ≤ extentSpace && 1 ≤ d.ledQuota && d.ledQuota ≤ 65536 && d.rankMask ≠ 0 && d.rsvZero

/-- The values of a descriptor in a tenant. -/
def State.describe (s : State) (x : Tenant) (d : Descriptor) : Tenant :=
  { x with openw := if d.openw = 0 then s.setting 0x4020 else d.openw, extQuota := d.extQuota, ledQuota := d.ledQuota, rankMask := d.rankMask,
           name := d.name }

/-- The image in use holds an owner escrow key (05, R199). -/
def State.hasEscrow (s : State) : Bool := match s.cfg.image with | some i => i.escrow ≠ 0 | none => false

/-- Free bytes: a ciphertext, a public key or a signature of a published algorithm (log entry 4). -/
def freeBytes (seed n : Nat) : List Nat := (List.range n).map fun i => Config.kdf seed [i] % 256

/-- A fresh escrow blob of a tenant (05, R197–R199): 5,184 bytes. -/
def State.escrowBlob (s : State) (t : Nat) : List Nat × State :=
  let d := s.random 1
  let key := (s.slot t).key
  let head := [0x43, 0x58, 0x45, 0x53, 1, 1, t, 0] ++ leBytes Config.serial 8 ++ leBytes (tkcv key) 8 ++ leBytes s.ticks 8 ++ freeBytes d.1 1665 ++
    leBytes 0 7 ++ freeBytes (Config.kdf d.1 [key]) 40
  let sig := Config.sign d.2.key.identity (d.1 :: head)
  (head ++ leBytes (Config.sign sig [1]) 96 ++ leBytes (Config.sign sig [2]) 3309 ++ leBytes 0 35, d.2)

/-- TENANT_CREATE (05, R196). -/
def execTenantCreate (s : State) : Res :=
  .next <| s.serve 0x20 fun c k x s =>
    let d := s.readDescriptor c x.buf
    if s.lifecycle ≠ 2 then s.kfail c k Status.LIFECYCLE_STATE
    else if x.blen ≠ 5248 || !d.ok || (s.tenant d.tenant).st ≠ 0 || !s.hasEscrow then s.kfail c k Status.FIELD_INVALID
    else
      let b := (s.createTenant d.tenant (s.describe Tenant.none d)).escrowBlob d.tenant
      (b.2.pokeBytes c (x.buf + 64) b.1).kcallEnd c k Status.SUCCESS [d.tenant, 0, 0, 0]

/-- TENANT_SET (05, R196): surplus positions of a narrower open set are sealed as their stripes close. -/
def execTenantSet (s : State) : Res :=
  .next <| s.serve 0x21 fun c k x s =>
    let d := s.readDescriptor c x.buf
    if s.lifecycle ≠ 2 then s.kfail c k Status.LIFECYCLE_STATE
    else if x.blen ≠ 64 || !d.ok || (s.tenant d.tenant).st = 0 then s.kfail c k Status.FIELD_INVALID
    else (((s.setTenant d.tenant (s.describe (s.tenant d.tenant) d)).sealSurplus d.tenant).event Ev.STR_TENANT_CHANGE).kfail c k Status.SUCCESS

/-- What keeps a tenant from being deleted (05, R196). -/
def State.tenantHeld (s : State) (t : Nat) : Bool :=
  t = 0 || 255 < t || (s.tenant t).st = 0 || ((List.range 256).any fun f => s.fnExists f && s.fnState f ≠ 0 && s.fnTenant f = t) ||
  (s.key.ext.any fun x => x.2.tenant = t && x.2.st ≠ .free && x.2.st ≠ .retired && !(x.2.st = .openE && x.2.next = 0)) ||
  s.led.tab.any fun x => x.2.st ≠ .free && x.2.tenant = t

/-- TENANT_DELETE (05, R192, R196): its empty OPEN extents return to FREE with their KEYGEN, and their bays are free. -/
def State.deleteTenant (s : State) (t : Nat) : State :=
  let es := (s.key.ext.filter fun x => x.2.tenant = t && x.2.st = .openE).map (·.1)
  let s := es.foldl (fun (u : State) (e : Nat) =>
    let x := u.ext e
    (u.freeBay x.rank x.bay).setExt e { x with st := .free, rank := 63, bay := 0, tenant := 0 }) s
  let s := (s.setSlot t ⟨0, 0, 0, 0, 0, 0⟩).setTenant t Tenant.none
  let s : State := { s with key.ucache := s.key.ucache.filter (· ≠ t), key.dkc := s.key.dkc.filter fun x => x.1 ≠ t }
  s.event Ev.STR_TENANT_CHANGE

/-- TENANT_DELETE (05, R196). -/
def execTenantDelete (s : State) : Res :=
  .next <| s.serve 0x22 fun c k x s =>
    if s.lifecycle ≠ 2 then s.kfail c k Status.LIFECYCLE_STATE
    else if s.tenantHeld (x.arg 0) then s.kfail c k Status.FIELD_INVALID
    else (s.deleteTenant (x.arg 0)).kfail c k Status.SUCCESS

/-- Ledger IDs a tenant holds. -/
def State.ledgersOf (s : State) (t : Nat) : Nat := (s.led.tab.filter fun x => x.2.st ≠ .free && x.2.tenant = t).length

/-- The 128 bytes of TENANT_QUERY (R459). -/
def State.tenantBytes (s : State) (t : Nat) : List Nat :=
  let x := s.tenant t
  [t, x.openw, 0, 0] ++ leBytes x.extQuota 4 ++ leBytes x.ledQuota 4 ++ leBytes x.rankMask 4 ++ leBytes x.name 16 ++ leBytes 0 32 ++
    [x.st, 0, 0, 0] ++ leBytes (s.tenantUse t) 4 ++ leBytes (s.ledgersOf t) 4 ++ leBytes 0 52

/-- TENANT_QUERY (05, R196). -/
def execTenantQuery (s : State) : Res :=
  .next <| s.serve 0x23 fun c k x s =>
    if s.lifecycle ≠ 2 then s.kfail c k Status.LIFECYCLE_STATE
    else if 255 < x.arg 0 || x.blen ≠ 128 then s.kfail c k Status.FIELD_INVALID
    else (s.pokeBytes c x.buf (s.tenantBytes (x.arg 0))).kfail c k Status.SUCCESS

/-! ### Policy keys (R460; 05, R187) -/

/-- The lowest free policy slot. -/
def State.freeSlot (s : State) : Option Nat := ((List.range 3840).map (· + 256)).find? fun n => (s.slot n).ty = 0

/-- The check value of a policy key (05, R187; log entry 4). -/
def policyCheck (key : Nat) : Nat := Config.kdf key [0x504B4356] % 2 ^ 64

/-- KEY_GENERATE (R459, R460): without a KEK no key can be wrapped. -/
def execKeyGenerate (s : State) : Res :=
  .next <| s.serve 0x30 fun c k x s =>
    if 8 ≤ x.arg 0 then s.kfail c k Status.FIELD_INVALID
    else if s.key.kek = 0 then s.kfail c k Status.KEY_UNAVAILABLE
    else match s.freeSlot with
      | none => s.kfail c k Status.QUOTA_EXCEEDED
      | some n =>
        let d := s.random 0
        (d.2.setSlot n ⟨2, c, 0, x.arg 0, d.1, policyCheck d.1⟩).kcallEnd c k Status.SUCCESS [n, 0, 0, 0]

/-- Why a key service is refused for its slot (R460): a slot out of range, one not owned by the caller or a use not allowed, a key without its KEK. -/
def State.keyRefused (s : State) (c n use : Nat) : Option Nat :=
  let x := s.slot n
  if n < 256 || 4096 ≤ n then some Status.FIELD_INVALID
  else if x.ty ≠ 2 || x.owner ≠ c || x.usage &&& use ≠ use then some Status.NOT_AUTHORISED
  else if s.key.kek = 0 then some Status.KEY_UNAVAILABLE
  else none

/-- KEY_DELETE (R459): the slot is empty; deleting needs no KEK. -/
def execKeyDelete (s : State) : Res :=
  .next <| s.serve 0x31 fun c k x s =>
    match s.keyRefused c (x.arg 0) 0 with
    | some st =>
      if st = Status.KEY_UNAVAILABLE then ((s.setSlot (x.arg 0) ⟨0, 0, 0, 0, 0, 0⟩)).kfail c k Status.SUCCESS else s.kfail c k st
    | none =>
      let s := s.setSlot (x.arg 0) ⟨0, 0, 0, 0, 0, 0⟩
      ({ s with key.ucache := s.key.ucache.filter (· ≠ x.arg 0) } : State).kfail c k Status.SUCCESS

/-- AES-256-GCM encryption and decryption of bytes in counter mode (log entry 4). -/
def gcmStream (key iv : Nat) (l : List Nat) : List Nat := (List.range l.length).map fun i => l.getD i 0 ^^^ (Config.kdf key [0x47434D, iv, i] % 256)

/-- KEY_SEAL (R459): IV, ciphertext and tag over the buffer. -/
def execKeySeal (s : State) : Res :=
  .next <| s.serve 0x32 fun c k x s =>
    if x.blen < 28 || 65564 < x.blen then s.kfail c k Status.FIELD_INVALID
    else match s.keyRefused c (x.arg 0) 1 with
      | some st => s.kfail c k st
      | none =>
        let d := s.random 3
        let key := (s.slot (x.arg 0)).key
        let iv := d.1 % 2 ^ 96
        let ct := gcmStream key iv (s.peekBytes c (x.buf + 12) (x.blen - 28))
        let tag := Config.gcmTag key iv ct % 2 ^ 128
        ((d.2.unwrap (x.arg 0)).pokeBytes c x.buf (leBytes iv 12 ++ ct ++ leBytes tag 16)).kfail c k Status.SUCCESS

/-- KEY_OPEN (R459): the plaintext in place; on a tag failure the data is zeroed. -/
def execKeyOpen (s : State) : Res :=
  .next <| s.serve 0x33 fun c k x s =>
    if x.blen < 28 || 65564 < x.blen then s.kfail c k Status.FIELD_INVALID
    else match s.keyRefused c (x.arg 0) 2 with
      | some st => s.kfail c k st
      | none =>
        let key := (s.slot (x.arg 0)).key
        let iv := ofBytes (s.peekBytes c x.buf 12)
        let ct := s.peekBytes c (x.buf + 12) (x.blen - 28)
        let tag := ofBytes (s.peekBytes c (x.buf + x.blen - 16) 16)
        let s := s.unwrap (x.arg 0)
        if Config.gcmTag key iv ct % 2 ^ 128 = tag then (s.pokeBytes c (x.buf + 12) (gcmStream key iv ct)).kfail c k Status.SUCCESS
        else (s.pokeBytes c (x.buf + 12) (List.replicate (x.blen - 28) 0)).kfail c k Status.SEAL_MISMATCH

/-- The CMAC of a buffer under a policy key (R459; log entry 4). -/
def State.bufferCmac (s : State) (c : Nat) (x : KSlot) : Nat := Config.cmac (s.slot (x.arg 0)).key (s.peekBytes c x.buf x.blen) % 2 ^ 128

/-- KEY_CMAC (R459). -/
def execKeyCmac (s : State) : Res :=
  .next <| s.serve 0x34 fun c k x s =>
    if 65536 < x.blen then s.kfail c k Status.FIELD_INVALID
    else match s.keyRefused c (x.arg 0) 4 with
      | some st => s.kfail c k st
      | none =>
        let t := s.bufferCmac c x
        (s.unwrap (x.arg 0)).kcallEnd c k Status.SUCCESS ((List.range 4).map fun i => t / 2 ^ (32 * i) % 2 ^ 32)

/-- KEY_CMAC_VERIFY (R459). -/
def execKeyCmacVerify (s : State) : Res :=
  .next <| s.serve 0x35 fun c k x s =>
    if 65536 < x.blen then s.kfail c k Status.FIELD_INVALID
    else match s.keyRefused c (x.arg 0) 4 with
      | some st => s.kfail c k st
      | none =>
        let t := s.bufferCmac c x
        let good := (List.range 4).all fun i => t / 2 ^ (32 * i) % 2 ^ 32 = x.arg (1 + i)
        (s.unwrap (x.arg 0)).kfail c k (if good then Status.SUCCESS else Status.SEAL_MISMATCH)

/-- The operation codes of a verification (06, R649): big-number and NTT datapath; an RSA key by the length of its signature. -/
def verifyOp (alg sigLen : Nat) : Option (Nat × Nat) :=
  if alg = 1 then some (0x06, 0) else if alg = 2 then some (0x02, 0)
  else if alg = 3 ∨ alg = 4 then
    (if sigLen = 256 then some (0x07, 0) else if sigLen = 384 then some (0x08, 0) else if sigLen = 512 then some (0x09, 0) else none)
  else if alg = 5 then some (0, 0x11) else none

/-- PK_VERIFY (R458, R459; 06, R251): a KCALL job of the PKE. -/
def execPkVerify (s : State) : Res :=
  .next <| s.serve 0x40 fun c k x s =>
    match verifyOp (x.arg 0) (x.arg 3) with
    | none => s.kfail c k Status.FIELD_INVALID
    | some (op, ntt) =>
      if x.blen < x.arg 1 + x.arg 2 + x.arg 3 || (x.arg 0 ≠ 5 && x.arg 2 ≠ 48) then s.kfail c k Status.FIELD_INVALID
      else if 32 ≤ s.scv.jobs.length then s.kfail c k Status.BUSY_RETRY
      else s.queueJob ⟨3, op, ntt, .kcall c k⟩

/-! ### Life-cycle services (10, R394–R398) -/

/-- Program fuse words in order; with a failure at word number `n` of them the words before it stay programmed (10, R388). -/
def State.programFuses (s : State) (ws : List (Nat × Nat)) (fail : Option Nat) : State :=
  (match fail with | some n => ws.take n | none => ws).foldl
    (fun (t : State) (w : Nat × Nat) => { t with cfg.fuses := Tab.put w.1 (t.fuse w.1 ||| w.2) t.cfg.fuses }) s

/-- The words of a number. -/
def wordsOf (base count v : Nat) : List (Nat × Nat) := (List.range count).map fun i => (base + i, v / 2 ^ (32 * i) % 2 ^ 32)

/-- A fuse bit that cannot be programmed ends a service with its error: which status that is, the spec does not say, so it is a free value. -/
def State.fuseError (s : State) (c k : Nat) : State := let d := s.draw; d.2.kfail c k (d.1 % 65536)

/-- LC_PROVISION (10, R394, R395). -/
def execLcProvision (fuseFail : Option Nat) (s : State) : Res :=
  .next <| s.serve 0x50 fun c k x s =>
    let dig := ofBytes (s.peekBytes c x.buf 96)
    if s.lifecycle ≠ 0 then s.kfail c k Status.LIFECYCLE_STATE
    else if x.blen ≠ 2145 || dig = 0 then s.kfail c k Status.FIELD_INVALID
    else if s.rngState ≠ 2 then s.kfail c k Status.ENTROPY_UNAVAILABLE
    else if (List.range 8).any fun i => s.fuse (8 + i) ≠ 0 then s.kfail c k Status.LIFECYCLE_STATE
    else
      let d := s.random 0
      let f := d.1 % 2 ^ 256
      let h := d.2.random 0
      let ws := wordsOf 8 8 f ++ wordsOf 64 256 h.1 ++ wordsOf 16 24 dig ++ [(3, 1)]
      let s := h.2.programFuses ws fuseFail
      let s : State := { s with key.fuseF := match fuseFail with | some n => f % 2 ^ (32 * n) | none => f }
      if fuseFail.isSome then s.fuseError c k
      else
        let s := ({ s with key.rk := s.rootKey }).wr Reg.STR_STATUS.RK_VALID 0 1
        let a := s.random 0
        let b := a.2.random 0
        let s : State := { b.2 with key.identity := a.1, key.restoreKey := b.1, cfg.record.identity := true }
        let s := s.wr Reg.DEV_STATUS.LIFECYCLE 0 1
        (s.pokeBytes c (x.buf + 96) (freeBytes (Config.kdf a.1 [1]) 97 ++ freeBytes (Config.kdf a.1 [2]) 1952)).kfail c k Status.SUCCESS

/-- LC_INSTALL_CERT (10, R396): a certificate of the same issuer for the same key is replaced. -/
def execLcInstallCert (v : CertCheck) (s : State) : Res :=
  .next <| s.serve 0x51 fun c k x s =>
    if s.lifecycle ≠ 1 && s.lifecycle ≠ 2 then s.kfail c k Status.LIFECYCLE_STATE
    else if s.lifecycle = 2 && !s.quorum then s.kfail c k Status.QUORUM_REQUIRED
    else if 1 < x.arg 0 || x.blen = 0 || 8192 < x.blen then s.kfail c k Status.FIELD_INVALID
    else match v.verifies || x.arg 0 = 1, v.key with
      | true, some i =>
        let tag := (x.arg 0, i.val)
        let old := s.scv.certOf.zip s.scv.certs
        let kept := old.filter fun y => y.1 ≠ tag
        let l := kept ++ [(tag, s.peekBytes c x.buf x.blen)]
        ({ s with scv.certOf := l.map (·.1), scv.certs := l.map (·.2) } : State).kfail c k Status.SUCCESS
      | _, _ => s.kfail c k Status.FIELD_INVALID

/-- What LC_DEPLOY requires (10, R397). -/
def State.deployable (s : State) : Bool :=
  s.hasEscrow && (match s.cfg.image with | some i => i.kind = 2 | none => false) && s.scv.certOf.contains (0, 0) && s.scv.certOf.contains (0, 1) &&
    s.crd.cards ≠ []

/-- LC_DEPLOY (10, R397; 05, R184, R185, R194). -/
def execLcDeploy (fuseFail : Bool) (s : State) : Res :=
  .next <| s.serve 0x52 fun c k _ s =>
    if s.lifecycle ≠ 1 || !s.deployable then s.kfail c k Status.LIFECYCLE_STATE
    else if fuseFail then s.fuseError c k
    else
      let s := s.programFuses [(3, 2)] none
      let d := s.random 0
      let kek := deriveKek d.2.key.rk d.1
      let s : State := { d.2 with key.secretS := d.1, key.kek := kek, key.kcv := some (kcvOf kek) }
      let s := ((s.wr Reg.STR_STATUS.KEK_VALID 0 1).wr Reg.STR_STATUS.KEK_LOST 0 0).wr Reg.DEV_STATUS.LIFECYCLE 0 2
      let s := s.createTenant 0 { Tenant.none with openw := s.setting 0x4020, extQuota := extentSpace, ledQuota := 65536, rankMask := 0xFFFFFFFF }
      s.kfail c k Status.SUCCESS

/-- Keys are erased for good (10, R398). -/
def State.retireKeys (s : State) : State :=
  let s := (s.eraseCache).eraseKek
  let s := (List.range 4096).foldl (fun (t : State) (n : Nat) => t.setSlot n ⟨255, 0, 0, 0, 0, 0⟩) s
  { s with key.restoreKey := 0 }

/-- LC_RETIRE (10, R394, R398; 14, R514). -/
def execLcRetire (fuseFail : Bool) (s : State) : Res :=
  .next <| s.serve 0x53 fun c k _ s =>
    if s.lifecycle = 0 || s.lifecycle = 4 then s.kfail c k Status.LIFECYCLE_STATE
    else if s.lifecycle ≠ 1 && !s.quorum then s.kfail c k Status.QUORUM_REQUIRED
    else
      let s := s.retireKeys
      if fuseFail then s.fuseError c k
      else (((s.programFuses [(3, 4)] none).wr Reg.DEV_STATUS.LIFECYCLE 0 4).keeperWindows true).kfail c k Status.SUCCESS

/-! ### The lockstep pair (R453, R454; 13, R476) -/

/-- Every request pending or running ends with ABORTED_BY_TAMPER (R454). -/
def State.abortKcalls (s : State) : State :=
  let l := (s.cpu.kslots.filter fun x => x.2.state = 1 || x.2.state = 2).map (·.1)
  let kc (w : SetIssuer) : Bool := match w with | .kcall _ _ => true | _ => false
  let wait := s.set.waiting.filter fun w => !kc w.who
  let s : State := { s with
    cpu.korder := [], set.waiting := wait, set.excl := wait ≠ [] && s.set.excl,
    rng.reqs := s.rng.reqs.filter fun r => match r.who with | .kcall _ _ _ => false | _ => true,
    scv.jobs := s.scv.jobs.filter fun j => match j.who with | .kcall _ _ => false | _ => true }
  l.foldl (fun (t : State) (i : Nat) => (t.setKslot i { t.kslot i with result := Status.ABORTED_BY_TAMPER, ret := [0, 0, 0, 0] }).finishKcall i) s

/-- The pair is restarted from the ROM, or, within 1 s of the last restart or where the self-test fails, halted until cold reset (R454; 13, R476,
R492). -/
def State.restartKeeper (s : State) (selfTest : Bool) : State :=
  let again := s.cpu.lastMismatch ≠ 0 && s.ticks ≤ s.cpu.lastMismatch - 1 + 32768
  let s := ((s.abortKcalls).resetCore 2).addSat Reg.KPR_STATUS.RESTARTS 0 1
  let s : State := { s with cpu.lastMismatch := s.ticks + 1 }
  if again || !selfTest then
    ((s.wr Reg.KPR_STATUS.HALTED 0 1).wr Reg.KPR_STATUS.RUNNING 0 0).setCore 2 { s.core 2 with run := .held }
  else s.wr Reg.KPR_STATUS.RUNNING 0 1

/-- LOCKSTEP_MISMATCH (R454): tamper source 18, then the restart. -/
def execLockstepMismatch (selfTest : Bool) (s : State) : Res :=
  .next <|
    if !s.mainOn || s.isSet Reg.KPR_STATUS.HALTED 0 then s
    else ((s.addSat Reg.KPR_MISMATCH.COUNT 0 1).tamper 18 0).restartKeeper selfTest

end Sys2Proof.Machine
end

