-- ==== Sys2Proof/Machine/Npl.lean ====
section
/-!
DEFINITION. Machine/Npl.lean: the Nameplate tag (18): its ISO/IEC 14443-3 states, the Sirmin commands, authentication, the pages and their updates, its
registers. Bytes go out with their CRC_A where R589 puts one.
-/

namespace Sys2Proof.Machine

/-! ### Frames (R589, R590) -/

/-- One bit of CRC_A (ISO/IEC 14443-3; log entry 20). -/
def crcABit (c b : Nat) : Nat := if (c + b) % 2 = 1 then (c / 2) ^^^ 0x8408 else c / 2

/-- CRC_A of bytes. -/
def crcA (l : List Nat) : Nat :=
  l.foldl (fun (c : Nat) (b : Nat) => (List.range 8).foldl (fun (c : Nat) (i : Nat) => crcABit c (b / 2 ^ i % 2)) c) 0x6363

/-- The tag sends a frame. -/
def State.tagSend (s : State) (l : List Nat) : State := s.send (.nfc l)

/-- The tag sends a frame with CRC_A. -/
def State.tagReply (s : State) (l : List Nat) : State := s.tagSend (l ++ leBytes (crcA l) 2)

/-- UID0 to UID6 (R590). -/
def tagUid : List Nat := Config.icCode % 256 :: leBytes Config.serial 6

/-- The five bytes of a cascade level: CT and UID0 to UID2, or UID3 to UID6, and BCC (R590). -/
def cascadeBytes (level2 : Bool) : List Nat :=
  let l := if level2 then tagUid.drop 3 else 0x88 :: tagUid.take 3
  l ++ [l.foldl (fun (a : Nat) (b : Nat) => a ^^^ b) 0]

/-- The bits of a cascade level as one number, in the order of transmission from bit 0. -/
def cascadeBits (level2 : Bool) : Nat :=
  (cascadeBytes level2).foldr (fun (b : Nat) (v : Nat) => b + 256 * v) 0

/-- An NPL event, in ACTIVE and READY (R587). -/
def State.nplEvent (s : State) (e : Ev) : State := if s.mainOn then s.event e else s

/-- The tag takes another state; authentication ends (R592). -/
def State.tagTo (s : State) (x : TagState) : State := { s with npl.tag := x, npl.level1 := false, npl.auth := false, npl.auth1 := none }

/-- A frame that the state does not expect (R592; ISO/IEC 14443-3 for the states before selection, log entry 20): no reply. -/
def State.tagError (s : State) : State :=
  match s.npl.tag with
  | .ready | .active => s.tagTo .idle
  | .readyS | .activeS => s.tagTo .halt
  | _ => s

/-- A frame of the field reaches the tag: none while setting 0x8013 is 0 (R588) or without a field. -/
def State.tagFrame (s : State) (run : State → State) : State := if s.npl.fieldOn = 0 || s.npl.tag = .off then s else run s

/-- The tag is selected. -/
def State.selected (s : State) : Bool := s.npl.tag = .active || s.npl.tag = .activeS

/-- A Sirmin command: answered in ACTIVE and ACTIVE*, an unexpected frame elsewhere (R592). -/
def State.tagCommand (s : State) (run : State → State) : State := s.tagFrame fun s => if s.selected then run s else s.tagError

/-- NFC_FIELD_ON (R587, R592). -/
def execNfcFieldOn (s : State) : Res :=
  .next <| if s.npl.tag ≠ .off then s else (s.tagTo .idle).nplEvent Ev.NPL_FIELD_ON

/-- NFC_FIELD_LOST (R592). -/
def execNfcFieldLost (s : State) : Res := .next (s.tagTo .off)

/-- ATQA 0x0042 (R589). -/
def State.atqa (s : State) : State := s.tagSend [0x42, 0x00]

/-- REQA (R589, R592). -/
def execReqa (s : State) : Res :=
  .next <| s.tagFrame fun s =>
    match s.npl.tag with
    | .idle => (s.tagTo .ready).atqa
    | .halt => s
    | _ => s.tagError

/-- WUPA (R589, R592). -/
def execWupa (s : State) : Res :=
  .next <| s.tagFrame fun s =>
    match s.npl.tag with
    | .idle => (s.tagTo .ready).atqa
    | .halt => (s.tagTo .readyS).atqa
    | _ => s.tagError

/-- ANTICOLLISION (R590) with `n` bits known: the tag answers with the rest of the level's 40 bits where the known bits are its own. -/
def execAnticollision (level2 : Bool) (n : Fin 41) (known : BitVec 40) (s : State) : Res :=
  .next <| s.tagFrame fun s =>
    let bits := cascadeBits level2
    if s.npl.tag ≠ .ready && s.npl.tag ≠ .readyS then s.tagError
    else if s.npl.level1 = level2 && known.toNat % 2 ^ n.val = bits % 2 ^ n.val then s.tagSend (leBytes (bits / 2 ^ n.val) ((47 - n.val) / 8))
    else s.tagError

/-- NFC_SELECT (R589, R590): SAK 0x04 at level 1, 0x00 at level 2. -/
def execNfcSelect (level2 : Bool) (uid : BitVec 40) (s : State) : Res :=
  .next <| s.tagFrame fun s =>
    if (s.npl.tag = .ready || s.npl.tag = .readyS) && s.npl.level1 = level2 && uid.toNat = cascadeBits level2 then
      if level2 then (s.tagTo (if s.npl.tag = .ready then .active else .activeS)).tagReply [0x00]
      else ({ s with npl.level1 := true } : State).tagReply [0x04]
    else s.tagError

/-- HLTA (R592). -/
def execHlta (s : State) : Res := .next <| s.tagFrame fun s => if s.selected then s.tagTo .halt else s.tagError

/-- NFC_INVALID_FRAME (R592); a Sirmin command of unknown code is answered with COMMAND (R600). -/
def execNfcInvalidFrame (how : BadFrame) (s : State) : Res :=
  .next <|
    match how with
    | .invalid => s.tagFrame State.tagError
    | .unknownCode => s.tagCommand fun s => s.tagReply [0x01]

/-! ### The FRAM (R593, R594) -/

/-- The current copy of a page: 0 A, 1 B. -/
def State.tagSel (s : State) (p : Nat) : Nat := Tab.getD s.npl.sel p 0

/-- The version of a page. -/
def State.tagVer (s : State) (p : Nat) : Nat := Tab.getD s.npl.ver p 0

/-- A byte of the current copy of a page. -/
def State.tagByte (s : State) (p i : Nat) : Nat := (Tab.getD s.npl.fram ((2 * p + s.tagSel p) * 256 + i) 0).toNat

/-- The current copy of a page. -/
def State.tagPage (s : State) (p : Nat) : List Nat := (List.range 256).map (s.tagByte p)

/-- Write bytes into a copy of a page. -/
def State.framWrite (s : State) (p copy i : Nat) (l : List Nat) : State :=
  { s with npl.fram := (List.range l.length).foldl (fun (t : Tab Byte) (k : Nat) =>
      Tab.store 0 ((2 * p + copy) * 256 + i + k) (BitVec.ofNat 8 (l.getD k 0)) t) s.npl.fram }

/-! ### Sirmin commands (R600, R601) -/

/-- READ16: the checks in the order of R600's statuses. -/
def execRead16 (addr : BitVec 16) (lengthOk : Bool) (s : State) : Res :=
  .next <| s.tagCommand fun s =>
    let a := addr.toNat
    let p := a / 256
    if !lengthOk then s.tagReply [0x01]
    else if a % 16 ≠ 0 || 3840 ≤ a then s.tagReply [0x02]
    else if 5 ≤ p && !s.npl.auth && s.npl.logsFree = 0 then s.tagReply [0x03]
    else s.tagReply ([0x00, s.tagVer p % 256] ++ (List.range 16).map fun i => s.tagByte p (a % 256 + i))

/-- The page is under lock (R598, R599). -/
def State.pageLocked (s : State) (p : Nat) : Bool := match s.npl.lock with | some l => l.page = p | none => false

/-- WRITE4 (R601). -/
def execWrite4 (addr : BitVec 16) (data : BitVec 32) (lengthOk : Bool) (power : TagPower) (s : State) : Res :=
  .next <| s.tagCommand fun s =>
    let a := addr.toNat
    if !lengthOk then s.tagReply [0x01]
    else if a % 4 ≠ 0 || a < 1152 || 1276 < a then s.tagReply [0x02]
    else if !s.npl.auth then s.tagReply [0x03]
    else if s.pageLocked 4 then s.tagReply [0x04]
    else if power = .fieldLow then s.tagReply [0x05]
    else if s.npl.memoOn = 0 then s.tagReply [0x07]
    else
      let s := s.framWrite 4 (s.tagSel 4) (a % 256) (leBytes data.toNat 4)
      (({ s with npl.memos := min (s.npl.memos + 1) 0xFFFFFFFF } : State).nplEvent Ev.NPL_MEMO_WRITTEN).tagReply [0x00]

/-- GET_INFO (R600). -/
def execGetInfo (lengthOk : Bool) (power : TagPower) (s : State) : Res :=
  .next <| s.tagCommand fun s =>
    if !lengthOk then s.tagReply [0x01]
    else
      let flags := (if s.npl.key ≠ 0 then 1 else 0) + (if s.npl.logsFree ≠ 0 then 2 else 0) + (if s.npl.memoOn ≠ 0 then 4 else 0) +
        (if power = .aon then 8 else 0) + (if s.npl.auth then 16 else 0)
      s.tagReply ([0x00, 0x43, 0x58, 0x4E, 0x50, 1, s.lifecycle, flags, 15] ++ leBytes s.npl.ctr 4 ++ leBytes s.npl.fails 4)

/-! ### Authentication (R603) -/

/-- The first 8 bytes of the CMAC of a token under the reader key: `tag` 0x54 for TT, 0x52 for TR (log entry 4). -/
def State.tagToken (s : State) (tag rnd : Nat) : Nat :=
  Config.cmac s.npl.key ([tag] ++ tagUid ++ leBytes s.npl.ctr 4 ++ leBytes rnd 8) % 2 ^ 64

/-- AUTH1 (R601, R603). It ends the authenticated session (log entry 21). -/
def execAuth1 (rndR : BitVec 64) (lengthOk : Bool) (power : TagPower) (s : State) : Res :=
  .next <| s.tagCommand fun s =>
    if !lengthOk then s.tagReply [0x01]
    else
      let s : State := { s with npl.auth := false, npl.auth1 := none }
      if power = .fieldLow then s.tagReply [0x05]
      else if s.npl.key = 0 || 0xFFFFFFFF ≤ s.npl.ctr then s.tagReply [0x07]
      else
        let s : State := { s with npl.ctr := s.npl.ctr + 1, npl.auth1 := some rndR.toNat }
        s.tagReply ([0x00] ++ leBytes s.npl.ctr 4 ++ leBytes (s.tagToken 0x54 rndR.toNat) 8)

/-- AUTH2 (R603). -/
def execAuth2 (tr : BitVec 64) (lengthOk : Bool) (s : State) : Res :=
  .next <| s.tagCommand fun s =>
    if !lengthOk then s.tagReply [0x01]
    else match s.npl.auth1 with
      | none => s.tagReply [0x06]
      | some r =>
        let ok := tr.toNat = s.tagToken 0x52 r
        let s : State := { s with npl.auth1 := none }
        if !ok then
          (({ s with npl.fails := min (s.npl.fails + 1) 0xFFFFFFFF } : State).nplEvent Ev.NPL_AUTH_FAIL).tagReply [0x06]
        else if s.npl.key = 0 then s.tagReply [0x07]
        else (({ s with npl.auth := true } : State).nplEvent Ev.NPL_AUTH_OK).tagReply [0x00]

/-! ### What the pages say (R594–R596) -/

/-- The page header (R595). -/
def pageHeader (p : Nat) : List Nat := [0x43, 0x58, 0x4E, 0x50, 1, p, 0, 0]

/-- A page of 256 bytes. -/
def pagePad (l : List Nat) : List Nat := l ++ List.replicate (256 - l.length) 0

/-- SHA-384 of a device identity public key: 0 ECDSA P-384, 1 ML-DSA-65 (log entry 4). -/
def State.identityHash (s : State) (k : Nat) : Nat := Config.sha384 [s.key.identity, k]

/-- Page 0 as it would be written now (R595). -/
def State.pageIdentity (s : State) : List Nat :=
  pagePad (pageHeader 0 ++ [s.lifecycle, s.rd Reg.DEV_ID.VARIANT 0] ++ leBytes 0 6 ++ leBytes Config.serial 8 ++ [s.rd Reg.DEV_ID.VARIANT 0, s.rd Reg.DEV_ID.REV 0] ++ leBytes (s.rd Reg.DEV_ID.DEVICE 0) 2 ++
    tagUid ++ [0] ++ leBytes (s.rd Reg.KPR_VERSION.FW 0) 2 ++ leBytes (s.rd Reg.KPR_VERSION.ROM 0) 2 ++ leBytes (s.identityHash 0) 48 ++ leBytes (s.identityHash 1) 48 ++ leBytes s.ticks 8)

/-- Twelve 32-bit register words as 48 bytes. -/
def State.words12 (s : State) (f : Fld) : List Nat := (List.range 12).flatMap fun i => leBytes (s.rd f i) 4

/-- Page 1 as it would be written now (R595). -/
def State.pageConfig (s : State) : List Nat :=
  pagePad (pageHeader 1 ++ s.words12 Reg.DEV_CFG_DIGEST.DIGEST ++ leBytes (s.rd Reg.DEV_SETTINGS_EPOCH.EPOCH 0) 4 ++
    leBytes (s.rd Reg.DEV_ARCHIVE_EPOCH.EPOCH 0) 4 ++ leBytes (match s.cfg.image with | some i => i.seq | none => 0) 8 ++
    s.words12 Reg.PTR_IMG_DIGEST.DIGEST ++ leBytes s.ticks 8)

/-- Page 2 for a signed batch (R594). -/
def pageBatch (b : Batch) : List Nat := pagePad (batchHeader b ++ leBytes (Config.sign (b.signed.getD 0) [1]) 96)

/-- Page 3 as it would be written now (R596). FLAGS[2] is 1 from the second write after an AON reset on (log entry 22). -/
def State.pageTamper (s : State) : List Nat :=
  let flags := (if s.isSet Reg.TMP_STATUS.LOCK_FLAG 0 then 1 else 0) + (if s.rd Reg.TMP_ALARM.ALARM 0 ≠ 0 then 2 else 0) +
    (if s.npl.page3Written then 4 else 0)
  pagePad (pageHeader 3 ++ [flags, s.rd Reg.TMP_LOG_HEAD.NEXT 0, s.rd Reg.TMP_LOG_HEAD.LOST 0, 0] ++ leBytes (s.rd Reg.TMP_LATCHED.LATCHED 0) 4 ++
    leBytes (s.rd Reg.TMP_ALARM.ALARM 0) 4 ++ leBytes s.tmp.evseq 4 ++ leBytes s.ticks 8 ++ leBytes (s.rd Reg.AON_SUPPLY.VAON 0) 2 ++
    leBytes (s.rd Reg.AON_SUPPLY.VBAT 0) 2)

/-- The 32 bytes of a BBRAM tamper log entry (16, R561). -/
def tamperBytes (e : TmpEntry) : List Nat :=
  leBytes e.ticks 6 ++ [e.source, e.event, e.actions, e.det, e.state, 0] ++ leBytes e.vaon 2 ++ leBytes e.vbat 2 ++ leBytes e.temp 2 ++ [0, 0] ++
    leBytes e.evseq 4 ++ leBytes e.detail 8

/-- The entries of the BBRAM log with their index (16, R560): the newest lies before NEXT. -/
def State.tamperIndexed (s : State) : List (Nat × TmpEntry) :=
  let n := s.tmp.bbram.length
  (List.range n).filterMap fun k => (s.tmp.bbram[k]?).map fun e => ((s.rd Reg.TMP_LOG_HEAD.NEXT 0 + 160 - (n - k)) % 80, e)

/-- A tamper log page as it would be written now (R594): entries that Watchman has overwritten since the AON reset, and the others as they were. -/
def State.pageLog (s : State) (p : Nat) : List Nat :=
  (List.range 8).flatMap fun j =>
    match s.tamperIndexed.find? fun x => x.1 = (p - 5) * 8 + j with
    | some x => tamperBytes x.2
    | none => (List.range 32).map fun i => s.tagByte p (j * 32 + i)

/-- The latest signed batch. -/
def State.latestSigned (s : State) : Option Batch := s.scv.batches.reverse.find? fun b => b.signed.isSome

/-- The bytes of a page but those of its update's time. -/
def maskTime (l : List Nat) (i n : Nat) : List Nat := l.take i ++ l.drop (i + n)

/-- The page's time of update, in AON ticks. -/
def State.pageTicks (s : State) (p i : Nat) : Nat := ((List.range 8).map fun k => s.tagByte p (i + k) * 256 ^ k).foldl (· + ·) 0

/-- Watchman's log pages that await an update (R597). -/
def State.logPageDue (s : State) (p : Nat) : Bool := 5 ≤ p && s.pageLog p != s.tagPage p

/-- An update that the Keeper or Watchman makes of itself is due, with the page's new contents (R597). -/
def State.pageDue (s : State) (p : Nat) : Option (List Nat) :=
  let booted := s.mainOn && 11 ≤ s.rd Reg.PTR_STATUS.STAGE 0
  if p = 0 then
    if booted && (s.tagByte 0 8 ≠ s.lifecycle || s.pageTicks 0 136 < s.cfg.bootTicks || s.tagVer 0 = 0) then some s.pageIdentity else none
  else if p = 1 then
    let differs : Bool := maskTime (s.tagPage 1) 120 8 != maskTime s.pageConfig 120 8
    if booted && (differs || s.pageTicks 1 120 < s.cfg.bootTicks) then some s.pageConfig else none
  else if p = 2 then
    match s.latestSigned with
    | some b =>
      let leaving := s.aon.move.isSome || s.isSet Reg.AON_STATUS.PWR_FAIL 0
      if s.mainOn && s.npl.batch ≠ some b.number && (leaving || s.npl.batch.isNone || s.setting 0x8011 * 32768 ≤ s.ticks - s.npl.lastBatchTicks) then
        some (pageBatch b)
      else none
    | none => none
  else if p = 3 then
    let differs : Bool := maskTime (maskTime (s.tagPage 3) 24 12) 8 1 != maskTime (maskTime s.pageTamper 24 12) 8 1 ||
      s.tagByte 3 8 % 4 != s.pageTamper.getD 8 0 % 4
    if differs && !((List.range 15).any s.logPageDue) then some s.pageTamper else none
  else if p = 4 then none
  else if s.logPageDue p then some (s.pageLog p) else none

/-! ### Page updates (R598) -/

/-- Take the page lock with the contents that are written. A Keeper update goes through NPL_KBUF. -/
def State.takeLock (s : State) (p : Nat) (l : List Nat) : State :=
  let s : State := { s with npl.lock := some ⟨p, l, s.ticks⟩ }
  if p ≤ 2 then
    (List.range 64).foldl (fun (t : State) (n : Nat) =>
      t.wr Reg.NPL_KBUF.DATA n (((List.range 4).map fun k => l.getD (4 * n + k) 0 * 256 ^ k).foldl (· + ·) 0)) s
  else s

/-- The bytes in a buffer of `n` 32-bit registers. -/
def State.bufferBytes (s : State) (f : Fld) (n : Nat) : List Nat := (List.range n).flatMap fun i => leBytes (s.rd f i) 4

/-- An update that waits takes the lock, if none is held (R598 steps 1 and 2). -/
def State.beginUpdate (s : State) (u : PageUpd) : State :=
  if s.npl.lock.isSome then s
  else match u with
    | .own p => match s.pageDue p.val with
      | some l => s.takeLock p.val l
      | none => s
    | .requested =>
      if !s.mainOn then s
      else match s.npl.queue with
        | [] => s
        | p :: r =>
          let s : State := { s with npl.queue := r }
          if p = 4 then s.takeLock 4 (s.bufferBytes Reg.NPL_PBUF.DATA 32 ++ (s.tagPage 4).drop 128)
          else s.takeLock p (s.bufferBytes Reg.NPL_KBUF.DATA 64)

/-- R598 steps 3 to 5: the other copy is written and becomes current. -/
def State.endUpdate (s : State) (us : Nat) : State :=
  match s.npl.lock with
  | none => s
  | some x =>
    let p := x.page
    let copy := 1 - s.tagSel p
    let s := s.framWrite p copy 0 x.content
    let s : State := { s with npl.ver := Tab.put p ((s.tagVer p + 1) % 65536) s.npl.ver, npl.sel := Tab.put p copy s.npl.sel, npl.lock := none }
    let s := if s.mainOn then s.wr Reg.NPL_UPD_STATUS.LOCKMAX 0 (max (s.rd Reg.NPL_UPD_STATUS.LOCKMAX 0) us) else s
    let s : State := if p = 2 then { s with npl.batch := s.latestSigned.map (·.number), npl.lastBatchTicks := s.ticks }
      else if p = 3 then { s with npl.page3Written := true } else s
    if p ≤ 2 || p = 4 then s.nplEvent Ev.NPL_UPDATE_DONE else s

/-- PAGE_UPDATE (R597, R598): the update takes the lock, or with `fin` completes and releases it; the lock was held for `us` microseconds. -/
def execPageUpdate (u : PageUpd) (fin : Bool) (us : BitVec 16) (s : State) : Res :=
  .next <| if fin then s.endUpdate us.toNat else s.beginUpdate u

/-! ### Registers (R602, R605) -/

/-- A Keeper update waits or runs. -/
def State.kbusy (s : State) : Bool :=
  s.npl.queue.any (fun p => decide (p ≤ 2)) || (match s.npl.lock with | some l => decide (l.page ≤ 2) | none => false)

/-- A page 4 update waits or runs. -/
def State.pbusy (s : State) : Bool := s.npl.queue.contains 4 || s.pageLocked 4

/-- A write of NPL_KUPD. -/
def State.kupdWrite (s : State) (v : Nat) : State :=
  if v / 2 ^ 31 % 2 = 0 || v % 4 = 3 || s.kbusy then s else { s with npl.queue := s.npl.queue ++ [v % 4] }

/-- NPL_KUPD (R598, R605). -/
def execNplKupd (m : Fin 16) (v : BitVec 32) (s : State) : Res := .next <| s.guardWrite m.val 0x40F01010 fun s => s.kupdWrite v.toNat

/-- A write of NPL_PUPD. -/
def State.pupdWrite (s : State) (v : Nat) : State :=
  if v / 2 ^ 31 % 2 = 0 || s.pbusy then s else { s with npl.queue := s.npl.queue ++ [4] }

/-- NPL_PUPD (R598, R605). -/
def execNplPupd (m : Fin 16) (v : BitVec 32) (s : State) : Res := .next <| s.guardWrite m.val 0x40F01014 fun s => s.pupdWrite v.toNat

/-- A write of NPL_RD_CTRL: no field window is open between commands, so the copy is done at once. -/
def State.rdCtrlWrite (s : State) (v : Nat) : State :=
  let p := v % 16
  if v / 2 ^ 31 % 2 = 0 || p = 15 then s
  else (List.range 64).foldl (fun (t : State) (n : Nat) =>
    t.wr Reg.NPL_RBUF.DATA n (((List.range 4).map fun k => s.tagByte p (4 * n + k) * 256 ^ k).foldl (· + ·) 0)) s

/-- NPL_RD_CTRL (R605). -/
def execNplRdCtrl (m : Fin 16) (v : BitVec 32) (s : State) : Res := .next <| s.guardWrite m.val 0x40F010B0 fun s => s.rdCtrlWrite v.toNat

/-- A write of the reader key takes effect in BLANK and PROVISIONED, or while a quorum session is OPEN (R602). -/
def State.keyWrite (s : State) (run : State → State) : State :=
  if s.lifecycle ≤ 1 || s.rd Reg.TMP_STATUS.SESSION 0 = 2 then run s else s.nplEvent Ev.NPL_KEY_REFUSED

/-- SET: NPL_KEY becomes K and is zeroed. -/
def State.keySet (s : State) : State :=
  s.keyWrite fun s =>
    let k := ((List.range 4).map fun n => s.rd Reg.NPL_KEY.KEY n * 2 ^ (32 * n)).foldl (· + ·) 0
    (List.range 4).foldl (fun (t : State) (n : Nat) => t.wr Reg.NPL_KEY.KEY n 0) { s with npl.key := k }

/-- CLEAR. -/
def State.keyClear (s : State) : State := s.keyWrite fun s => { s with npl.key := 0 }

/-- NPL_KEY_SET (R602). -/
def execNplKeySet (m : Fin 16) (s : State) : Res := .next <| s.guardWrite m.val 0x40F01030 State.keySet

/-- NPL_KEY_CLEAR (R602). -/
def execNplKeyClear (m : Fin 16) (s : State) : Res := .next <| s.guardWrite m.val 0x40F01030 State.keyClear

end Sys2Proof.Machine
end

