-- ==== Sys2Proof/Machine/Card.lean ====
section
/-!
DEFINITION. Machine/Card.lean: the custodian card slot (17): insertion and removal, activation by class, ATR, PPS, the four APDUs, the counting of cards in a
quorum session, and the custodian set.
-/

namespace Sys2Proof.Machine

/-! ### The ATR (R570, R571) -/

/-- What an ATR says: TA1, TA2, whether a protocol is named, T = 0 among them, another than T = 0, the global TA after the first T = 15 -/
structure AtrInfo where
  ta1 : Option Nat
  ta2 : Option Nat
  named : Bool
  t0 : Bool
  other : Bool
  seen15 : Bool
  global : Option Nat
  deriving DecidableEq, Repr, Inhabited

/-- The interface characters from group `i`, whose presence bits are `y`; `t15` tells that the group is the first after T = 15. Answers what they say and
how many characters they are; none where characters are missing. -/
def atrGroups : Nat → Nat → Nat → Bool → List Nat → AtrInfo → Nat → Option (AtrInfo × Nat)
  | 0, _, _, _, _, a, n => some (a, n)
  | fuel + 1, i, y, t15, cs, a, n =>
    let na := if y.testBit 0 then 1 else 0
    let nb := if y.testBit 1 then 1 else 0
    let nc := if y.testBit 2 then 1 else 0
    let nd := if y.testBit 3 then 1 else 0
    if cs.length < na + nb + nc + nd then none
    else
      let ta := cs.getD 0 0
      let a : AtrInfo :=
        if na = 0 then a
        else if i = 1 then { a with ta1 := some ta }
        else if i = 2 then { a with ta2 := some ta }
        else if t15 then { a with global := some ta }
        else a
      if nd = 0 then some (a, n + na + nb + nc)
      else
        let td := cs.getD (na + nb + nc) 0
        let t := td % 16
        let first := t = 15 && !a.seen15
        let a : AtrInfo := { a with named := true, t0 := a.t0 || t = 0, other := a.other || t ≠ 0, seen15 := a.seen15 || t = 15 }
        atrGroups fuel (i + 1) (td / 16) first (cs.drop (na + nb + nc + 1)) a (n + na + nb + nc + 1)

/-- What an ATR says and how many characters it has: TS, T0, the interface and historical characters, and TCK where another protocol than T = 0 is named. -/
def atrParse (cs : List Nat) : Option (AtrInfo × Nat) :=
  match cs with
  | _ :: t0 :: r =>
    match atrGroups 33 1 (t0 / 16) false r ⟨none, none, false, false, false, false, none⟩ 2 with
    | some (a, n) => some (a, n + t0 % 16 + (if a.other then 1 else 0))
    | none => none
  | _ => none

/-- An Fi or Di code is one of R566. -/
def fiOk (ta1 : Nat) : Bool := [0, 1, 9].contains (ta1 / 16)
def diOk (ta1 : Nat) : Bool := 1 ≤ ta1 % 16 && ta1 % 16 ≤ 5

/-- The ATR ends the exchange (R570): protocol, TCK, or a specific mode outside R566. -/
def atrBad (cs : List Nat) (a : AtrInfo) : Bool :=
  (a.named && !a.t0) || (a.other && (cs.drop 1).foldl (fun x c => x ^^^ c) 0 ≠ 0) ||
    (match a.ta2 with
      | some t => t % 16 ≠ 0 || (!t.testBit 4 && !(fiOk (a.ta1.getD 0x11) && diOk (a.ta1.getD 0x11)))
      | none => false)

/-- PPS1 for a card's TA1 (R572). -/
def ppsFor (ta1 : Nat) : Nat :=
  let fi := ta1 / 16
  let di := ta1 % 16
  (if (2 ≤ fi && fi ≤ 6) || (9 ≤ fi && fi ≤ 13) then 9 else 1) * 16 +
    (if 1 ≤ di && di ≤ 5 then di else if di = 6 || di = 7 || di = 9 then 5 else if di = 8 then 4 else 1)

/-- The classes below `cls` in the order C, B, A that a class indicator permits. -/
def nextClass (cls mask : Nat) : Option Nat := [2, 1].find? fun c => c < cls && mask.testBit (c - 1)

/-! ### The exchange -/

/-- Character repetitions and framing errors of an exchange (R574, R586). -/
def State.cardErrs (s : State) (repeats framing : Nat) : State := (s.addSat Reg.CRD_ERRS.REPEATS 0 repeats).addSat Reg.CRD_ERRS.FRAMING 0 framing

/-- Replace the exchange. -/
def State.setEx (s : State) (x : CardEx) : State := { s with crd.ex := some x }

/-- A row of the exchange acts where the exchange stands at its step; the card clock runs for it (R576). -/
def State.cardRow (s : State) (p : CardStep) (run : CardEx → State → State) : State :=
  match s.crd.ex with
  | some x => if s.mainOn && x.step = p then run x (s.wr Reg.CRD_STATUS.CLKSTOP 0 0) else s
  | none => s

/-- CARD_ERROR (R566, R580 line 2). -/
def State.cardError (s : State) : State := s.cardEnd Status.CARD_ERROR false false

/-- NOT_AUTHORISED: in a quorum session a failed authentication (R580 lines 3 to 5). -/
def State.cardRefused (s : State) (x : CardEx) : State :=
  let s := s.cardEnd Status.NOT_AUTHORISED (x.purpose = 1) false
  if x.purpose = 1 then s.failCard else s

/-- The next class is tried after 10 ms without supply, or none is left (R568). -/
def State.cardNext (s : State) (x : CardEx) (mask : Nat) : State :=
  match nextClass x.cls mask with
  | some c => s.cardOff.setEx { x with step := .gap, cls := c }
  | none => s.cardError

/-- The clock divider after Fi and Di are settled (R572): f at most 4 MHz for code 0, 5 MHz for codes 1 and 9. -/
def State.cardRate (s : State) (pps1 : Nat) : State :=
  (s.wr Reg.CRD_STATUS.PPS1 0 pps1).wr Reg.CRD_STATUS.DIV 0 (max (s.rd Reg.CRD_STATUS.DIV 0) (if pps1 / 16 = 0 then 25 else 20))

/-- CARD_INSERT (R567). -/
def execCardInsert (s : State) : Res :=
  .next <|
    if s.mainOn && !s.isSet Reg.CRD_STATUS.PRESENT 0 then
      let s := (s.wr Reg.CRD_STATUS.PRESENT 0 1).event Ev.CRD_INSERTED
      if s.session = 1 && s.crd.ex.isNone then s.cardStart 1 0 else s
    else s

/-- CARD_REMOVE (R569). -/
def execCardRemove (s : State) : Res :=
  .next <|
    if s.mainOn && s.isSet Reg.CRD_STATUS.PRESENT 0 then
      ((s.wr Reg.CRD_STATUS.PRESENT 0 0).event Ev.CRD_REMOVED).cardEnd Status.CARD_REMOVED false false
    else s

/-- CARD_ACTIVATE (R568 steps 1 to 3): whether CRD_VCC comes within range. -/
def execCardActivate (ok : Bool) (s : State) : Res :=
  .next <| s.cardRow .powering fun x s =>
    if !ok then s.cardError
    else
      let s := (s.wr Reg.CRD_STATUS.ACTIVE 0 1).wr Reg.CRD_STATUS.CLASS 0 x.cls
      let s := (s.wr Reg.CRD_STATUS.PPS1 0 0x11).wr Reg.CRD_STATUS.DIV 0 (s.setting 0x8001)
      (s.send (.pin "CRD_VCC" true)).setEx { x with step := .atr }

/-- Four characters of the ATR as CRD_ATR holds them. -/
def atrWord (cs : List Nat) (n : Nat) : Nat :=
  (List.range 4).foldl (fun v k => v + cs.getD (4 * n + k) 0 * 2 ^ (8 * k)) 0

/-- The ATR is placed in CRD_ATR (R570). -/
def State.showAtr (s : State) (cs : List Nat) : State :=
  ((List.range 9).foldl (fun t n => t.wr Reg.CRD_ATR.DATA n (atrWord cs n)) s).wr Reg.CRD_STATUS.ATRLEN 0 cs.length

/-- What follows a good ATR (R571, R572): clock stop as it permits, the rate of a specific mode, PPS or the first APDU. -/
def State.atrGood (s : State) (x : CardEx) (a : AtrInfo) : State :=
  let s := s.wr Reg.CRD_STATUS.STOPOK 0 (if (a.global.getD 0) / 64 = 0 then 0 else 1)
  match a.ta2, a.ta1 with
  | some t, some ta1 => (if t.testBit 4 then s else s.cardRate ta1).setEx { x with step := .select }
  | none, some ta1 =>
    if ta1 ≠ 0x11 ∧ s.setting 0x8002 = 1 ∧ x.ppsFails = 0 then s.setEx { x with step := .pps, pps1 := ppsFor ta1 }
    else s.setEx { x with step := .select }
  | _, none => s.setEx { x with step := .select }

/-- ATR_RECEIVED (R568, R570–R572). -/
def execAtrReceived (a : AtrRead) (s : State) : Res :=
  .next <| s.cardRow .atr fun x s =>
    let s := s.cardErrs a.repeats.toNat a.framing.toNat
    let cs := a.chars.map fun (c : BitVec 8) => c.toNat
    if a.failed then s.cardError
    else match cs with
      | [] => s.cardNext x 7
      | ts :: _ =>
        if ts ≠ 0x3B ∧ ts ≠ 0x3F then s.cardError
        else match atrParse cs with
          | none => s.cardNext x 7
          | some (i, n) =>
            if 33 < n then s.cardError
            else if cs.length < n then s.cardNext x 7
            else
              let cs := cs.take n
              let s := s.showAtr cs
              if atrBad cs i then s.cardError
              else match i.global with
                | some g => if g.testBit (x.cls - 1) then s.atrGood x i else s.cardNext x g
                | none => s.atrGood x i

/-- ATR_TIMEOUT (R568 steps 4 and 5): no answer at this class. -/
def execAtrTimeout (s : State) : Res := .next <| s.cardRow .atr fun x s => s.cardNext x 7

/-- CLASS_CHANGE_WAIT_END (R568): the next class is applied. -/
def execClassChangeWaitEnd (s : State) : Res := .next <| s.cardRow .gap fun x s => s.setEx { x with step := .powering }

/-- PPS_EXCHANGE (R572): the card's response, empty where none arrived within the initial waiting time. -/
def execPpsExchange (r : List (BitVec 8)) (s : State) : Res :=
  .next <| s.cardRow .pps fun x s =>
    if r.map (fun (b : BitVec 8) => b.toNat) = [0xFF, 0x10, x.pps1, 0xEF ^^^ x.pps1] then (s.cardRate x.pps1).setEx { x with step := .select }
    else if x.ppsFails = 0 then s.cardOff.setEx { x with step := .powering, ppsFails := 1, pps1 := 0x11 }
    else s.cardError

/-- CARD_SELECT (R577). -/
def execCardSelect (a : CardAnswer) (s : State) : Res :=
  .next <| s.cardRow .select fun x s =>
    let s := s.cardErrs a.repeats.toNat a.framing.toNat
    if !a.failed && a.sw = 0x9000 then s.setEx { x with step := .cert, again := false } else s.cardError

/-- The committed entry that the session started with and that a certificate names (R580 line 4, R582). -/
def State.cardIndex (s : State) (c : CardEntry) : Option Nat := (s.crd.sessCards.find? fun x => x.2 = c).map (·.1)

/-- READ_CERT (R577, R578, R580): the certificate as read. -/
def execReadCert (a : CardAnswer) (c : CardCert) (s : State) : Res :=
  .next <| s.cardRow .cert fun x s =>
    let s := s.cardErrs a.repeats.toNat a.framing.toNat
    let e : CardEntry := ⟨c.id.toNat, c.pub⟩
    if a.failed then s.cardError
    else if a.sw.toNat / 256 = 0x6C ∧ !x.again then s.setEx { x with again := true }
    else if a.sw ≠ 0x9000 ∨ !c.formOk ∨ !c.sigOk ∨ (match s.cfg.image with | some g => g.cardKey | none => 0) = 0 then s.cardRefused x
    else
      let x := { x with card := some e, again := false }
      if x.purpose = 1 then
        match s.cardIndex e with
        | none => (s.setEx x).cardRefused x
        | some i => s.setEx { x with index := i, step := .auth }
      else s.setEx { x with step := .auth }

/-- AUTHENTICATE (R577, R579): the challenge carries a fresh nonce from DRBG instance 0. -/
def execAuthenticate (a : CardAnswer) (s : State) : Res :=
  .next <| s.cardRow .auth fun x s =>
    let s := s.cardErrs a.repeats.toNat a.framing.toNat
    let d := s.random 0
    let x := { x with nonce := d.1 % 2 ^ 256 }
    let s := d.2.setEx x
    if a.failed then s.cardError
    else if a.sw ≠ 0x6140 then s.cardRefused x
    else s.setEx { x with step := .resp }

/-- A card whose signature verifies (R580 lines 6 and 7; R581 lines 6 to 8). -/
def State.cardAccepted (s : State) (x : CardEx) : State :=
  match x.card with
  | none => s
  | some e =>
    if x.purpose = 1 then
      let new := !s.tmp.cards.testBit x.index
      let s := s.cardEnd Status.SUCCESS false new
      s.countCard x.index
    else if s.crd.staged.any fun y => y.2.id = e.id then s.cardEnd Status.FIELD_INVALID false false
    else ({ s with crd.staged := Tab.put x.idx e s.crd.staged }).cardEnd Status.SUCCESS false false

/-- GET_RESPONSE (R577, R579, R580): whether the signature of the challenge verifies. -/
def execGetResponse (a : CardAnswer) (ok : Bool) (s : State) : Res :=
  .next <| s.cardRow .resp fun x s =>
    let s := s.cardErrs a.repeats.toNat a.framing.toNat
    if a.failed then s.cardError
    else if a.sw.toNat / 256 = 0x6C ∧ !x.again then s.setEx { x with again := true }
    else if a.sw ≠ 0x9000 ∨ !ok then s.cardRefused x
    else s.cardAccepted x

/-- An exchange is at an APDU, and so waits for a card that works. -/
def CardStep.apdu : CardStep → Bool
  | .select | .cert | .auth | .resp => true
  | .powering | .atr | .gap | .pps => false

/-- CARD_WWT_TIMEOUT (R575). -/
def execCardWwtTimeout (s : State) : Res :=
  .next <|
    match s.crd.ex with
    | some x => if s.mainOn && x.step.apdu then s.cardError else s
    | none => s

/-- CARD_OVERCURRENT (R569): of the card supply, which is on from activation to deactivation. -/
def execCardOvercurrent (s : State) : Res :=
  .next <|
    match s.crd.ex with
    | some x => if s.mainOn && x.step ≠ .gap then s.cardError else s
    | none => s

/-- CARD_CLOCK_STOP (R571, R576). -/
def execCardClockStop (s : State) : Res :=
  .next <|
    if s.mainOn && s.isSet Reg.CRD_STATUS.ACTIVE 0 && s.isSet Reg.CRD_STATUS.STOPOK 0 then s.wr Reg.CRD_STATUS.CLKSTOP 0 1 else s

/-- CRD_DEACT (R569, R586): CRD_CTRL.DEACT. -/
def execCrdDeact (m : Fin 16) (s : State) : Res :=
  .next <| s.guardWrite m.val 0x40F00004 fun s => if s.crd.ex.isSome then s.cardCut else s.cardOff

/-! ### The custodian set (R581, R582) -/

/-- The first of lines 1 to 3 of R581 that refuses an operation. -/
def State.setRefused (s : State) : Option Nat :=
  if s.isSet Reg.CRD_SET_STATUS.BUSY 0 then some Status.BUSY_RETRY
  else if s.lifecycle = 0 ∨ s.lifecycle = 4 then some Status.LIFECYCLE_STATE
  else if s.lifecycle ≠ 1 ∧ s.session ≠ 2 then some Status.QUORUM_REQUIRED
  else none

/-- A write of CRD_SET_CTRL by master `m`. -/
def State.setOp (s : State) (m : Nat) (run : State → State) : State :=
  s.guardWrite m 0x40F00008 fun s =>
    match s.setRefused with
    | some r => s.setDone r
    | none => run s

/-- ENROL (R581). -/
def execEnrol (m : Fin 16) (idx : BitVec 3) (s : State) : Res :=
  .next <| s.setOp m.val fun s =>
    if s.session = 1 ∨ s.crd.ex.isSome then s.setDone Status.BUSY_RETRY
    else if (Tab.find idx.toNat s.crd.staged).isSome ∨ !s.isSet Reg.CRD_STATUS.PRESENT 0 then s.setDone Status.FIELD_INVALID
    else (s.wr Reg.CRD_SET_STATUS.BUSY 0 1).cardStart 2 idx.toNat

/-- REVOKE (R581). -/
def execRevoke (m : Fin 16) (idx : BitVec 3) (s : State) : Res :=
  .next <| s.setOp m.val fun s => ({ s with crd.staged := Tab.del idx.toNat s.crd.staged }).setDone Status.SUCCESS

/-- CUSTODIAN_COMMIT (R581, R582). -/
def execCustodianCommit (m : Fin 16) (k : BitVec 3) (s : State) : Res :=
  .next <| s.setOp m.val fun s =>
    let n := s.crd.staged.length
    if k = 0 ∨ 5 < k.toNat ∨ n < k.toNat then s.setDone Status.FIELD_INVALID
    else
      let s : State := { s with crd.k := k.toNat, crd.cards := s.crd.staged }
      ((s.wr Reg.TMP_STATUS.K 0 k.toNat).wr Reg.TMP_STATUS.N 0 n).setDone Status.SUCCESS

/-- CUSTODIAN_DISCARD (R581). -/
def execCustodianDiscard (m : Fin 16) (s : State) : Res :=
  .next <| s.setOp m.val fun s => ({ s with crd.staged := s.crd.cards }).setDone Status.SUCCESS

end Sys2Proof.Machine
end

