-- ==== Sys2Proof/Machine/Power.lean ====
section
/-!
DEFINITION. Machine/Power.lean: power failure (05, R215), power states (01, R39; 11, R410–R415), wakes (11, R416–R421), the AON supplies, clocks and calendar
(11, R404–R409, R422–R428).
-/

namespace Sys2Proof.Machine

/-! ### The final commit (05, R215 step 6) -/

/-- Commit every change of the extent table, block by block. -/
def State.flushCommits (s : State) : Nat → State
  | 0 => s
  | n + 1 =>
    if s.key.committing then s.writeSeals.endCommit.flushCommits n
    else if s.key.journal = [] then s
    else s.startCommit.flushCommits n

/-- The final commit with CLEAN: a NEXT_OFFSET entry for each OPEN extent; none while the archive is read-only. -/
def State.finalCommit (s : State) (warned : Bool) : State :=
  if s.archiveRo then s
  else
    let s := s.flushCommits (s.key.journal.length + 8)
    let opens := (s.key.ext.filter fun x => x.2.st = .openE).map fun x => JEntry.nextOffset x.1 x.2.next
    let s : State := { s with key.journal := s.key.journal ++ opens }
    let s := s.startCommit
    let s := s.flushCommits (s.key.journal.length + 8)
    { s with key.clean := true, key.warned := warned }

/-- The work of R39 and of the steps 3 to 5 of R215 is done: every dispatched record and item has ended (a void of a tenant without a key cannot), no
stripe is open, every batch is stored or waits for a PKE that is out of service. -/
def State.workDone (s : State) : Bool :=
  (s.led.recs.all fun x => (s.tenant x.2.tenant).st = 2 && x.2.voidCause ≠ 0) && s.lane.items = [] && s.media.stripes = [] &&
    s.scv.calls = [] && s.scv.entries = [] && s.scv.outside = [] &&
    (s.scv.batches.all fun b => b.stored || !s.pkeInService)

/-- Every open stripe is closed with padding. -/
def State.padAll (s : State) : State :=
  (s.media.stripes.filter fun x => !x.closed).foldl (fun t x => t.padStripe x.extent x.stripe) s

/-- PWR_FAIL# is acted on in ACTIVE and READY (05, R215 steps 2 to 4): a persist in progress is abandoned, records without their whole payload become
void with cause 6, open stripes and the open batch close. What is on its way ends by its own commands. -/
def State.powerWarned (s : State) : State :=
  let s := (s.supplyLog 8 0).event Ev.AON_PWR_FAIL
  let s : State := { s.wr Reg.EXT_STATUS.PERSIST_BUSY 0 0 with key.persistNow := false, key.leaves := none }
  let s := (s.led.recs.filter fun x => x.2.tag.isNone && x.2.voidCause = 0 && x.2.data.length ≠ x.2.length).foldl
    (fun t x => t.voidRecord (keyLedger x.1) (keySeq x.1) 6 true) s
  (s.padAll.closeWhenAllowed).settleStripes.resolve

/-- A wake ends without reaching its state: PWR_EN falls where it started from WATCH; a held RESET# is discarded (19, R624). -/
def State.endWake (s : State) (w : Wake) (result : Nat) : State :=
  let s : State := { s.wr Reg.AON_WAKE_STATUS.RESULT 0 result with aon.wake := none, aon.heldReset := false }
  let s := (s.wr Reg.AON_CLK_STATUS.XTAL25_OK 0 0)
  if w.fromWatch then s.setPwrEn false else s

/-- PWR_FAIL# is asserted: a wake stops (11, R419), WATCH ignores it, SLEEP logs it, ACTIVE and READY act on it (11, R431). -/
def State.powerFail (s : State) : State :=
  match s.aon.wake with
  | some w =>
    let s := s.endWake w 4
    if w.fromWatch then s else s.wr Reg.AON_STATUS.PWR_FAIL 0 1
  | none =>
    if s.aon.watch then s
    else
      let s : State := { s.wr Reg.AON_STATUS.PWR_FAIL 0 1 with aon.failSeen := s.ticks + 1 }
      if s.mainOn then s.powerWarned else s.supplyLog 8 0

/-- PWR_FAIL (05, R215). -/
def execPwrFail (s : State) : Res := .next s.powerFail

/-- WAKE_ABORT (11, R419): PWR_FAIL# during a wake. -/
def execWakeAbort (s : State) : Res := .next <| if s.aon.wake.isSome then s.powerFail else s

/-- PWR_FAIL_RESTART (05, R215 step 8; 19, R624): PWR_FAIL# is deasserted 10 ms after its warning; a RESET# held in SLEEP acts now. -/
def execPwrFailRestart (s : State) : Res :=
  .next <|
    if !s.isSet Reg.AON_STATUS.PWR_FAIL 0 then s
    else
      let s := s.wr Reg.AON_STATUS.PWR_FAIL 0 0
      if s.mainOn then (if s.workDone then s.finalCommit true else s).warmReset
      else if s.aon.heldReset then s.startWake 3
      else s

/-- Whether PWR_FAIL# was asserted within the last 10 ms (11, R418). -/
def State.failRecent (s : State) : Bool :=
  s.isSet Reg.AON_STATUS.PWR_FAIL 0 || (s.aon.failSeen ≠ 0 && decide (s.ticks ≤ s.aon.failSeen - 1 + 328))

/-- Main power is gone: WATCH (11, R410, R418). -/
def State.enterWatch (s : State) : State :=
  let s := (((s.wr Reg.SBD_STATUS.PWR_GOOD 0 0).wr Reg.AON_STATUS.PWR_FAIL 0 0).setPwrEn false)
  { s with aon.watch := true, aon.wake := none, aon.move := none, aon.clockLost := false, aon.heldReset := false }

/-- PWR_GOOD_FALL (11, R410, R418, R431): main power is lost; after a warning the final commit stands if the work before it is done, without one the loss
is unwarned, but for SLEEP, whose own final commit stands. -/
def execPwrGoodFall (s : State) : Res :=
  .next <|
    if !s.aon.pwrEn then s
    else if s.power = 2 ∨ s.aon.watch then
      (if s.failRecent ∨ s.aon.wake.isSome then s else s.supplyLog 9 0).enterWatch
    else if s.failRecent then (if s.mainOn ∧ s.workDone then s.finalCommit true else s).enterWatch
    else ({ s with key.clean := false }.supplyLog 9 0).enterWatch

/-! ### Power states (01, R39; 11, R410–R414) -/

/-- FN_EVENT.POWER in every function (11, R412). -/
def State.powerEvent (s : State) : State := s.fnEventAll Reg.FN_EVENT.POWER 5

/-- The preparation of READY (11, R413): lane key registers cleared, lane groups gated, an assay run paused. -/
def State.toReady (s : State) : State :=
  let s := (List.range 16).foldl State.gateGroup (s.clearLaneKeys 0)
  match s.asy.run with
  | some r => if r.paused then s else s.setRun (some { r with paused := true, byPower := true })
  | none => s

/-- The drives are shut down (07, R300). -/
def State.shutDrives (s : State) : State :=
  let ps := (List.range 128).filter fun p => s.isSet Reg.MPX_PORT_STATUS.PRESENT p && !portFused p
  let s := ps.foldl (fun t p => ((t.send (.nvme p "shutdown" [])).driveReset p true).wr Reg.MPX_PORT_STATUS.LINK_UP p 0) s
  { s with aon.drivesDown := true }

/-- The preparation of SLEEP and WATCH (11, R413; 05, R192; 09, R351; 16, R547, R556; 17, R569, R582). -/
def State.toSleep (s : State) (watch : Bool) : State :=
  let s := s.finalCommit false
  let s := s.clearCaches.clearLaneKeys 0
  let s := if watch then s.seedLoops else s
  let s := s.rngStop.cardCut
  let s : State := { s with crd.staged := s.crd.cards }
  (s.failSession.endSession.abandonJobs Status.ABORTED_BY_RESET).shutDrives

/-- The fast clocks stop (11, R413). -/
def State.clocksOff (s : State) : State :=
  ((s.wr Reg.AON_CLK_STATUS.XTAL25_OK 0 0).wr Reg.AON_CLK_STATUS.SYSPLL_LOCK 0 0).wr Reg.AON_CLK_STATUS.MPLL_LOCK 0 0

/-- READY → ACTIVE (11, R413; 07, R300; 08, R322, R330, R331): AGE and the daily scan catch up, drives that were shut down are brought up, migrations
start again. -/
def State.toActive (s : State) : State :=
  let s : State := { s.wr Reg.DEV_STATUS.POWER 0 0 with key.clean := false }
  let s := s.maskPower
  let s := if s.aon.drivesDown then ({ s with aon.drivesDown := false }).startPorts else s
  let s := (s.wr Reg.AON_CAL.ARMED 0 0).raiseAges ((s.ticks - s.asy.ageTicks) / dayTicks)
  let s := s.dailyScan
  let s := if s.rd Reg.ASY_DEADLINE.TICKS 0 ≤ s.ticks then (s.wr Reg.ASY_STATUS.OVERDUE 0 1).event Ev.ASY_OVERDUE else s
  match s.asy.run with
  | some r => if r.byPower then s.setRun (some { r with paused := false, byPower := false }) else s
  | none => s

/-- ASY writes its deadline before the CX4 leaves ACTIVE (08, R330; 11, R428). -/
def State.armCalendar (s : State) : State :=
  let d := s.deadline
  ((s.wr Reg.ASY_DEADLINE.TICKS 0 d).wr Reg.AON_CAL.DEADLINE 0 d).wr Reg.AON_CAL.ARMED 0 1

/-- Microseconds from a dispatch. -/
def State.microsFrom (s : State) (t : Nat) : Nat := (s.ticks - t) * 1000000 / 32768

/-- The transition's completion is posted (11, R412). -/
def State.moveDone (s : State) (who : Option (Nat × Nat × Nat)) (prev start : Nat) : State :=
  let s : State := { s with aon.move := none, set.excl := false }
  match who with
  | some (f, q, cid) => s.complete f q cid Status.SUCCESS prev (s.microsFrom start)
  | none => s

/-- The transition to `m.target` with the work of R39 done (11, R412, R413). -/
def State.makeMove (s : State) (who : Option (Nat × Nat × Nat)) (m : Move) : State :=
  let prev := s.power
  if m.target = 0 then (s.toActive.moveDone who prev m.start).powerEvent
  else if m.target = 1 then ((s.toReady.wr Reg.DEV_STATUS.POWER 0 1).moveDone who prev m.start).powerEvent
  else
    let s := (s.toReady.toSleep (m.target = 3)).moveDone who prev m.start
    if m.target = 3 then s.powerEvent.clocksOff.enterWatch
    else (s.clocksOff.wr Reg.DEV_STATUS.POWER 0 2).powerEvent

/-- The first condition of R411 that refuses a SET_POWER_STATE, or ends it with nothing done: its status and results. -/
def State.powerRefused (s : State) (e : Entry) : Option (Nat × Nat × Nat) :=
  let t := e.bytes 32 1
  if 3 < t ∨ !onlyBytes e [(32, 1)] then some (Status.FIELD_INVALID, 0, 0)
  else if t = 3 ∧ s.rd Reg.AON_SUPPLY.VAON 0 < 2650 ∧ s.rd Reg.AON_SUPPLY.VBAT 0 < 2500 then some (Status.FIELD_INVALID, 0, 1)
  else if t = s.power then some (Status.SUCCESS, s.power, 0)
  else none

/-- Leaving ACTIVE begins (01, R39; 08, R330): fetching stops, open stripes and the open batch close, the journal is committed. -/
def State.leaveActive (s : State) : State := (s.armCalendar.padAll.closeWhenAllowed.settleStripes.resolve).startCommit

/-- The work before the transition is done: R39 from ACTIVE, no flash operation before the clocks stop. -/
def State.moveReady (s : State) (target : Nat) : Bool :=
  (target ≤ 1 || s.flashIdle) &&
    (s.power ≠ 0 || (s.workDone && (s.archiveRo || (s.key.journal = [] && !s.key.committing))))

/-- SET_POWER_STATE (11, R411–R413): an exclusive command. The row begins the transition and, run again once the work of R39 is done, ends it. -/
def execSetPowerState (f : Fn) (q : Q) (s : State) : Res :=
  .next <|
    match s.aon.move with
    | some m =>
      if s.isSet Reg.AON_STATUS.PWR_FAIL 0 || !s.moveReady m.target then s
      else match s.front f.val q.val with
        | some x =>
          if x.e.opc = 0x82 then (s.popFront f.val q.val).makeMove (some (f.val, q.val, x.e.cid.toNat)) m else s.makeMove none m
        | none => s.makeMove none m
    | none =>
      if s.set.excl then s
      else s.frontCmd f.val q.val 0x82 fun x s =>
        match s.powerRefused x.e with
        | some r => (s.popFront f.val q.val).complete f.val q.val x.e.cid.toNat r.1 r.2.1 r.2.2
        | none =>
          let m : Move := ⟨x.e.bytes 32 1, s.ticks⟩
          let s : State := { s with aon.move := some m, set.excl := true }
          let s := if s.power = 0 then s.leaveActive else s
          if s.moveReady m.target then (s.popFront f.val q.val).makeMove (some (f.val, q.val, x.e.cid.toNat)) m else s

/-- DSTATE_CHANGE (02, R45, R47): D0 or D3hot; a VF has no power management capability, and the state of the device does not change. Back in D0,
what waited for the function's DMA goes on. -/
def execDstateChange (f : Fn) (hot : Bool) (s : State) : Res :=
  .next <|
    if isPf f.val then
      let s := s.setFn f.val { s.fnRt f.val with d3 := hot }
      if hot then s
      else
        let s := s.backToD0 f.val
        ((List.range 128).foldl (fun t n => t.finishSave (f.val + n)) s).giveProofs
    else s

/-! ### Wakes (11, R416–R421) -/

/-- SLEEP_ADMIN_DOORBELL (11, R415): the shadow records the doorbell; a wake starts. -/
def execSleepAdminDoorbell (p : Fin 2) (v : BitVec 32) (s : State) : Res :=
  if s.power ≠ 2 ∨ s.aon.watch then .next s
  else match execFnSqtWrite (if p.val = 0 then 0 else 128) 0 v s with
    | .next t => .next (t.startWake 2)
    | r => r

/-- WAKE_PIN (11, R416): the level of WAKE# at two consecutive ticks; the CX4's own drive is ignored. -/
def execWakePin (low : Bool) (s : State) : Res :=
  .next <|
    if s.isSet Reg.AON_STATUS.WAKE_DRIVE 0 then s
    else
      let s := s.wr Reg.AON_STATUS.WAKE_IN 0 (if low then 1 else 0)
      if low then s.startWake 1 else s

/-- PWR_GOOD is seen in a wake from WATCH (11, R420 steps 2 and 3). -/
def State.powerSeen (s : State) : State :=
  match s.aon.wake with
  | some w => if w.step = .power then (s.wr Reg.SBD_STATUS.PWR_GOOD 0 1).startCrystal w else s
  | none => s

/-- PWR_GOOD_UNASKED (11, R410, R420). -/
def execPwrGoodUnasked (s : State) : Res :=
  .next <| if s.aon.watch ∧ !s.aon.pwrEn ∧ s.aon.wake.isNone then (s.startWake 4).powerSeen else s

/-- PWR_GOOD_SEEN (11, R420). -/
def execPwrGoodSeen (s : State) : Res := .next s.powerSeen

/-- XTAL25_RUNNING (11, R420 step 4). -/
def execXtal25Running (s : State) : Res :=
  .next <|
    match s.aon.wake with
    | some w => if w.step = .crystal then ({ s with aon.wake := some { w with step := .pll } }).wr Reg.AON_CLK_STATUS.XTAL25_OK 0 1 else s
    | none => s

/-- SLEEP → READY (11, R420 step 6; 19, R624; 16, R552): clocks released, the RNG starts, and what waited for READY acts. -/
def State.wakeReady (s : State) : State :=
  let s := (s.wr Reg.DEV_STATUS.POWER 0 1).rngStart.powerEvent
  let s := s.functions.foldl State.flushVectors s -- messages held in SLEEP (R415)
  let ports := s.host.perstPending
  let s := ports.foldl (fun t p => t.linkLost p Reg.HIF_PORT_ERR.LINK_DOWN) { s with host.perstPending := [] }
  let s := s.copyTamperLog
  let s := if s.tmp.lockDue then ({ s with tmp.lockDue := false }).lockSequence else s
  if s.aon.heldReset then s.warmReset else s

/-- PLL_LOCKED (11, R409, R420 steps 5 and 6): a wake from SLEEP reaches READY, one from WATCH releases the Keeper (its boot is COLD_RESET), and clocks
that were lost return with a warm reset. -/
def execPllLocked (s : State) : Res :=
  .next <|
    match s.aon.wake with
    | none => s
    | some w =>
      if w.step ≠ .pll then s
      else
        let s := ((s.wr Reg.AON_CLK_STATUS.SYSPLL_LOCK 0 1).wr Reg.AON_CLK_STATUS.MPLL_LOCK 0 1)
        let s : State := { s with aon.wake := none }
        if s.aon.clockLost then ({ s with aon.clockLost := false }).warmReset
        else
          let s := ((s.wr Reg.AON_WAKE_STATUS.RESULT 0 0).event Ev.AON_WAKE).supplyLog 5 (s.rd Reg.AON_WAKE_STATUS.CAUSE 0)
          if w.fromWatch then s else s.wakeReady

/-- A failed step is counted and logged; the last attempt ends the wake (11, R421). -/
def State.wakeFails (s : State) (w : Wake) (result attempts : Nat) (next : Wake) (field : Fld) (e : Ev) : State :=
  let s := (s.addSat field 0 1).supplyLog 4 result
  if attempts < 4 then ({ s with aon.wake := some next }).wr Reg.AON_WAKE_STATUS.ATTEMPTS 0 (attempts + 1)
  else ((s.wr Reg.AON_WAKE_STATUS.ATTEMPTS 0 attempts).endWake w result).event e

/-- PWR_GOOD_TIMEOUT (11, R418, R421). -/
def execPwrGoodTimeout (s : State) : Res :=
  .next <|
    match s.aon.wake with
    | some w =>
      if w.step ≠ .power then s
      else
        let c := s.aon.fails
        let s : State := { s with aon.fails := (c.1 + 1, c.2) }
        (s.setPwrEn false).wakeFails w 1 w.power { w with step := .powerWait, power := w.power + 1 } Reg.AON_WAKE_FAILS.PWR Ev.AON_PWR_TIMEOUT
    | none => s

/-- XTAL25_TIMEOUT (11, R421). -/
def execXtal25Timeout (s : State) : Res :=
  .next <|
    match s.aon.wake with
    | some w =>
      if w.step ≠ .crystal then s
      else
        let c := s.aon.fails
        let s : State := { s with aon.fails := (c.1, c.2.1 + 1, c.2.2) }
        s.wakeFails w 2 w.crystal { w with step := .crystalWait, crystal := w.crystal + 1 } Reg.AON_WAKE_FAILS.XTAL Ev.AON_XTAL_TIMEOUT
    | none => s

/-- PLL_TIMEOUT (11, R421): the PLLs are reset and step 5 runs again. -/
def execPllTimeout (s : State) : Res :=
  .next <|
    match s.aon.wake with
    | some w =>
      if w.step ≠ .pll then s
      else
        let c := s.aon.fails
        let s : State := { s with aon.fails := (c.1, c.2.1, c.2.2.1 + 1, c.2.2.2) }
        s.wakeFails w 3 w.pll { w with pll := w.pll + 1 } Reg.AON_WAKE_FAILS.PLL Ev.AON_PLL_TIMEOUT
    | none => s

/-- WAKE_RETRY_WAIT_END (11, R421). -/
def execWakeRetryWaitEnd (s : State) : Res :=
  .next <|
    match s.aon.wake with
    | some w =>
      if w.step = .powerWait then ({ s with aon.wake := some { w with step := .power } }).setPwrEn true
      else if w.step = .crystalWait then s.startCrystal w
      else s
    | none => s

/-! ### Clocks (11, R404, R407–R409, R427) -/

/-- CLOCK_LOSS (11, R409): logged, CLK_GLITCH, the main domain held in reset while the clocks are brought up again. -/
def execClockLoss (s : State) : Res :=
  .next <|
    if !s.mainOn then s
    else
      let s := (s.supplyLog 10 0).tamper 15 1
      let s : State := { s.clocksOff with aon.clockLost := true, key.clean := false }
      s.startCrystal ⟨false, .crystal, 1, 1, 1⟩

/-- RC32_TRIM (11, R404): while XTAL25 runs. -/
def execRc32Trim (ppm : BitVec 16) (s : State) : Res :=
  .next <| if s.isSet Reg.AON_CLK_STATUS.XTAL25_OK 0 then s.wr Reg.AON_CLK_STATUS.RC_PPM 0 ppm.toNat else s

/-- EVENT_CROSSING_OVERRUN (11, R407; 07, R299): the class of the crossing (0 HOST, 1 MEDIA, 2 FROM_AON, 3 TO_AON, 4 SVC); on a media port's the drive's log
pages 01h, 02h and BFh are read again. -/
def execEventCrossingOverrun (cls : Fin 5) (p : Port) (s : State) : Res :=
  .next <|
    let f := if cls.val = 0 then Reg.AON_CDC_OVR.HOST else if cls.val = 1 then Reg.AON_CDC_OVR.MEDIA
      else if cls.val = 2 then Reg.AON_CDC_OVR.FROM_AON else if cls.val = 3 then Reg.AON_CDC_OVR.TO_AON else Reg.AON_CDC_OVR.SVC
    let s := (s.wr f 0 1).event Ev.AON_OVERRUN
    if cls.val = 1 then (s.event Ev.MPX_OVERRUN).send (.nvme p.val "logPages" [1, 2, 0xBF]) else s

/-- CROSSING_WAKE_BURST (11, R408): clock gating within the power state: no state changes beyond what the delivered item's own command does. -/
def execCrossingWakeBurst (s : State) : Res := .next s

/-- XTAL32_FAIL (11, R427; 06, R247): the tick counter moves to RC32. -/
def execXtal32Fail (s : State) : Res :=
  .next <|
    if s.isSet Reg.AON_STATUS.RC_ACTIVE 0 then s
    else
      let s := (s.wr Reg.AON_STATUS.RC_ACTIVE 0 1).wr Reg.AON_STATUS.XTAL32_OK 0 0
      let c := s.aon.fails
      let s : State := { s with aon.fails := (c.1, c.2.1, c.2.2.1, c.2.2.2 + 1) }
      let s := ((s.addSat Reg.AON_WAKE_FAILS.XTAL32 0 1).wr Reg.DEV_STATUS.TIME_DEGRADED 0 1).supplyLog 6 0
      ((s.event Ev.AON_XTAL32_FAIL).tamper 12 1).refreshTq

/-- XTAL32_RETRY (11, R427): AON_CTRL.XTAL32_RETRY while XTAL25 runs; `ok`: XTAL32 measures within ±200 ppm over 1 s. -/
def execXtal32Retry (m : Fin 16) (ok : Bool) (s : State) : Res :=
  .next <| s.guardWrite m.val 0x40E00040 fun s =>
    if s.isSet Reg.AON_CLK_STATUS.XTAL25_OK 0 && s.isSet Reg.AON_STATUS.RC_ACTIVE 0 && ok then
      let s := (s.wr Reg.AON_STATUS.RC_ACTIVE 0 0).wr Reg.AON_STATUS.XTAL32_OK 0 1
      ((s.wr Reg.DEV_STATUS.TIME_DEGRADED 0 0).supplyLog 7 0).refreshTq
    else s

/-- CLEAR_FAILS (11, R421): AON_CTRL.CLEAR_FAILS. -/
def execClearFails (m : Fin 16) (s : State) : Res :=
  .next <| s.guardWrite m.val 0x40E00040 fun s =>
    let s : State := { s with aon.fails := (0, 0, 0, 0) }
    ((s.wr Reg.AON_WAKE_FAILS.PWR 0 0).wr Reg.AON_WAKE_FAILS.XTAL 0 0).wr Reg.AON_WAKE_FAILS.PLL 0 0 |>.wr Reg.AON_WAKE_FAILS.XTAL32 0 0

/-! ### The AON supplies (11, R422, R423) -/

/-- A sample of both supplies. -/
def State.supplies (s : State) (vaon vbat : Nat) : State := (s.wr Reg.AON_SUPPLY.VAON 0 vaon).wr Reg.AON_SUPPLY.VBAT 0 vbat

/-- SUPPLY_TO_VBAT (11, R422, R423). -/
def execSupplyToVbat (vaon vbat : BitVec 16) (s : State) : Res :=
  .next <|
    if s.isSet Reg.AON_STATUS.SOURCE 0 then s
    else
      let s := (s.supplies vaon.toNat vbat.toNat).addSat Reg.AON_SWITCH.COUNT 0 1
      let s := ((s.wr Reg.AON_STATUS.SOURCE 0 1).wr Reg.AON_STATUS.DWELL 0 1).supplyLog 1 0
      let s := s.event Ev.AON_TO_VBAT
      if vbat.toNat < 2500 then s.tamper 8 1 else s

/-- DWELL_END (11, R422 steps 4 and 5). -/
def execDwellEnd (s : State) : Res :=
  .next <| if s.isSet Reg.AON_STATUS.DWELL 0 then (s.wr Reg.AON_STATUS.DWELL 0 0).wr Reg.AON_STATUS.QUALIFY 0 1 else s

/-- SUPPLY_TO_VAON (11, R422 step 6). -/
def execSupplyToVaon (vaon vbat : BitVec 16) (s : State) : Res :=
  .next <|
    if s.isSet Reg.AON_STATUS.QUALIFY 0 then
      let s := ((s.supplies vaon.toNat vbat.toNat).wr Reg.AON_STATUS.QUALIFY 0 0).wr Reg.AON_STATUS.SOURCE 0 0
      (s.supplyLog 2 0).event Ev.AON_TO_VAON
    else s

/-- VBAT_WARN (11, R423): a sample of VBAT below the warning threshold; below 2.5 V on VBAT it is tamper source 9. -/
def execVbatWarn (vbat : BitVec 16) (s : State) : Res :=
  .next <|
    let s := s.wr Reg.AON_SUPPLY.VBAT 0 vbat.toNat
    let s := if vbat.toNat < s.setting 0x6002 then (s.supplyLog 3 0).event Ev.AON_VBAT_WARN else s
    if vbat.toNat < 2500 && s.isSet Reg.AON_STATUS.SOURCE 0 then s.tamper 9 1 else s

/-! ### The calendar (11, R417, R428) -/

/-- CALENDAR_DEADLINE (11, R428, R417): outside ACTIVE, once the counter has reached the deadline; WAKE# is driven in SLEEP and WATCH where setting 0x6001
asks for it. -/
def execCalendarDeadline (s : State) : Res :=
  .next <|
    if s.isSet Reg.AON_CAL.ARMED 0 ∧ ¬(s.mainOn ∧ s.power = 0) ∧ s.rd Reg.AON_CAL.DEADLINE 0 ≤ s.ticks then
      let s := (s.wr Reg.AON_CAL.ARMED 0 0).event Ev.AON_REFRESH_DUE
      if s.setting 0x6001 = 1 ∧ !s.mainOn then (s.wr Reg.AON_STATUS.WAKE_DRIVE 0 1).send (.pin "WAKE#" false) else s
    else s

/-- WAKE_PULSE_END (11, R417). -/
def execWakePulseEnd (s : State) : Res :=
  .next <| if s.isSet Reg.AON_STATUS.WAKE_DRIVE 0 then (s.wr Reg.AON_STATUS.WAKE_DRIVE 0 0).send (.pin "WAKE#" true) else s

end Sys2Proof.Machine
end

