-- ==== Sys2Proof/Machine/Views.lean ====
section
/-!
DEFINITION. Machine/Views.lean: registers by address (21, R638, R639) and what they read: the fields that show other state, and the battery-backed RAM as words
(11, R429).
-/

namespace Sys2Proof.Machine

/-- The index that an offset names in an array of registers, and what is left of the offset. -/
def decodeDims : List (Nat × Nat) → Nat → Nat → Option (Nat × Nat)
  | [], i, off => some (i, off)
  | (n, st) :: r, i, off => if off / st < n then decodeDims r (i * n + off / st) (off % st) else none

/-- The register at an address, its index, and whether the address is the high word of a 64-bit register. -/
def RegDef.at (d : RegDef) (a : Nat) : Option (Nat × Bool) :=
  if a < d.base then none
  else match decodeDims d.dims 0 (a - d.base) with
    | some (i, 0) => some (i, false)
    | some (i, 4) => if d.width = 64 then some (i, true) else none
    | _ => none

/-- The model address of an internal address seen by master `m`: PF function windows and a core's private interrupt bank have their own
places in the register map. -/
def mapAddr (m a : Nat) : Nat :=
  if 0x40000000 ≤ a ∧ a < 0x40010000 then 0x100000000 + (a - 0x40000000)
  else if 0x40010000 ≤ a ∧ a < 0x40020000 then 0x100000000 + 128 * 0x10000 + (a - 0x40010000)
  else if 0x50000000 ≤ a ∧ a < 0x50010000 then 0x200000000 + (if m = 1 then 0 else if m = 2 then 1 else 2) * 0x10000 + (a - 0x50000000)
  else a

/-- The register, index and half that a model address names. -/
def findReg (a : Nat) : Option (RegDef × Nat × Bool) :=
  registerMap.findSome? fun d => (d.at a).map fun x => (d, x.1, x.2)

/-- ALERT# is asserted (11, R425): an AON event whose alert enable is 1, or a tamper ALERT action that holds it. -/
def State.alert (s : State) : Bool :=
  (Ev.list.any fun e => e.src == 16 && s.isSet e.fld 0 && s.rdBit Reg.AON_ALERT_EN.EN 0 e.bit) ||
  (List.range 20).any fun n => s.rdBit Reg.TMP_LATCHED.LATCHED 0 n && (s.setting (0x7100 + n)).testBit 1 -- 16, R552

/-! ### Battery-backed RAM (11, R429, R430) -/

/-- A list of `n` bytes, padded with zeros. -/
def padZero (n : Nat) (l : List Nat) : List Nat := (l ++ List.replicate (n - l.length) 0).take n

/-- The header's bytes but its CRC. -/
def State.bbramHeader (s : State) : List Nat :=
  padZero 28 [0x43, 0x58, 0x42, 0x42, 1, (if s.isSet Reg.TMP_STATUS.LOCK_FLAG 0 then 1 else 0) + (if s.key.head.isSome then 2 else 0)]

/-- S, the journal head and the time anchor. The hash of the journal head stands as a number (log entry 4). -/
def State.bbramCovered (s : State) : List Nat :=
  leBytes s.key.secretS 32 ++ padZero 64 (leBytes (s.key.head.getD 0) 8 ++ leBytes (Config.sha384 [s.key.head.getD 0]) 48) ++
    padZero 32 (leBytes (s.rd Reg.SCV_ANCHOR_ID.ID 0) 4 ++ leBytes (s.rd Reg.SCV_ANCHOR_TICKS.TICKS 0) 8 ++
      leBytes (s.rd Reg.SCV_ANCHOR_UTC.MS 0) 8 ++ leBytes s.scv.uncert 4)

/-- The header with its CRC-32C, and what it covers. -/
def State.bbramStart (s : State) : List Nat :=
  let h := s.bbramHeader
  let c := s.bbramCovered
  h ++ leBytes (crc32c ((h ++ [0, 0, 0, 0] ++ c).map fun b => BitVec.ofNat 8 b)) 4 ++ c

/-- An entry of the supply and wake log (11, R434). -/
def supplyBytes (e : SupplyLog) : List Nat := leBytes e.ticks 6 ++ [e.event, e.detail] ++ leBytes e.vaon 2 ++ leBytes e.vbat 2 ++ leBytes 0 4

/-- The tamper area (16, R560). -/
def State.bbramTamper (s : State) : List Nat :=
  padZero 256 ((List.range 20).map s.actionSet ++ [s.setting 0x7002] ++ [0, 0, 0] ++ leBytes (s.setting 0x7001) 4 ++ leBytes (s.setting 0x7010) 2 ++
    leBytes (s.setting 0x7011) 2 ++ s.tmp.gens.flatMap (fun g => leBytes g 4) ++ leBytes (s.rd Reg.TMP_LATCHED.LATCHED 0) 4 ++
    [s.rd Reg.TMP_LOG_HEAD.NEXT 0, s.rd Reg.TMP_LOG_HEAD.LOST 0, 0, 0] ++ leBytes s.tmp.evseq 4)

/-- The bytes of BBRAM below the Keeper reserve: the counters, the calendar copy and the logs behind the covered part. -/
def State.bbramLow (s : State) : List Nat :=
  s.bbramStart ++
    padZero 32 (leBytes (s.rd Reg.AON_SWITCH.COUNT 0) 4 ++ leBytes s.aon.fails.1 4 ++ leBytes s.aon.fails.2.1 4 ++ leBytes s.aon.fails.2.2.1 4 ++
      leBytes s.aon.fails.2.2.2 4) ++
    padZero 64 (leBytes (s.rd Reg.AON_CAL.DEADLINE 0) 8 ++ [s.rd Reg.AON_CAL.ARMED 0]) ++
    padZero 1024 (s.aon.log.flatMap supplyBytes) ++ s.bbramTamper ++
    (List.range 80).flatMap fun i => match s.tamperIndexed.find? fun x => x.1 = i with
      | some x => tamperBytes x.2
      | none => List.replicate 32 0

/-- A word of BBRAM: the Keeper reserve and the policy area hold what was written there. -/
def State.bbramWord (s : State) (n : Nat) : Nat :=
  if 1024 ≤ n then s.rd Reg.AON_BBRAM.DATA n
  else
    let l := s.bbramLow
    ((List.range 4).map fun k => l.getD (4 * n + k) 0 * 256 ^ k).foldl (· + ·) 0

/-- Put `v` into the 32-bit word `k` of a number. -/
def putWord (x k v : Nat) : Nat := x - x / 2 ^ (32 * k) % 2 ^ 32 * 2 ^ (32 * k) + v % 2 ^ 32 * 2 ^ (32 * k)

/-- A write of a word of BBRAM: of the covered part the Keeper's own fields, whose CRC follows (R430); the areas of the AON domain and the tamper area ignore
it (log entry 23). -/
def State.bbramWrite (s : State) (n v : Nat) : State :=
  if 1024 ≤ n then s.wr Reg.AON_BBRAM.DATA n v
  else if n = 1 then
    let s := s.wr Reg.TMP_STATUS.LOCK_FLAG 0 (v / 256 % 2)
    if v / 512 % 2 = 0 then { s with key.head := none } else { s with key.head := some (s.key.head.getD 0) }
  else if 8 ≤ n ∧ n < 16 then { s with key.secretS := putWord s.key.secretS (n - 8) v }
  else if n = 16 ∨ n = 17 then { s with key.head := s.key.head.map fun h => putWord h (n - 16) v }
  else if n = 32 then s.wr Reg.SCV_ANCHOR_ID.ID 0 v
  else if n = 33 ∨ n = 34 then s.wr Reg.SCV_ANCHOR_TICKS.TICKS 0 (putWord (s.rd Reg.SCV_ANCHOR_TICKS.TICKS 0) (n - 33) v)
  else if n = 35 ∨ n = 36 then s.wr Reg.SCV_ANCHOR_UTC.MS 0 (putWord (s.rd Reg.SCV_ANCHOR_UTC.MS 0) (n - 35) v)
  else if n = 37 then { s with scv.uncert := v }
  else s

/-! ### Fields that show other state -/

/-- 1 for true. -/
def bit (b : Bool) : Nat := if b then 1 else 0

/-- What a rank shows (07, R307), 0 where it does not exist. -/
def State.ofRank (s : State) (r : Nat) (f : RankRt → Nat) : Nat := match s.rank? r with | some x => f x | none => 0

/-- FREE extents (05): those never used among them. -/
def State.freeExtents (s : State) : Nat :=
  if !s.isSet Reg.EXT_STATUS.TABLE_VALID 0 then 0
  else (if s.key.freshGen ≤ 0xFFFFFF then extentSpace - s.key.ext.length else 0) + (s.key.ext.filter fun x => x.2.st = .free).length

/-- RETIRED extents (05). -/
def State.retiredExtents (s : State) : Nat :=
  if !s.isSet Reg.EXT_STATUS.TABLE_VALID 0 then 0
  else (if s.key.freshGen ≤ 0xFFFFFF then 0 else extentSpace - s.key.ext.length) + (s.key.ext.filter fun x => x.2.st = .retired).length

/-- PKE jobs of a class that wait (06). -/
def State.waitingJobs (s : State) (c : Nat) : Nat := (s.scv.jobs.filter fun j => j.cls = c).length

/-- The SMBus slave responds (19, R626): from the end of boot step 2 until READY is left. -/
def State.smbOn (s : State) : Bool := s.mainOn && 3 ≤ s.rd Reg.PTR_STATUS.STAGE 0

/-- The core, DMA and interrupt fields that show other state (12, 13, 14). -/
def coreViews : List (Fld × (State → Nat → Nat)) := [
  (Reg.POL_CORE_STATUS.STATE, fun s c => match (s.core c).run with | .held => 0 | .running => 1 | .idle => if s.wakes c then 1 else 2),
  (Reg.POL_CORE_STATUS.PAM, fun s c => bit (s.core c).pam),
  (Reg.POL_CORE_STATUS.DF, fun s c => bit (s.core c).df),
  (Reg.POL_CORE_STATUS.CMDOUT, fun s c => (s.cpu.polCmds.filter fun p => p.core = c).length),
  (Reg.POL_CORE_PC.PC, fun s c => (s.core c).lastPc.toNat),
  (Reg.POL_CORE_EPOCH.EPOCH, fun s c => (s.core c).epochAck),
  (Reg.POL_ROUTE.MASK, fun s _ => s.setting 0x9001),
  (Reg.KPR_STATUS.PENDING, fun s _ => s.kcallsOpen),
  (Reg.ICU_PEEK.VALID, fun s c => bit (s.bestSource c).isSome),
  (Reg.ICU_PEEK.LEVEL, fun s c => match s.bestSource c with | some b => s.srcLevel c b | none => 0),
  (Reg.ICU_PEEK.ID, fun s c => (s.bestSource c).getD 0),
  (Reg.ICU_CORE_LEVEL.THRESH, fun s c => s.rd Reg.ICU_THRESH.THRESH c),
  (Reg.ICU_CORE_LEVEL.NEST, fun s c => s.rd Reg.ICU_NEST.NEST c),
  (Reg.MPU_STATUS.ENABLED, fun s c => ((List.range 16).filter fun r => s.isSet Reg.MPU_RGN_ATTR.EN (c * 16 + r)).length),
  (Reg.MPU_TAG_GET.COLOUR, fun s c => (s.colourAt c (s.rd Reg.MPU_TAG_ADDR.ADDR c * 64)).getD 0)]

/-- The host, lane, Scrivener and media fields that show other state (02, 04, 06, 07, 21). -/
def pathViews : List (Fld × (State → Nat → Nat)) := [
  (Reg.FN_STATUS.QUOTA, fun s f => s.rd Reg.HIF_FN_CFG.QUOTA f),
  (Reg.FN_STATUS.TENANT, fun s f => s.rd Reg.HIF_FN_CFG.TENANT f),
  (Reg.FN_STATUS.STATE, fun s f => s.rd Reg.HIF_FN_CFG.STATE f),
  (Reg.FN_STATUS.POWER, fun s _ => s.power),
  (Reg.FN_STATUS.LOCKED, fun s _ => bit (s.lifecycle = 3)),
  (Reg.QMS_POOL.SIZE, fun s c => s.setting (0x0010 + c)),
  (Reg.SLA_LSC.POOL, fun s _ => s.setting 0x3010),
  (Reg.SCV_SCO.POOL, fun s _ => s.setting 0x4010),
  (Reg.SCV_BATCH_OPEN.OPEN, fun s _ => bit (s.scv.entries ≠ [])),
  (Reg.SCV_BATCH_OPEN.ENTRIES, fun s _ => s.scv.entries.length),
  (Reg.SCV_ORPHANS.COUNT, fun s _ => s.led.orphans.length),
  (Reg.PKE_STATUS.OUT, fun s _ => 15 - s.rd Reg.PKE_STATUS.INSERVICE 0),
  (Reg.PKE_QUEUE.BATCH, fun s _ => s.waitingJobs 1),
  (Reg.PKE_QUEUE.KEEPER, fun s _ => s.waitingJobs 2),
  (Reg.PKE_QUEUE.KCALL, fun s _ => s.waitingJobs 3),
  (Reg.MPX_PRESENT.PRESENT, fun s c => ((List.range 32).map fun i => s.rd Reg.MPX_PORT_STATUS.PRESENT (32 * c + i) * 2 ^ i).foldl (· + ·) 0),
  (Reg.CPR_BUILDERS.POOL, fun s _ => s.setting 0x4011),
  (Reg.CPR_BUILDERS.OCC, fun s _ => s.builders),
  (Reg.CPR_RANK_STATUS.STATE, fun s r => s.rankState r),
  (Reg.CPR_RANK_STATUS.UNIT, fun s r => s.ofRank r fun x => bit x.unit64),
  (Reg.CPR_RANK_STATUS.OUT, fun s r => s.ofRank r RankRt.out),
  (Reg.CPR_RANK_STATUS.M, fun s r => s.ofRank r RankRt.m),
  (Reg.CPR_RANK_STATUS.K, fun s r => s.ofRank r RankRt.k),
  (Reg.CPR_RANK_GEN.G, fun s r => s.ofRank r RankRt.gen),
  (Reg.CPR_RANK_BAYS.BAYS, fun s r => s.ofRank r RankRt.bays),
  (Reg.CPR_RANK_FREE.FREE, fun s r => s.ofRank r RankRt.freeCount),
  (Reg.CPR_RANK_LOG.LOGBAYS, fun s r => s.ofRank r fun x => x.logBays.length),
  (Reg.CPR_RANK_SLOT.STATE, fun s k => match (s.rank? (k / 20)).bind fun x => x.slots[k % 20]? with | some y => y.st | none => 3),
  (Reg.CPR_RANK_SLOT.PORT, fun s k => match (s.rank? (k / 20)).bind fun x => x.slots[k % 20]? with | some y => y.port | none => 0)]

/-- The key and extent fields that show other state (05). -/
def keyViews : List (Fld × (State → Nat → Nat)) := [
  (Reg.STR_STATUS.TENANTS, fun s _ => (s.key.tenants.filter fun x => x.2.st = 1).length),
  (Reg.STR_STATUS.POLICY, fun s _ => (s.key.slots.filter fun x => x.2.ty = 2).length),
  (Reg.STR_UCACHE.OCC, fun s _ => s.key.ucache.length),
  (Reg.STR_DKC.OCC, fun s _ => s.key.dkc.length),
  (Reg.STR_TENANT.STATE, fun s t => (s.tenant t).st),
  (Reg.STR_TENANT.CACHED, fun s t => bit (s.key.ucache.contains t)),
  (Reg.EXT_FREE.COUNT, fun s _ => s.freeExtents),
  (Reg.EXT_RETIRED.COUNT, fun s _ => s.retiredExtents),
  (Reg.EXT_RESERVE.COUNT, fun s _ => s.key.reserve.length),
  (Reg.EXT_TENANT_USED.OVER, fun s t => bit ((s.tenant t).st ≠ 0 && (s.tenant t).extQuota ≤ s.tenantUse t)),
  (Reg.EXT_TENANT_USED.USED, fun s t => s.tenantUse t),
  (Reg.EXT_TENANT_QUOTA.QUOTA, fun s t => (s.tenant t).extQuota),
  (Reg.EXT_TENANT_OPEN.OPEN, fun s t => ((s.tenant t).opens.filter fun p => p.cur ≠ 0).length),
  (Reg.EXT_TENANT_OPEN.OPENW, fun s t => (s.tenant t).openw),
  (Reg.EXT_TENANT_RANKS.MASK, fun s t => (s.tenant t).rankMask)]

/-- The always-on, tamper, card, Nameplate and board fields that show other state (11, 16, 17, 18, 19). -/
def boardViews : List (Fld × (State → Nat → Nat)) := [
  (Reg.AON_STATUS.ALERT, fun s _ => bit s.alert),
  (Reg.AON_BBRAM.DATA, fun s n => s.bbramWord n),
  (Reg.TMP_PERIOD.TICKS, fun s _ => s.setting 0x7001),
  (Reg.TMP_SESSION_LEFT.SECONDS, fun s _ => s.sessionLeft),
  (Reg.TMP_ACTIONS.SET, fun s n => s.actionSet n),
  (Reg.CRD_SET_STATUS.SN, fun s _ => s.crd.staged.length),
  (Reg.CRD_SET_STATUS.STAGED, fun s _ => (s.crd.staged.map fun x => 2 ^ x.1).foldl (· + ·) 0),
  (Reg.CRD_CARD.CARDID, fun s c => match Tab.find c s.crd.cards with | some e => e.id | none => 0),
  (Reg.CRD_CARD_INFO.VALID, fun s c => bit (Tab.find c s.crd.cards).isSome),
  (Reg.NPL_STATUS.FIELD, fun s _ => bit (s.npl.tag ≠ .off)),
  (Reg.NPL_STATUS.SELECTED, fun s _ => bit s.selected),
  (Reg.NPL_STATUS.AUTH, fun s _ => bit s.npl.auth),
  (Reg.NPL_STATUS.KEYSET, fun s _ => bit (s.npl.key ≠ 0)),
  (Reg.NPL_STATUS.LOCKED_PAGE, fun s _ => bit s.npl.lock.isSome),
  (Reg.NPL_STATUS.PAGE, fun s _ => match s.npl.lock with | some l => l.page | none => 0),
  (Reg.NPL_UPD_STATUS.KBUSY, fun s _ => bit s.kbusy),
  (Reg.NPL_UPD_STATUS.PBUSY, fun s _ => bit s.pbusy),
  (Reg.NPL_UPD_STATUS.ABUSY, fun s _ => bit ((match s.npl.lock with | some l => watchmanPage l.page | none => false) ||
    (List.range 15).any fun p => watchmanPage p && (s.pageDue p).isSome)),
  (Reg.NPL_VER.COPY, fun s p => s.tagSel p),
  (Reg.NPL_VER.VER, fun s p => s.tagVer p),
  (Reg.NPL_AUTH_CTR.CTR, fun s _ => s.npl.ctr),
  (Reg.NPL_AUTH_FAIL.COUNT, fun s _ => s.npl.fails),
  (Reg.NPL_MEMO_WRITES.COUNT, fun s _ => s.npl.memos),
  (Reg.SBD_STATUS.SMB_ON, fun s _ => bit s.smbOn),
  (Reg.SBD_STATUS.UART_ON, fun s _ => bit (s.mainOn && s.lifecycle ≤ 1)),
  (Reg.SBD_STATUS.TAP_ON, fun s _ => bit (s.mainOn && s.lifecycle = 0)),
  (Reg.SBD_STATUS.ADDR, fun s _ => s.setting 0x0050)]

/-- Fields whose value shows other state. -/
def views : List (Fld × (State → Nat → Nat)) := coreViews ++ pathViews ++ keyViews ++ boardViews

/-- The value a field reads: what other state gives it, or what the register file holds. -/
def State.fieldView (s : State) (f : Fld) (i : Nat) : Nat :=
  match views.find? fun v => v.1.id = f.id with
  | some v => v.2 s i % 2 ^ f.width
  | none => s.rd f i

/-- A register of a lane group, lane or port that the CX4-128-IT has fused off reads 0 and ignores writes (00, R3), but for
SLA_GRP_STATUS.FUSED. -/
def fusedOff (d : RegDef) (i : Nat) : Bool :=
  Config.part128 &&
    ((d.name.startsWith "SLA_LANE" && 128 ≤ i && i < 256) ||
     (d.name.startsWith "SLA_GRP" && d.name != "SLA_GRP_STATUS" && 8 ≤ (if d.name = "SLA_GRP_MAP" then i / 16 else i)) ||
     (d.name.startsWith "MPX_PORT" && 64 ≤ (if d.name = "MPX_PORT_NGUID" then i / 4 else i)) ||
     ((d.name.startsWith "CPR_COM" || d.name.startsWith "ASY_DRIVE") && 64 ≤ i))

/-- The whole value of a register (00, R10: a WO field reads 0; R11: reserved bits read 0). -/
def State.readReg (s : State) (d : RegDef) (i : Nat) : Nat :=
  if fusedOff d i then 0
  else d.fields.foldl (fun v x => if x.acc = .wo then v else v + s.fieldView x.fld i * 2 ^ x.lo) 0

/-- The register reads as 32 bits at a model address; an address that names no register reads 0 (00, R11). -/
def State.readWord (s : State) (a : Nat) : Nat :=
  match findReg a with
  | some (d, i, hi) => if hi then s.readReg d i / 2 ^ 32 else s.readReg d i % 2 ^ 32
  | none => 0


end Sys2Proof.Machine
end

