-- ==== Sys2Proof/Machine/Bus.lean ====
section
/-!
DEFINITION. Machine/Bus.lean: reads and writes of registers by their address (21, R638–R640; 00, R10, R11): the effect a register's own rule gives a write,
the effect of a write on fields by their access types, and the halves of 64-bit registers.
-/

namespace Sys2Proof.Machine

/-- Gates that a chapter puts on writes to a register: queue configuration while the queue runs (02, R55), outgoing messages while
OUT_FULL (02, R80), MPU regions while EN = 1 (14, R502), dirty-log overflow until STOP (02, R88). -/
def State.writeGate (s : State) (d : RegDef) (i : Nat) : Bool :=
  if d.name = "QSQ_BASE" ∨ d.name = "QCQ_BASE" ∨ d.name = "QSHADOW" ∨ d.name = "QCOAL" then
    !s.isSet Reg.QCTRL.EN i && !s.isSet Reg.QCTRL.ACTIVE i
  else if d.name = "MPU_RGN_BASE" ∨ d.name = "MPU_RGN_LIMIT" ∨ d.name = "MPU_RGN_ATTR" then !s.isSet Reg.MPU_CTRL.EN (i / 16)
  else if d.name = "FN_DLOG_STATUS" then !s.isSet Reg.FN_DLOG_STATUS.ACTIVE i
  else if d.name = "MBX_OUT" then !s.isSet Reg.MBX_STATUS.OUT_FULL (i / 16)
  else if d.name = "PEER_OUT" then !s.isSet Reg.MBX_STATUS.IN_FULL (i / 16)
  else true

/-- A write of `v` to one field by its access type (00, R10). -/
def State.writeField (s : State) (x : RegField) (i v : Nat) : State :=
  match x.acc with
  | .ro => s
  | .wo => s
  | .rw => s.wr x.fld i v
  | .w1c => if v = 0 then s else s.wr x.fld i (s.rd x.fld i - (s.rd x.fld i &&& v))
  | .rws => if v = 0 then s else s.wr x.fld i (s.rd x.fld i ||| v)
  | .rwz => if v = 0 then s.wr x.fld i 0 else s

/-- The shared source that a block's event or enable register feeds, if any. -/
def regSource (d : RegDef) : Option Nat :=
  (Ev.list.find? fun e => d.fields.any fun x => x.fld.id = e.fld.id || x.fld.id = e.en.id).map (·.src)

/-- A write of a whole register value, field by field; where the register feeds a level source and its input rises, the source is
asserted (13, R480, R481). The low bits of a queue's base addresses are kept for the check of 02, R55. -/
def State.writeReg (s : State) (d : RegDef) (i v : Nat) : State :=
  if fusedOff d i || !s.writeGate d i then s
  else
    let t := d.fields.foldl (fun t x => t.writeField x i (v / 2 ^ x.lo % 2 ^ x.fld.width)) s
    match regSource d with
    | some n => s.riseOf n t
    | none => if d.name = "QSQ_BASE" then t.setQ (i / 64) (i % 64) { t.qrt (i / 64) (i % 64) with sqLow := v % 64 }
      else if d.name = "QCQ_BASE" then t.setQ (i / 64) (i % 64) { t.qrt (i / 64) (i % 64) with cqLow := v % 16 }
      else if d.name = "ICU_TCMP" then s.timerRise i t
      else if d.name = "RNG_RAW_STATUS" && v % 65536 ≠ 0 then t.wr Reg.RNG_RAW_STATUS.DROPPED 0 0 else t

/-- The state that an outcome gives. -/
def after (r : Res) (s : State) : State := match r with | .next t => t | _ => s

/-- A number as an index below `n`. -/
def idx (n : Nat) [NeZero n] (k : Nat) : Fin n := Fin.ofNat n k

/-- A write of a function-window register (02), in the index of the function window. -/
def State.windowWrite (s : State) (name : String) (i v : Nat) : Option State :=
  let w : BitVec 32 := BitVec.ofNat 32 v
  let f : Fn := idx 256 i
  let fq : Fn := idx 256 (i / 64)
  let q : Q := idx 64 i
  let both (peer : Bool) : State :=
    let s := if v % 2 = 1 then after (execMbxPost f peer s) s else s
    if v / 2 % 2 = 1 then after (execMbxAck f peer s) s else s
  match name with
  | "FN_SQT" => some (after (execFnSqtWrite fq q w s) s)
  | "FN_CQH" => some (after (execFnCqhWrite fq q w s) s)
  | "QCTRL" => some (after (if w.getLsbD 31 then execQctrlEnable fq q w s else execQctrlDisable fq q s) s)
  | "MBX_OUT" => some (after (execMbxOutWrite (idx 256 (i / 16)) false (idx 16 i) w s) s)
  | "PEER_OUT" => some (after (execMbxOutWrite (idx 256 (i / 16)) true (idx 16 i) w s) s)
  | "MBX_CTRL" => some (both false)
  | "PEER_CTRL" => some (both true)
  | "FN_EVENT_EN" => some (after (execFnEventEnWrite f w s) s)
  | "FN_DLOG_HEAD" => some (after (execFnDlogHeadWrite (idx 256 (i / 8)) (idx 8 i) w s) s)
  | _ => none

/-- A write of a register of the record path (02, 04, 05, 07, 08, 09). -/
def State.pathWrite (s : State) (m : Fin 16) (name : String) (i v : Nat) : Option State :=
  let w : BitVec 32 := BitVec.ofNat 32 v
  let one (b : Nat) (r : State → Res) (t : State) : State := if v / 2 ^ b % 2 = 1 then after (r t) t else t
  match name with
  | "DEV_RESET" => some (after (execAdminReset m w s) s)
  | "SLA_LANE_CTRL" => some (one 1 (execLaneTest m (idx 264 i)) (one 0 (execLaneReset m (idx 264 i) (w.getLsbD 2)) s))
  | "SLA_GRP_CTRL" => some (one 0 (execGroupReset m (idx 16 i) (w.getLsbD 1)) s)
  | "SLA_CTRL" => some (one 0 (execResetAll m (w.getLsbD 1)) s)
  | "SLA_RETIRED" => some (after (execLaneRetireWrite m (idx 9 i) w s) s)
  | "STR_CTRL" => some (one 1 (execStrDkcFlush m) (one 0 (execStrEraseCache m) s))
  | "EXT_CTRL" => some (one 1 (execExtJcommit m) (one 0 (execExtPersist m) s))
  | "MPX_PORT_CTRL" => some ((one 0 (execMpxPortReset m (idx 128 i)) s).wr Reg.MPX_PORT_CTRL.LOCATE i (v / 4))
  | "ASY_CTRL" => some (after (execAsyCtrlWrite m w s) s)
  | "RNG_CTRL" => some (after (execRngCtrlReseed m (BitVec.ofNat 4 v) s) s)
  | "RNG_RAW_CTRL" => some (after (execRngRawCtrlWrite m w s) s)
  | _ => none

/-- A write of a register of the cores, the interrupt controller, the firewall and the flash (12, 13, 14, 15). -/
def State.coreWrite (s : State) (m : Fin 16) (name : String) (i v : Nat) : Option State :=
  match name with
  | "FWL_CTRL" => some (if v % 2 = 1 then after (execFwlCommit m s) s else s)
  | "ICU_TAKE" => some (s.takeWrite i (v % 512))
  | "ICU_RETIRE" => some (s.retire i (v % 16))
  | "ICU_SWI" => some (s.swiWrite v)
  | "ICU_SRC_CFG" => some (s.srcCfgWrite i v)
  | "ICU_PCFG" => some (s.pcfgWrite (i / 32) (i % 32) v)
  | "MPU_CTRL" => some (s.mpuCtrlWrite i v)
  | "MPU_RGN_BASE" => some (s.mpuRegionWrite (i / 16) (i % 16) 0 v)
  | "MPU_RGN_LIMIT" => some (s.mpuRegionWrite (i / 16) (i % 16) 1 v)
  | "MPU_RGN_ATTR" => some (s.mpuRegionWrite (i / 16) (i % 16) 2 v)
  | "MPU_TAG_SET" => some (s.tagSetWrite i v)
  | "POL_CORE_CTRL" => some (s.coreCtrlWrite i v)
  | "POL_DMA_CTRL" => some (s.dmaCtrlWrite i v)
  | "POL_CMD_DONE" => some (s.cmdDoneWrite i v)
  | "EFL_IF_CMD" =>
    let b : Fin 2 := idx 2 (i / 2)
    let k : Fin 2 := idx 2 i
    some (after (match v % 8 with
      | 1 => execFlashProgram m b k s
      | 2 => execFlashErase m b k s
      | 3 => execFlashSuspend m b k s
      | 4 => execFlashResume m b k s
      | _ => .next s) s)
  | _ => none

/-- A write of a register of the always-on domain, Watchman, the card interface and the Nameplate (11, 16, 17, 18). OTP_CTRL.REREAD, TMP_CTRL.TEST and
AON_CTRL.XTAL32_RETRY start work whose result comes from outside: they act by their own rows only (log entry 25). -/
def State.boardWrite (s : State) (m : Fin 16) (name : String) (i v : Nat) : Option State :=
  let w : BitVec 32 := BitVec.ofNat 32 v
  match name with
  | "AON_CTRL" => some (if v / 2 % 2 = 1 then after (execClearFails m s) s else s)
  | "AON_BBRAM" => some (s.bbramWrite i v)
  | "TMP_LATCHED" => some (after (execTmpLatchedWrite m w s) s)
  | "CRD_CTRL" => some (if v % 2 = 1 then after (execCrdDeact m s) s else s)
  | "CRD_SET_CTRL" =>
    let x : BitVec 3 := BitVec.ofNat 3 (v / 4)
    some (after (match v % 4 with
      | 0 => execEnrol m x s
      | 1 => execRevoke m x s
      | 2 => execCustodianCommit m (BitVec.ofNat 3 (v / 256)) s
      | _ => execCustodianDiscard m s) s)
  | "NPL_KUPD" => some (s.kupdWrite v)
  | "NPL_PUPD" => some (s.pupdWrite v)
  | "NPL_RD_CTRL" => some (s.rdCtrlWrite v)
  | "NPL_KEY" => some (s.wr Reg.NPL_KEY.KEY i v)
  | "NPL_KEY_CTRL" =>
    let s := if v % 2 = 1 then s.keySet else s
    some (if v / 2 % 2 = 1 then s.keyClear else s)
  | _ => none

/-- The write of a whole register: by the rule of its own, where it has one, otherwise by the access types of its fields. -/
def State.applyWrite (s : State) (m : Fin 16) (d : RegDef) (i v : Nat) : State :=
  if fusedOff d i then s
  else match s.windowWrite d.name i v with
    | some t => t
    | none => match s.pathWrite m d.name i v with
      | some t => t
      | none => match s.coreWrite m d.name i v with
        | some t => t
        | none => match s.boardWrite m d.name i v with
          | some t => t
          | none => s.writeReg d i v

/-- The key of the latches of a 64-bit register (R640): who accesses it, and the address of its low word. -/
def halfKey (who a : Nat) : Nat := who * 2 ^ 34 + a

/-- A register holds software-writable fields (R640's "RW register"). -/
def RegDef.isRw (d : RegDef) : Bool := d.fields.any fun x => decide (x.acc = .rw)

/-- A 32-bit write at a model address (R640): the low word of a 64-bit RW register is held until its high word is written. -/
def State.wordWrite (s : State) (who : Nat) (m : Fin 16) (a v : Nat) : State :=
  match findReg a with
  | none => s
  | some (d, i, hi) =>
    if d.width ≠ 64 then s.applyWrite m d i v
    else if !d.isRw then s.applyWrite m d i (if hi then v * 2 ^ 32 else v)
    else if hi then
      let low := match Tab.find (halfKey who (a - 4)) s.cpu.halfWrite with | some l => l | none => s.readReg d i % 2 ^ 32
      ({ s with cpu.halfWrite := Tab.del (halfKey who (a - 4)) s.cpu.halfWrite }).applyWrite m d i (v * 2 ^ 32 + low)
    else { s with cpu.halfWrite := Tab.put (halfKey who a) v s.cpu.halfWrite }

/-- A write of a whole register at a model address: 64 bits where the register has 64. -/
def State.wholeWrite (s : State) (who : Nat) (m : Fin 16) (a v : Nat) : State :=
  match findReg a with
  | none => s
  | some (d, i, hi) => if d.width = 64 && !hi then s.applyWrite m d i v else s.wordWrite who m a (v % 2 ^ 32)

/-- A 32-bit read at a model address, with its effect: the latch of a high word (R640), the raw FIFO's next word (09, R361). -/
def State.wordRead (s : State) (who : Nat) (a : Nat) : Nat × State :=
  match findReg a with
  | none => (0, s)
  | some (d, i, hi) =>
    if d.name = "RNG_RAW_DATA" then
      if s.rngState ≠ 4 then (0, s)
      else
        let t : State := { s with rng.fifo := s.rng.fifo.tail }
        (s.rng.fifo.headD 0, t.wr Reg.RNG_RAW_STATUS.LEVEL 0 t.rng.fifo.length)
    else if d.width ≠ 64 then (s.readReg d i, s)
    else if hi then
      match Tab.find (halfKey who (a - 4)) s.cpu.halfRead with
      | some v => (v, { s with cpu.halfRead := Tab.del (halfKey who (a - 4)) s.cpu.halfRead })
      | none => (s.readReg d i / 2 ^ 32, s)
    else (s.readReg d i % 2 ^ 32, { s with cpu.halfRead := Tab.put (halfKey who a) (s.readReg d i / 2 ^ 32) s.cpu.halfRead })

/-- A private interrupt bank is its core's own (13, R493): no other master reaches it. -/
def bankForeign (m a : Nat) : Bool := 0x50000000 ≤ a && a < 0x60000000 && (coreOfMaster m).isNone

/-- The model address of an address in a virtual function's window (02, R53). -/
def windowAddr (f a : Nat) : Nat := 0x100000000 + f * 0x10000 + a % 0x10000

/-- A function's window answers its host (02, R47, R51). -/
def State.windowOpen (s : State) (f : Nat) : Bool := s.mainOn && s.fnExists f && !isPf f

/-- REGISTER_WRITE (00, R10; 21, R639, R640). -/
def execRegisterWrite (via : Via) (a : BitVec 32) (v : BitVec 64) (s : State) : Res :=
  .next <|
    match via with
    | .master m => s.guardWrite m.val a.toNat fun s => if bankForeign m.val a.toNat then s else s.wholeWrite m.val m (mapAddr m.val a.toNat) v.toNat
    | .window f => if s.windowOpen f.val then s.wholeWrite (16 + f.val) 3 (windowAddr f.val a.toNat) v.toNat else s

/-- A 32-bit read by a master: denied, it returns 0 and is reported; a core's is also recorded in its MPU registers (14, R509, R513). -/
def State.masterRead (s : State) (m a : Nat) : State :=
  if !s.mainOn || bankForeign m a then s
  else match s.denied m a false with
    | some r =>
      let s := s.recordDenial m a r false
      match coreOfMaster m with
      | some c => s.mpuFault c a 6 1
      | none => s.send (.regRead m a 0)
    | none =>
      let x := s.wordRead m (mapAddr m a)
      x.2.send (.regRead m a x.1)

/-- REG64_HALF_ACCESS (21, R640): a 32-bit read or write of half a 64-bit register. -/
def execReg64HalfAccess (via : Via) (a : BitVec 32) (write : Bool) (v : BitVec 32) (s : State) : Res :=
  .next <|
    match via, write with
    | .master m, true => s.guardWrite m.val a.toNat fun s =>
        if bankForeign m.val a.toNat then s else s.wordWrite m.val m (mapAddr m.val a.toNat) v.toNat
    | .master m, false => s.masterRead m.val a.toNat
    | .window f, true => if s.windowOpen f.val then s.wordWrite (16 + f.val) 3 (windowAddr f.val a.toNat) v.toNat else s
    | .window f, false =>
      if s.windowOpen f.val then
        let x := s.wordRead (16 + f.val) (windowAddr f.val a.toNat)
        x.2.send (.regRead (16 + f.val) a.toNat x.1)
      else s

end Sys2Proof.Machine
end

