-- ==== Sys2Proof/Machine/Operands.lean ====
section
/-!
DEFINITION. Machine/Operands.lean: the operands of Apulrum instructions (12, R440–R447): general and wide registers, immediates, effective addresses, branch
targets, words of wide registers, and the values of the general-register operations.
-/

namespace Sys2Proof.Machine

/-- Read a general register: g0 reads as zero (R440). -/
def Core.rg (x : Core) (r : G) : Word := if r = 0 then 0 else x.g[r.val]

/-- Write a general register: a write to g0 is discarded (R441). -/
def Core.sg (x : Core) (r : G) (v : Word) : Core := if r = 0 then x else { x with g := x.g.set r.val v }

/-- Read a wide register. -/
def Core.rw (x : Core) (r : W) : Wide := x.w[r.val]

/-- Write a wide register. -/
def Core.sw (x : Core) (r : W) (v : Wide) : Core := { x with w := x.w.set r.val v }

/-- An immediate, sign-extended (R444). -/
def sx (i : Imm16) : Word := i.signExtend 32

/-- An immediate, zero-extended (R444). -/
def zx (i : Imm16) : Word := i.setWidth 32

/-- The address of an M-format access (R445). -/
def Core.addr (x : Core) (base : G) (off : Imm16) : Word := x.rg base + sx off

/-- The target of a branch of word offset `off` at the pc (R446). -/
def Core.branch (x : Core) (off : Imm16) : Word := x.pc + sx off * 4

/-- The target of J and CALL (R446). -/
def Core.jump (x : Core) (off : BitVec 26) : Word := x.pc + off.signExtend 32 * 4

/-- Word `i` of a wide register, word 0 in bits [31:0] (R440, R447). -/
def wideWord (v : Wide) (i : W) : Word := (v >>> (32 * i.val)).setWidth 32

/-- A wide value with word `i` replaced (R447). -/
def setWideWord (v : Wide) (i : W) (x : Word) : Wide :=
  (v &&& ~~~((0xFFFFFFFF : Wide) <<< (32 * i.val))) ||| (x.setWidth 256 <<< (32 * i.val))

/-- 1 or 0 (R442). -/
def wordOf (b : Bool) : Word := if b then 1 else 0

/-- The amount of a shift by a register (R442). -/
def amount (x : Word) : Nat := x.toNat % 32

/-- High 32 bits of a signed product (R442). -/
def mulHigh (a b : Word) : Word := BitVec.ofInt 32 (a.toInt * b.toInt / 2 ^ 32)

/-- High 32 bits of an unsigned product (R442). -/
def mulHighU (a b : Word) : Word := BitVec.ofNat 32 (a.toNat * b.toNat / 2 ^ 32)

/-- The signed quotient, rounded toward zero; of 0x8000_0000 by −1 it is 0x7FFF_FFFF (R441, R442). -/
def quotient (a b : Word) : Word := if a = 0x80000000 ∧ b = 0xFFFFFFFF then 0x7FFFFFFF else BitVec.ofInt 32 (a.toInt.tdiv b.toInt)

/-- The signed remainder, with the sign of the dividend; of 0x8000_0000 and −1 it is 0 (R441, R442). -/
def remainder (a b : Word) : Word := if a = 0x80000000 ∧ b = 0xFFFFFFFF then 0 else BitVec.ofInt 32 (a.toInt.tmod b.toInt)

/-- Leading zeros of a value that has `n` bits left to look at (R442). -/
def leadingZeros (v : Nat) : Nat → Nat
  | 0 => 0
  | n + 1 => if v.testBit n then 0 else leadingZeros v n + 1

/-- Set bits among the low `n` (R442). -/
def setBits (v : Nat) : Nat → Nat
  | 0 => 0
  | n + 1 => setBits v n + (if v.testBit n then 1 else 0)

/-- The bytes reversed (R442). -/
def byteSwap (x : Word) : Word :=
  (x <<< 24) ||| ((x &&& 0xFF00) <<< 8) ||| ((x >>> 8) &&& 0xFF00) ||| (x >>> 24)

/-- A byte or halfword, sign-extended to a word (R445). -/
def signTo (bytes v : Nat) : Word := if bytes = 1 then (BitVec.ofNat 8 v).signExtend 32 else if bytes = 2 then (BitVec.ofNat 16 v).signExtend 32 else BitVec.ofNat 32 v

end Sys2Proof.Machine
end

