-- ==== Sys2Proof/Machine/Flags.lean ====
section
/-!
DEFINITION. Machine/Flags.lean: the values and flags of the wide operations (12, R447): C, Z and LT are bits 0, 1 and 2 of WFLAGS; each operation gives its
result, the flags it names (a mask) and their values.
-/

namespace Sys2Proof.Machine

/-- A wide result: the value, the flags named, their values. -/
structure WideResult where
  value : Wide
  mask : Nat
  flags : Nat
  deriving DecidableEq, Repr

/-- Z for a value (R447). -/
def zFlag (v : Wide) : Nat := if v = 0 then 2 else 0

/-- The C flag of a set of flags, as a number. -/
def cFlag (flags : Nat) : Nat := flags % 2

/-- A sum with C and Z (R447). -/
def wideAdd (a b : Wide) (c : Nat) : WideResult :=
  let t := a.toNat + b.toNat + c
  let v : Wide := BitVec.ofNat 256 t
  ⟨v, 3, (if 2 ^ 256 ≤ t then 1 else 0) + zFlag v⟩

/-- A difference: C is the borrow; Z (R447). -/
def wideSub (a b : Wide) (c : Nat) : WideResult :=
  let v : Wide := a - b - BitVec.ofNat 256 c
  ⟨v, 3, (if a.toNat < b.toNat + c then 1 else 0) + zFlag v⟩

/-- A result that sets Z only (R447). -/
def wideZ (v : Wide) : WideResult := ⟨v, 2, zFlag v⟩

/-- A result that names no flag. -/
def widePlain (v : Wide) : WideResult := ⟨v, 0, 0⟩

/-- WCMP: Z and LT, unsigned (R447). -/
def wideCompare (a b : Wide) : WideResult := ⟨0, 6, (if a = b then 2 else 0) + (if a.toNat < b.toNat then 4 else 0)⟩

/-- The product of the low halves (R447). -/
def wideMul (a b : Wide) : Wide := BitVec.ofNat 256 (a.toNat % 2 ^ 128 * (b.toNat % 2 ^ 128))

/-- The product of the high halves (R447). -/
def wideMulHigh (a b : Wide) : Wide := BitVec.ofNat 256 (a.toNat / 2 ^ 128 * (b.toNat / 2 ^ 128))

/-- The modular product (R447). -/
def wideModMul (a b m : Wide) : Wide := BitVec.ofNat 256 (a.toNat * b.toNat % m.toNat)

/-- The carry-less product of the low halves: over the set bits of `b` (R447). -/
def carryless (a b : Wide) : Wide :=
  (List.range 128).foldl (fun (v : Wide) (i : Nat) => if b.getLsbD i then v ^^^ ((a.setWidth 128).setWidth 256 <<< i) else v) 0

/-- The product of two bytes in GF(2⁸) with polynomial 0x11D (R447). -/
def gf8Byte (a b : Nat) : Nat :=
  let step (p : Nat × Nat) (i : Nat) : Nat × Nat :=
    ((if b.testBit i then p.1 ^^^ p.2 else p.1), if 128 ≤ p.2 then (p.2 * 2) ^^^ 0x11D else p.2 * 2)
  ((List.range 8).foldl step (0, a)).1

/-- The product byte by byte (R447). -/
def gf8Mul (a b : Wide) : Wide :=
  (List.range 32).foldl (fun (v : Wide) (i : Nat) =>
    v ||| (BitVec.ofNat 256 (gf8Byte (a.toNat / 256 ^ i % 256) (b.toNat / 256 ^ i % 256)) <<< (8 * i))) 0

/-- WFLAGS after an operation commits: the flags it names. -/
def mergeFlags (old mask flags : Nat) : Nat := (old &&& (7 - mask)) ||| (flags &&& mask)

end Sys2Proof.Machine
end

