-- ==== Sys2Proof/Machine/Cpu.lean ====
section
/-!
DEFINITION. Machine/Cpu.lean: what every Apulrum instruction shares (12, 13): exception and interrupt entry, double fault and lockup, the boundary, the fetch
and its checks, the wait for wide operations, and the commit.
-/

namespace Sys2Proof.Machine

/-- The fabric master of a core (14, R510). -/
def coreMaster (c : Nat) : Nat := if c = 2 then 0 else c + 1

/-- Change a core. -/
def State.mapCore (s : State) (c : Nat) (f : Core → Core) : State := s.setCore c (f (s.core c))

/-- Core cycles pass: how many is a free value, at least 1 (log entry 3). CYCLE and the HOLD window count them (12, R451; 13, R477); an overrun of the window
comes with its own row, so HOLDCNT stops at 1. -/
def State.elapse (s : State) (c : Nat) : State :=
  let d := s.draw
  d.2.timerRise c (d.2.mapCore c fun x =>
    { x with cycle := (x.cycle + d.1 + 1) % 2 ^ 64, holdcnt := if x.holdOpen then max 1 (x.holdcnt - (d.1 + 1)) else 0 })

/-! ### Entry and return (13, R468–R476) -/

/-- An entry (R468): EPC, ECAUSE, the stacked status, the handler's privilege, the HOLD window closed, the vector. `span` is the code of the entry (R475), `irq`
whether it is an interrupt: behind an interrupt every wide operation issued before it waits for the handler's RETX with its exception (12, R450). -/
def Core.enter (x : Core) (c : Nat) (irq : Bool) (cause vector : Word) (span : Nat) : Core :=
  { x with
    run := .running, epc := x.pc &&& 0xFFFFFFFC, ecause := cause, ppriv := x.priv, pie := x.ie, ie := false, priv := if c = 2 then 2 else 1,
    holdOpen := false, holdcnt := 0, pc := vector, entrySpan := true, entryCode := span,
    wide := x.wide.map fun (o : WideOp) => if irq || o.behind ≠ 0 then { o with behind := o.behind + 1 } else o,
    impHold := if x.impPending.isSome && (irq || x.impHold ≠ 0) then x.impHold + 1 else x.impHold }

/-- The double-fault vector of a core (R470). -/
def doubleVector (c : Nat) : Word := if c = 0 then 0x00000800 else if c = 1 then 0x00200800 else 0x0FFC0800

/-- A double fault (R475): EPC, PPRIV and PIE stay; g2 and DFSP are exchanged. -/
def Core.doubleFault (x : Core) (c second : Nat) : Core :=
  { x with
    df := true, ie := false, holdOpen := false, holdcnt := 0, ecause := BitVec.ofNat 32 (12 + x.entryCode * 2 ^ 24 + second * 2 ^ 16),
    dfsp := x.rg 2, g := x.g.set 2 x.dfsp, pc := doubleVector c, entrySpan := true, entryCode := 12 }

/-- A lockup (R476): a policy core is HELD, its PC kept and its source raised; the Keeper pair restarts. -/
def State.lockup (s : State) (c : Nat) : State :=
  if c = 2 then s.restartKeeper true
  else ((s.wr Reg.ICU_LOCKUP_PC.PC c (s.core c).pc.toNat).holdCore c).assertShared (23 + c)

/-- A fault: a lockup while DF = 1, a double fault in an entry span, otherwise the entry `normal` (R474–R476). The ROM's double-fault handler restarts the Keeper
pair (R476, log entry 27). -/
def State.fault (s : State) (c code : Nat) (normal : Core → Core) : State :=
  let x := s.core c
  if x.df then s.lockup c
  else if x.entrySpan then
    if c = 2 then s.restartKeeper true else (s.mapCore c fun x => x.doubleFault c code).elapse c
  else (s.mapCore c normal).elapse c

/-- A synchronous exception of the instruction at the pc (R470, R471), with EADDR where the code has an address. -/
def State.raise (s : State) (c code : Nat) (addr : Option Word) : State :=
  let s := match addr with | some a => s.mapCore c fun x => { x with eaddr := a } | none => s
  s.fault c code fun x => x.enter c false (BitVec.ofNat 32 code) (x.evbase + 0x40) code

/-- An imprecise exception is taken (R473): WEXC or EADDR is unread until the handler reads it. -/
def State.takeImprecise (s : State) (c code : Nat) (a : Word) : State :=
  let s := s.mapCore c fun x => { x with run := .running, impPending := none, impUnread := true, eaddr := if code = 8 then a else x.eaddr }
  s.fault c code fun x => x.enter c false (BitVec.ofNat 32 (2 ^ 30 + code)) (x.evbase + 0x80) code

/-- An interrupt can be taken (R486): a source is eligible, IE = 1, DF = 0, no HOLD window. -/
def State.canInterrupt (s : State) (c : Nat) : Option Nat :=
  let x := s.core c
  if x.ie && !x.df && !x.holdOpen then s.bestSource c else none

/-- The interrupt is claimed and its level's vector entered (R486, R468, R470). -/
def State.takeInterrupt (s : State) (c id : Nat) : State :=
  let l := s.srcLevel c id
  ((s.claim c id).mapCore c fun x =>
    x.enter c true (BitVec.ofNat 32 (2 ^ 31 + id)) (x.evbase + BitVec.ofNat 32 (0x100 + l * 0x40)) 31).elapse c

/-- The imprecise exception that is to be taken now. -/
def State.impDue (s : State) (c : Nat) : Option (Nat × Word) := if (s.core c).impHold = 0 then (s.core c).impPending else none

/-- The entry taken at a boundary before the instruction there (R474): an imprecise exception, otherwise an interrupt. -/
def State.boundary (s : State) (c : Nat) : Option State :=
  match s.impDue c with
  | some (code, a) => some (s.takeImprecise c code a)
  | none => (s.canInterrupt c).map fun id => s.takeInterrupt c id

/-- A core executes: its domain is clocked, it is not held, the Keeper is not halted, and a policy core is not made idle by READY (11, R410, R413). -/
def State.executes (s : State) (c : Nat) : Bool :=
  s.mainOn && (s.core c).run != .held && (if c = 2 then !s.isSet Reg.KPR_STATUS.HALTED 0 else decide (s.power = 0))

/-- A core that IDLE gates runs again where a source of it is pending at or above the threshold, or an imprecise exception is due (R490). -/
def State.awake (s : State) (c : Nat) : Bool := (s.core c).run != .idle || s.wakes c || (s.impDue c).isSome

/-! ### Commit -/

/-- The instruction commits and the next is at `npc`: POL_CORE_PC, INSTRET (12, R451, R466); the entry span ends (R475). -/
def State.finish (s : State) (c : Nat) (npc : Word) : State :=
  (s.mapCore c fun x => { x with lastPc := x.pc, pc := npc, entrySpan := false, instret := (x.instret + 1) % 2 ^ 64 }).elapse c

/-- It commits, and the next instruction follows. -/
def State.next (s : State) (c : Nat) : State := s.finish c ((s.core c).pc + 4)

/-- It commits with `v` in a general register. -/
def State.give (s : State) (c : Nat) (rd : G) (v : Word) : State := (s.mapCore c fun x => x.sg rd v).next c

/-! ### Wide operations in flight (12, R448–R450) -/

/-- A wide operation commits: its register and flags, or, with its domain fault, an imprecise exception. -/
def State.commitWide (s : State) (c : Nat) (o : WideOp) : State :=
  let s := s.mapCore c fun x => { x with wide := x.wide.erase o }
  if o.fault then s.detect c 9 o.pc o.behind
  else s.mapCore c fun x =>
    let x : Core := { x with wflags := mergeFlags x.wflags o.fmask o.fval }
    if o.dst < 8 then x.sw (idx 8 o.dst) o.value
    else if o.dst < 40 then x.sg (idx 32 (o.dst - 8)) (o.value.setWidth 32) else x

/-- Of the operations in flight, oldest first, those that have to commit before one satisfying `p` has: it, and older ones that write the same register or
flag as one of these. -/
def mustCommit (p : WideOp → Bool) : List WideOp → List WideOp
  | [] => []
  | o :: r =>
    let later := mustCommit p r
    if p o || later.any fun y => (y.dst = o.dst && o.dst ≠ 40) || y.fmask &&& o.fmask ≠ 0 then o :: later else later

/-- Wait for the wide operations that `p` names: they commit in order (R448). -/
def State.drain (s : State) (c : Nat) (p : WideOp → Bool) : State :=
  (mustCommit p (s.core c).wide).foldl (fun (t : State) (o : WideOp) => t.commitWide c o) s

/-- A wide operation writes one of these general registers. -/
def writesG (rs : List G) (o : WideOp) : Bool := rs.any fun r => r ≠ 0 && o.dst = 8 + r.val

/-- A wide operation writes one of these wide registers. -/
def writesW (ws : List W) (o : WideOp) : Bool := ws.any fun w => decide (o.dst = w.val)

/-- A wide operation writes WFLAGS. -/
def writesFlags (o : WideOp) : Bool := o.fmask ≠ 0

/-! ### Fetch (13, R471; 14, R495–R508) -/

/-- The memories from which a core can fetch, by address (12, R436, R437). -/
def fetchable (c a : Nat) : Bool :=
  a < 0x800000 || (c = 2 && 0x0FFC0000 ≤ a && a ≤ 0x0FFFFFFF) || (0x10000000 ≤ a && a < (if c = 2 then 0x10020000 else 0x10080000)) ||
    (0x20000000 ≤ a && a ≤ 0x23FFFFFF)

/-- On the core's local path, which the firewall does not see (14, R495). -/
def localPath (c a : Nat) : Bool :=
  (0x10000000 ≤ a && a ≤ 0x1007FFFF) || (0x50000000 ≤ a && a ≤ 0x5000FFFF) || (c = 2 && 0x0FFC0000 ≤ a && a ≤ 0x0FFFFFFF)

/-- An access is refused, and the refusal recorded: by the MPU (14, R499, R509), by the firewall (14, R511–R513). `access` 0 fetch, 1 load, 2 store. -/
def State.refused (s : State) (c a access : Nat) : Option State :=
  match s.mpuCause c a access with
  | some k => some (s.mpuFault c a k access)
  | none =>
    if localPath c a then none
    else (s.denied (coreMaster c) a (access = 2)).map fun r => (s.recordDenial (coreMaster c) a r (access = 2)).mpuFault c a 6 access

/-- An uncorrectable SECDED error at an address (13, R471 code 10): counted and logged where it is the flash (15, R521, R541); in the Keeper's TCM it is a
lockstep mismatch (12, R453). -/
def State.memoryError (s : State) (c a : Nat) : State :=
  if c = 2 && 0x10000000 ≤ a && a < 0x10080000 then ((s.addSat Reg.KPR_MISMATCH.COUNT 0 1).tamper 18 0).restartKeeper true
  else
    let s := if a < 0x800000 then ((s.addSat Reg.EFL_BANK_ECC.UNCORR (flashBank a) 1).flashLog 9 (flashSector a) 0 0 a).event Ev.EFL_UNCORR else s
    s.raise c 10 (some (BitVec.ofNat 32 a))

/-- What the fetch at the pc gives: the state to answer with where the instruction does not run, or none. -/
def State.fetchFails (s : State) (c : Nat) (e : Ecc) : Option State :=
  let pc := (s.core c).pc
  let a := pc.toNat
  match s.refused c a 0 with
  | some t => some (t.raise c 6 (some pc))
  | none =>
    if !fetchable c a then some (s.raise c 6 (some pc))
    else if a < 0x800000 && s.flashRead a = .waits then some s
    else if a < 0x800000 && s.flashRead a = .error then some (s.raise c 6 (some pc))
    else if e = .fetch then some (s.memoryError c a) else none

/-! ### One instruction -/

/-- An instruction of core `c` at its pc (R474): a pending entry is taken in its place; then its fetch, its encoding (`legal`), its privilege (`system`: S or K)
are checked in the order of R472; it waits for the wide operations that `waits` names, and with them may meet an imprecise exception; then `body` runs. -/
def State.instr (s : State) (c : CoreId) (e : Ecc) (legal system : Bool) (waits : WideOp → Bool) (body : State → State) : State :=
  let n := c.val
  if !s.executes n || !s.awake n then s
  else
    let s := s.mapCore n fun x => { x with run := .running }
    match s.boundary n with
    | some t => t
    | none =>
      match s.fetchFails n e with
      | some t => t
      | none =>
        if !legal then s.raise n 1 none
        else if system && (s.core n).priv = 0 then s.raise n 2 none
        else
          let s := s.drain n waits
          match s.impDue n with
          | some (code, a) => s.takeImprecise n code a
          | none => body s

/-- A register operation: `v` of the core goes to `rd`; `rs` are the registers it reads (12, R442, R444). -/
def State.aluOp (s : State) (c : CoreId) (e : Ecc) (legal : Bool) (rs : List G) (rd : G) (v : Core → Word) : State :=
  s.instr c e legal false (writesG (rd :: rs)) fun s => s.give c.val rd (v (s.core c.val))

/-! ### Rows of events -/

/-- INTERRUPT_ENTRY (13, R474, R486, R490): the boundary of a core. -/
def execInterruptEntry (c : CoreId) (s : State) : Res :=
  .next <| if s.executes c.val && s.awake c.val then (s.boundary c.val).getD s else s

/-- HOLD_OVERRUN (13, R478): the window closes, the overrun is counted, HOLD_OVERRUN is raised. -/
def execHoldOverrun (c : CoreId) (s : State) : Res :=
  .next <|
    let x := s.core c.val
    if !s.executes c.val || !x.holdOpen then s
    else
      let s := s.setCore c.val { x with holdOpen := false, holdcnt := 0 }
      ((s.addSat Reg.ICU_HOLDOVR.COUNT c.val 1).wr Reg.ICU_HOLDPC.PC c.val x.pc.toNat).assertPrivate c.val 5

/-- The boundary after an imprecise exception was detected (13, R473, R474). -/
def State.afterDetect (s : State) (c : Nat) : State :=
  match s.impDue c with
  | some (code, a) => s.takeImprecise c code a
  | none => s

/-- WIDE_COMMIT (12, R448–R450): the operation `i` in flight commits at the end of its latency, unless an older one that writes the same register or flag has
yet to; a domain fault of it is taken at the boundary. -/
def execWideCommit (c : CoreId) (i : Fin 64) (s : State) : Res :=
  .next <|
    let l := (s.core c.val).wide
    match l[i.val]? with
    | none => s
    | some o =>
      if !s.executes c.val || (l.take i.val).any fun y => (y.dst = o.dst && o.dst ≠ 40) || y.fmask &&& o.fmask ≠ 0 then s
      else (s.commitWide c.val o).afterDetect c.val

/-- The core learns that its oldest posted store was refused (13, R473). -/
def State.refusePosted (s : State) (c : Nat) : State :=
  match (s.core c).posted with
  | [] => s
  | (a, _) :: r => (s.mapCore c fun x => { x with posted := r }).detect c 8 (BitVec.ofNat 32 a) 0

/-- Every earlier store is accepted or refused (12, R439; 13, R473). -/
def State.settleStores (s : State) (c : Nat) : State := (s.core c).posted.foldl (fun (t : State) (_ : Nat × Nat) => t.refusePosted c) s

/-- POSTED_STORE_REFUSED (13, R473): the imprecise STORE_FAULT is taken at the boundary. -/
def execPostedStoreRefused (c : CoreId) (s : State) : Res :=
  .next <| if !s.executes c.val || (s.core c.val).posted = [] then s else (s.refusePosted c.val).afterDetect c.val

end Sys2Proof.Machine
end

