-- ==== Sys2Proof/Machine/IsaAlu.lean ====
section
/-!
DEFINITION. Machine/IsaAlu.lean: the general-register operations of Apulrum (12, R441, R442, R444) and its branches and jumps (R446).
-/

namespace Sys2Proof.Machine

/-! ### Arithmetic, logic, shifts, comparison (R442) -/

/-- ADD. -/
def execIsaAdd (c : CoreId) (e : Ecc) (rd rs1 rs2 : G) (s : State) : Res := .next <| s.aluOp c e true [rs1, rs2] rd fun x => x.rg rs1 + x.rg rs2

/-- SUB. -/
def execIsaSub (c : CoreId) (e : Ecc) (rd rs1 rs2 : G) (s : State) : Res := .next <| s.aluOp c e true [rs1, rs2] rd fun x => x.rg rs1 - x.rg rs2

/-- AND. -/
def execIsaAnd (c : CoreId) (e : Ecc) (rd rs1 rs2 : G) (s : State) : Res := .next <| s.aluOp c e true [rs1, rs2] rd fun x => x.rg rs1 &&& x.rg rs2

/-- ANDN. -/
def execIsaAndn (c : CoreId) (e : Ecc) (rd rs1 rs2 : G) (s : State) : Res :=
  .next <| s.aluOp c e true [rs1, rs2] rd fun x => x.rg rs1 &&& ~~~(x.rg rs2)

/-- OR. -/
def execIsaOr (c : CoreId) (e : Ecc) (rd rs1 rs2 : G) (s : State) : Res := .next <| s.aluOp c e true [rs1, rs2] rd fun x => x.rg rs1 ||| x.rg rs2

/-- XOR. -/
def execIsaXor (c : CoreId) (e : Ecc) (rd rs1 rs2 : G) (s : State) : Res := .next <| s.aluOp c e true [rs1, rs2] rd fun x => x.rg rs1 ^^^ x.rg rs2

/-- SHL. -/
def execIsaShl (c : CoreId) (e : Ecc) (rd rs1 rs2 : G) (s : State) : Res :=
  .next <| s.aluOp c e true [rs1, rs2] rd fun x => x.rg rs1 <<< amount (x.rg rs2)

/-- SHR. -/
def execIsaShr (c : CoreId) (e : Ecc) (rd rs1 rs2 : G) (s : State) : Res :=
  .next <| s.aluOp c e true [rs1, rs2] rd fun x => x.rg rs1 >>> amount (x.rg rs2)

/-- SHRA. -/
def execIsaShra (c : CoreId) (e : Ecc) (rd rs1 rs2 : G) (s : State) : Res :=
  .next <| s.aluOp c e true [rs1, rs2] rd fun x => (x.rg rs1).sshiftRight (amount (x.rg rs2))

/-- ROTR. -/
def execIsaRotr (c : CoreId) (e : Ecc) (rd rs1 rs2 : G) (s : State) : Res :=
  .next <| s.aluOp c e true [rs1, rs2] rd fun x => (x.rg rs1).rotateRight (amount (x.rg rs2))

/-- LTS. -/
def execIsaLts (c : CoreId) (e : Ecc) (rd rs1 rs2 : G) (s : State) : Res :=
  .next <| s.aluOp c e true [rs1, rs2] rd fun x => wordOf ((x.rg rs1).slt (x.rg rs2))

/-- LTU. -/
def execIsaLtu (c : CoreId) (e : Ecc) (rd rs1 rs2 : G) (s : State) : Res :=
  .next <| s.aluOp c e true [rs1, rs2] rd fun x => wordOf ((x.rg rs1).ult (x.rg rs2))

/-- MUL. -/
def execIsaMul (c : CoreId) (e : Ecc) (rd rs1 rs2 : G) (s : State) : Res := .next <| s.aluOp c e true [rs1, rs2] rd fun x => x.rg rs1 * x.rg rs2

/-- MULH. -/
def execIsaMulh (c : CoreId) (e : Ecc) (rd rs1 rs2 : G) (s : State) : Res :=
  .next <| s.aluOp c e true [rs1, rs2] rd fun x => mulHigh (x.rg rs1) (x.rg rs2)

/-- MULHU. -/
def execIsaMulhu (c : CoreId) (e : Ecc) (rd rs1 rs2 : G) (s : State) : Res :=
  .next <| s.aluOp c e true [rs1, rs2] rd fun x => mulHighU (x.rg rs1) (x.rg rs2)

/-- A division: the DIVIDE exception on a divisor of 0 (R441). -/
def State.divide (s : State) (c : CoreId) (e : Ecc) (rd rs1 rs2 : G) (v : Word → Word → Word) : State :=
  s.instr c e true false (writesG [rd, rs1, rs2]) fun s =>
    let x := s.core c.val
    if x.rg rs2 = 0 then s.raise c.val 11 none else s.give c.val rd (v (x.rg rs1) (x.rg rs2))

/-- DIV. -/
def execIsaDiv (c : CoreId) (e : Ecc) (rd rs1 rs2 : G) (s : State) : Res := .next <| s.divide c e rd rs1 rs2 quotient

/-- DIVU. -/
def execIsaDivu (c : CoreId) (e : Ecc) (rd rs1 rs2 : G) (s : State) : Res := .next <| s.divide c e rd rs1 rs2 (· / ·)

/-- REM. -/
def execIsaRem (c : CoreId) (e : Ecc) (rd rs1 rs2 : G) (s : State) : Res := .next <| s.divide c e rd rs1 rs2 remainder

/-- REMU. -/
def execIsaRemu (c : CoreId) (e : Ecc) (rd rs1 rs2 : G) (s : State) : Res := .next <| s.divide c e rd rs1 rs2 (· % ·)

/-- CLZ: rs2 must be 0. -/
def execIsaClz (c : CoreId) (e : Ecc) (rd rs1 rs2 : G) (s : State) : Res :=
  .next <| s.aluOp c e (rs2 = 0) [rs1] rd fun x => BitVec.ofNat 32 (leadingZeros (x.rg rs1).toNat 32)

/-- POPC: rs2 must be 0. -/
def execIsaPopc (c : CoreId) (e : Ecc) (rd rs1 rs2 : G) (s : State) : Res :=
  .next <| s.aluOp c e (rs2 = 0) [rs1] rd fun x => BitVec.ofNat 32 (setBits (x.rg rs1).toNat 32)

/-- BSWAP: rs2 must be 0. -/
def execIsaBswap (c : CoreId) (e : Ecc) (rd rs1 rs2 : G) (s : State) : Res := .next <| s.aluOp c e (rs2 = 0) [rs1] rd fun x => byteSwap (x.rg rs1)

/-! ### Immediates (R444) -/

/-- ADDI. -/
def execIsaAddi (c : CoreId) (e : Ecc) (rd rs1 : G) (imm : Imm16) (s : State) : Res := .next <| s.aluOp c e true [rs1] rd fun x => x.rg rs1 + sx imm

/-- ANDI. -/
def execIsaAndi (c : CoreId) (e : Ecc) (rd rs1 : G) (imm : Imm16) (s : State) : Res := .next <| s.aluOp c e true [rs1] rd fun x => x.rg rs1 &&& zx imm

/-- ORI. -/
def execIsaOri (c : CoreId) (e : Ecc) (rd rs1 : G) (imm : Imm16) (s : State) : Res := .next <| s.aluOp c e true [rs1] rd fun x => x.rg rs1 ||| zx imm

/-- XORI. -/
def execIsaXori (c : CoreId) (e : Ecc) (rd rs1 : G) (imm : Imm16) (s : State) : Res := .next <| s.aluOp c e true [rs1] rd fun x => x.rg rs1 ^^^ zx imm

/-- LTSI. -/
def execIsaLtsi (c : CoreId) (e : Ecc) (rd rs1 : G) (imm : Imm16) (s : State) : Res :=
  .next <| s.aluOp c e true [rs1] rd fun x => wordOf ((x.rg rs1).slt (sx imm))

/-- LTUI. -/
def execIsaLtui (c : CoreId) (e : Ecc) (rd rs1 : G) (imm : Imm16) (s : State) : Res :=
  .next <| s.aluOp c e true [rs1] rd fun x => wordOf ((x.rg rs1).ult (zx imm))

/-- A shift by an immediate: imm[15:5] must be 0. -/
def shiftImm (imm : Imm16) : Bool := imm.toNat < 32

/-- SHLI. -/
def execIsaShli (c : CoreId) (e : Ecc) (rd rs1 : G) (imm : Imm16) (s : State) : Res :=
  .next <| s.aluOp c e (shiftImm imm) [rs1] rd fun x => x.rg rs1 <<< imm.toNat

/-- SHRI. -/
def execIsaShri (c : CoreId) (e : Ecc) (rd rs1 : G) (imm : Imm16) (s : State) : Res :=
  .next <| s.aluOp c e (shiftImm imm) [rs1] rd fun x => x.rg rs1 >>> imm.toNat

/-- SHRAI. -/
def execIsaShrai (c : CoreId) (e : Ecc) (rd rs1 : G) (imm : Imm16) (s : State) : Res :=
  .next <| s.aluOp c e (shiftImm imm) [rs1] rd fun x => (x.rg rs1).sshiftRight imm.toNat

/-- ADDH. -/
def execIsaAddh (c : CoreId) (e : Ecc) (rd rs1 : G) (imm : Imm16) (s : State) : Res :=
  .next <| s.aluOp c e true [rs1] rd fun x => x.rg rs1 + (zx imm <<< 16)

/-! ### Branches and jumps (R442, R446) -/

/-- A branch: to its target where the condition holds. -/
def State.branchOp (s : State) (c : CoreId) (e : Ecc) (ra rb : G) (off : Imm16) (p : Word → Word → Bool) : State :=
  s.instr c e true false (writesG [ra, rb]) fun s =>
    let x := s.core c.val
    if p (x.rg ra) (x.rg rb) then s.finish c.val (x.branch off) else s.next c.val

/-- BEQ. -/
def execIsaBeq (c : CoreId) (e : Ecc) (ra rb : G) (off : Imm16) (s : State) : Res := .next <| s.branchOp c e ra rb off fun a b => a == b

/-- BNE. -/
def execIsaBne (c : CoreId) (e : Ecc) (ra rb : G) (off : Imm16) (s : State) : Res := .next <| s.branchOp c e ra rb off fun a b => a != b

/-- BLT. -/
def execIsaBlt (c : CoreId) (e : Ecc) (ra rb : G) (off : Imm16) (s : State) : Res := .next <| s.branchOp c e ra rb off fun a b => a.slt b

/-- BLE. -/
def execIsaBle (c : CoreId) (e : Ecc) (ra rb : G) (off : Imm16) (s : State) : Res := .next <| s.branchOp c e ra rb off fun a b => a.sle b

/-- BLTU. -/
def execIsaBltu (c : CoreId) (e : Ecc) (ra rb : G) (off : Imm16) (s : State) : Res := .next <| s.branchOp c e ra rb off fun a b => a.ult b

/-- BLEU. -/
def execIsaBleu (c : CoreId) (e : Ecc) (ra rb : G) (off : Imm16) (s : State) : Res := .next <| s.branchOp c e ra rb off fun a b => a.ule b

/-- J. -/
def execIsaJ (c : CoreId) (e : Ecc) (off : BitVec 26) (s : State) : Res :=
  .next <| s.instr c e true false (fun _ => false) fun s => s.finish c.val ((s.core c.val).jump off)

/-- CALL: g1 receives pc + 4. -/
def execIsaCall (c : CoreId) (e : Ecc) (off : BitVec 26) (s : State) : Res :=
  .next <| s.instr c e true false (writesG [1]) fun s =>
    let x := s.core c.val
    (s.mapCore c.val fun y => y.sg 1 (x.pc + 4)).finish c.val (x.jump off)

/-- CALLR: rd receives pc + 4; rs1 is the target. -/
def execIsaCallr (c : CoreId) (e : Ecc) (rd rs1 _rs2 : G) (s : State) : Res :=
  .next <| s.instr c e true false (writesG [rd, rs1]) fun s =>
    let x := s.core c.val
    (s.mapCore c.val fun y => y.sg rd (x.pc + 4)).finish c.val (x.rg rs1 &&& 0xFFFFFFFC)

end Sys2Proof.Machine
end

