-- ==== Sys2Proof/Machine/IsaMem.lean ====
section
/-!
DEFINITION. Machine/IsaMem.lean: loads, stores and the compare-and-swap of Apulrum (12, R439, R445, R456; 13, R471, R473; 14, R508; 01).
-/

namespace Sys2Proof.Machine

/-! ### What lies at an address -/

/-- An address in the core's own TCM (12, R436, R437). -/
def ownTcm (c a : Nat) : Bool := 0x10000000 ≤ a && a < (if c = 2 then 0x10020000 else 0x10080000)

/-- An address in the staging window. -/
def stagingAddr (a : Nat) : Bool := 0x20000000 ≤ a && a ≤ 0x23FFFFFF

/-- The policy cores' flash interfaces, reached at S only (15, R531). -/
def policyFlash (a : Nat) : Bool := (0x40D00100 ≤ a && a < 0x40D00200) || (0x40D00300 ≤ a && a < 0x40D00400)

/-- A KCALL slot of the core, at S (12, R456). -/
def State.ownSlot (s : State) (c a : Nat) : Bool := c < 2 && (s.core c).priv = 1 && c * 0x800 ≤ a - 0x60000000 && a - 0x60000000 < c * 0x800 + 0x400

/-- The address holds something that the core can access. `write`: the ROM cannot be written. -/
def State.coreMapped (s : State) (c a : Nat) (write : Bool) : Bool :=
  a < 0x800000 || (c = 2 && !write && 0x0FFC0000 ≤ a && a ≤ 0x0FFFFFFF) || ownTcm c a || stagingAddr a || (0x30000000 ≤ a && a ≤ 0x33FFFFFF) ||
    (0x40000000 ≤ a && a ≤ 0x40FFFFFF && !(policyFlash a && c < 2 && (s.core c).priv = 0)) || (0x50000000 ≤ a && a ≤ 0x5000FFFF) ||
    (0x60000000 ≤ a && a ≤ 0x60000FFF && s.ownSlot c a)

/-- A register of a KCALL slot, by its offset (R456). -/
def KSlot.field (x : KSlot) (o : Nat) : Nat :=
  if o = 0 then x.svc % 65536
  else if 4 ≤ o && o ≤ 0x20 then x.args.getD (o / 4 - 1) 0
  else if o = 0x24 then x.buf
  else if o = 0x28 then x.blen
  else if o = 0x34 then x.state
  else if o = 0x38 then x.result
  else if 0x3C ≤ o && o ≤ 0x48 then x.ret.getD (o / 4 - 15) 0
  else 0

/-- Set one of eight arguments. -/
def setArg (l : List Nat) (i v : Nat) : List Nat := (List.range 8).map fun k => if k = i then v else l.getD k 0

/-- A word written to a KCALL slot: ignored while PENDING or RUNNING; GO submits (R456, R457). -/
def State.slotWrite (s : State) (k o v : Nat) : State :=
  let x := s.kslot k
  if x.state = 1 || x.state = 2 then s
  else if o = 0 then s.setKslot k { x with svc := v % 65536 }
  else if 4 ≤ o && o ≤ 0x20 then s.setKslot k { x with args := setArg x.args (o / 4 - 1) v }
  else if o = 0x24 then s.setKslot k { x with buf := v }
  else if o = 0x28 then s.setKslot k { x with blen := v }
  else if o = 0x30 then (if v % 2 = 1 then s.goWrite k else s)
  else s

/-- The slot of an address in the KCALL window, core x 4 + slot. -/
def slotOf (a : Nat) : Nat := (a - 0x60000000) / 0x800 * 4 + (a - 0x60000000) % 0x800 / 0x100

/-- Replace `n` bytes of a number from byte `o` on. -/
def putBytes (x o n v : Nat) : Nat := x - x / 256 ^ o % 256 ^ n * 256 ^ o + v % 256 ^ n * 256 ^ o

/-- The value of the RW fields of a register: what a sub-word store leaves in the lanes it does not write; the other fields' lanes are written 0 (log entry 29). -/
def State.rwValue (s : State) (a : Nat) : Nat :=
  match findReg a with
  | none => 0
  | some (d, i, hi) =>
    let v := d.fields.foldl (fun (v : Nat) (x : RegField) => if x.acc = .rw then v + s.rd x.fld i * 2 ^ x.lo else v) 0
    if hi then v / 2 ^ 32 else v % 2 ^ 32

/-! ### Loads -/

/-- `n` bytes at an address the core may load from, and the state after the read: a word of flash cut short reads as any value (15, R524). -/
def State.loadValue (s : State) (c a n : Nat) : Nat × State :=
  if a < 0x800000 then
    if s.flashRead a = .cut then let d := s.draw; (d.1 % 256 ^ n, d.2) else (ofBytes ((List.range n).map fun i => s.flashByte (a + i)), s)
  else if a < 0x10000000 then (ofBytes ((List.range n).map fun i => Config.romByte (a - 0x0FFC0000 + i) % 256), s)
  else if a < 0x30000000 then (ofBytes (s.peekBytes c a n), s)
  else if a < 0x40000000 then ((s.ext ((a - 0x30000000) / 16)).word / 256 ^ (a % 16) % 256 ^ n, s)
  else if a < 0x60000000 then
    let x := s.wordRead (coreMaster c) (mapAddr (coreMaster c) (a - a % 4))
    (x.1 / 256 ^ (a % 4) % 256 ^ n, x.2)
  else ((s.kslot (slotOf a)).field ((a - a % 4) % 0x100) / 256 ^ (a % 4) % 256 ^ n, s)

/-- SECDED covers the TCM, staging and the flash (13, R471; 15, R521). -/
def secded (a : Nat) : Bool := a < 0x800000 || (0x10000000 ≤ a && a < 0x24000000)

/-- A load of `n` bytes at `a` (R445): its checks in the order of 13, R472; `give` takes the value. A flash bank that is busy makes it wait: it runs again (15, R529). -/
def State.loadAt (s : State) (c : Nat) (e : Ecc) (a : Word) (n : Nat) (give : Nat → State → State) : State :=
  let k := a.toNat
  if k % n ≠ 0 then s.raise c 5 (some a)
  else match s.refused c k 1 with
    | some t => t.raise c 7 (some a)
    | none =>
      if !s.coreMapped c k false then s.raise c 7 (some a)
      else if k < 0x800000 && s.flashRead k = .waits then s
      else if k < 0x800000 && s.flashRead k = .error then s.raise c 7 (some a)
      else if e = .data && secded k then s.memoryError c k
      else
        let x := s.loadValue c k n
        give x.1 x.2

/-- A load into a general register. -/
def State.loadOp (s : State) (c : CoreId) (e : Ecc) (rt base : G) (off : Imm16) (n : Nat) (signed : Bool) : State :=
  s.instr c e true false (writesG [rt, base]) fun s =>
    s.loadAt c.val e ((s.core c.val).addr base off) n fun v s => s.give c.val rt (if signed then signTo n v else BitVec.ofNat 32 v)

/-- LB. -/
def execIsaLb (c : CoreId) (e : Ecc) (rt base : G) (off : Imm16) (s : State) : Res := .next <| s.loadOp c e rt base off 1 true

/-- LBU. -/
def execIsaLbu (c : CoreId) (e : Ecc) (rt base : G) (off : Imm16) (s : State) : Res := .next <| s.loadOp c e rt base off 1 false

/-- LH. -/
def execIsaLh (c : CoreId) (e : Ecc) (rt base : G) (off : Imm16) (s : State) : Res := .next <| s.loadOp c e rt base off 2 true

/-- LHU. -/
def execIsaLhu (c : CoreId) (e : Ecc) (rt base : G) (off : Imm16) (s : State) : Res := .next <| s.loadOp c e rt base off 2 false

/-- LW. -/
def execIsaLw (c : CoreId) (e : Ecc) (rt base : G) (off : Imm16) (s : State) : Res := .next <| s.loadOp c e rt base off 4 false

/-- LWA: in this model's order of one command after another, LW (R445, log entry 28). -/
def execIsaLwa (c : CoreId) (e : Ecc) (rt base : G) (off : Imm16) (s : State) : Res := .next <| s.loadOp c e rt base off 4 false

/-! ### Stores -/

/-- `n` bytes stored at an address the core may store to. -/
def State.storeValue (s : State) (c a n v : Nat) : State :=
  if a < 0x30000000 then s.pokeBytes c a (leBytes v n)
  else if a < 0x40000000 then
    let x := (a - 0x30000000) / 16
    s.setExt x (Extent.ofWord (putBytes (s.ext x).word (a % 16) n v))
  else if a < 0x60000000 then
    let b := mapAddr (coreMaster c) (a - a % 4)
    s.wordWrite (coreMaster c) (idx 16 (coreMaster c)) b (if n = 4 then v % 2 ^ 32 else putBytes (s.rwValue b) (a % 4) n v)
  else
    let k := slotOf a
    let o := (a - a % 4) % 0x100
    s.slotWrite k o (if n = 4 then v % 2 ^ 32 else putBytes (if o = 0x30 then 0 else (s.kslot k).field o) (a % 4) n v)

/-- A store is posted and then refused (13, R473): the core learns of it later. -/
def State.postRefused (s : State) (c a n : Nat) : State := s.mapCore c fun x => { x with posted := x.posted ++ [(a, n)] }

/-- A store of `n` bytes at `a` (R445): faults found at issue are precise; a firewall denial, and a flash array that takes no store, refuse it after it was
posted (13, R471, R473; 14, R508). -/
def State.storeAt (s : State) (c : Nat) (a : Word) (n v : Nat) : State :=
  let k := a.toNat
  if k % n ≠ 0 then s.raise c 5 (some a)
  else match s.mpuCause c k 2 with
    | some y => (s.mpuFault c k y 2).raise c 8 (some a)
    | none =>
      if !s.coreMapped c k true then s.raise c 8 (some a)
      else if (s.refused c k 2).isSome then (((s.refused c k 2).getD s).postRefused c k n).next c
      else if k < 0x800000 then (s.postRefused c k n).next c
      else (s.storeValue c k n v).next c

/-- A store of a general register. -/
def State.storeOp (s : State) (c : CoreId) (e : Ecc) (rt base : G) (off : Imm16) (n : Nat) : State :=
  s.instr c e true false (writesG [rt, base]) fun s =>
    let x := s.core c.val
    s.storeAt c.val (x.addr base off) n (x.rg rt).toNat

/-- SB. -/
def execIsaSb (c : CoreId) (e : Ecc) (rt base : G) (off : Imm16) (s : State) : Res := .next <| s.storeOp c e rt base off 1

/-- SH. -/
def execIsaSh (c : CoreId) (e : Ecc) (rt base : G) (off : Imm16) (s : State) : Res := .next <| s.storeOp c e rt base off 2

/-- SW. -/
def execIsaSw (c : CoreId) (e : Ecc) (rt base : G) (off : Imm16) (s : State) : Res := .next <| s.storeOp c e rt base off 4

/-- After every earlier store is accepted or refused: an imprecise exception is taken in the instruction's place. -/
def State.ordered (s : State) (c : Nat) (body : State → State) : State :=
  let s := s.settleStores c
  match s.impDue c with
  | some (code, a) => s.takeImprecise c code a
  | none => body s

/-- SWR: after every earlier store (R445). -/
def execIsaSwr (c : CoreId) (e : Ecc) (rt base : G) (off : Imm16) (s : State) : Res :=
  .next <| s.instr c e true false (writesG [rt, base]) fun s => s.ordered c.val fun s =>
    let x := s.core c.val
    s.storeAt c.val (x.addr base off) 4 (x.rg rt).toNat

/-! ### Accesses that only the TCM and staging take (R445, R448) -/

/-- The TCM or the staging window. -/
def plainMemory (c a : Nat) : Bool := ownTcm c a || stagingAddr a

/-- An access to a memory that does not support it: MPU_FAULT with CAUSE 8 (14, R499). -/
def State.unsupported (s : State) (c : Nat) (a : Word) (access : Nat) : State :=
  (s.mpuFault c a.toNat 8 access).raise c (if access = 1 then 7 else 8) (some a)

/-- CSWP (R442, R445): the word at rs1 goes to rd; where it was rd's, rs2 is stored. -/
def execIsaCswp (c : CoreId) (e : Ecc) (rd rs1 rs2 : G) (s : State) : Res :=
  .next <| s.instr c e true false (writesG [rd, rs1, rs2]) fun s => s.ordered c.val fun s =>
    let n := c.val
    let x := s.core n
    let a := x.rg rs1
    let k := a.toNat
    if k % 4 ≠ 0 then s.raise n 5 (some a)
    else if !plainMemory n k then s.unsupported n a 1
    else match s.refused n k 1 with
      | some t => t.raise n 7 (some a)
      | none => match s.refused n k 2 with
        | some t => t.raise n 8 (some a)
        | none =>
          if e = .data then s.memoryError n k
          else
            let v := ofBytes (s.peekBytes n k 4)
            let s := if BitVec.ofNat 32 v = x.rg rd then s.pokeBytes n k (leBytes (x.rg rs2).toNat 4) else s
            s.give n rd (BitVec.ofNat 32 v)

end Sys2Proof.Machine
end

