-- ==== Sys2Proof/Machine/IsaSystem.lean ====
section
/-!
DEFINITION. Machine/IsaSystem.lean: the system operations of Apulrum (12, R443; 13, R468–R478, R490) and its control registers (12, R451, R452, R461).
-/

namespace Sys2Proof.Machine

/-- A system operation: fields of no use must be 0 (R443). -/
def State.systemOp (s : State) (c : CoreId) (e : Ecc) (zero : List G) (priv : Bool) (waits : WideOp → Bool) (body : State → State) : State :=
  s.instr c e (zero.all fun r => r = 0) priv waits body

/-- TRAP. -/
def execIsaTrap (c : CoreId) (e : Ecc) (rd rs1 rs2 : G) (s : State) : Res :=
  .next <| s.systemOp c e [rd, rs1, rs2] false (fun _ => false) fun s => s.raise c.val 3 none

/-- BREAK. -/
def execIsaBreak (c : CoreId) (e : Ecc) (rd rs1 rs2 : G) (s : State) : Res :=
  .next <| s.systemOp c e [rd, rs1, rs2] false (fun _ => false) fun s => s.raise c.val 4 none

/-- The return from an exception (R443; 13, R468, R475): pc, PRIV and IE return, the HOLD window closes, DF clears; what waits behind an interrupt's handler
comes one return nearer (12, R450). -/
def Core.leave (x : Core) : Core :=
  { x with
    priv := x.ppriv, ie := x.pie, holdOpen := false, holdcnt := 0, df := false, impHold := x.impHold - 1,
    wide := x.wide.map fun (o : WideOp) => { o with behind := o.behind - 1 } }

/-- RETX. -/
def execIsaRetx (c : CoreId) (e : Ecc) (rd rs1 rs2 : G) (s : State) : Res :=
  .next <| s.systemOp c e [rd, rs1, rs2] true (fun _ => false) fun s =>
    let x := s.core c.val
    (s.mapCore c.val Core.leave).finish c.val x.epc

/-- IDLE: the HOLD window closes, and the core clock is gated (13, R478, R490). -/
def execIsaIdle (c : CoreId) (e : Ecc) (rd rs1 rs2 : G) (s : State) : Res :=
  .next <| s.systemOp c e [rd, rs1, rs2] true (fun _ => false) fun s =>
    ((s.mapCore c.val fun x => { x with holdOpen := false, holdcnt := 0 }).next c.val).mapCore c.val fun x => { x with run := .idle }

/-- FENCE: every earlier store is accepted or refused (R439); what MPU_CTRL was last written takes force (14, R502). -/
def execIsaFence (c : CoreId) (e : Ecc) (rd rs1 rs2 : G) (s : State) : Res :=
  .next <| s.systemOp c e [rd, rs1, rs2] false (fun _ => false) fun s =>
    let s := s.settleStores c.val
    let s := if c.val < 2 then s.mapCore c.val fun x =>
      { x with mpuEn := s.isSet Reg.MPU_CTRL.EN c.val, mpuPrivdef := s.isSet Reg.MPU_CTRL.PRIVDEF c.val } else s
    s.next c.val

/-- IFLUSH: the prefetch buffer and branch cache are no state of the model; the instruction only advances (R439, log entry 28). -/
def execIsaIflush (c : CoreId) (e : Ecc) (rd rs1 rs2 : G) (s : State) : Res :=
  .next <| s.systemOp c e [rd, rs1, rs2] true (fun _ => false) fun s => s.next c.val

/-- HOLD (13, R477). -/
def execIsaHold (c : CoreId) (e : Ecc) (rd rs1 rs2 : G) (s : State) : Res :=
  .next <| s.systemOp c e [rd, rs2] true (writesG [rs1]) fun s =>
    let x := s.core c.val
    let n := (x.rg rs1).toNat
    if n = 0 || 4096 < n then s.raise c.val 1 none
    else if x.holdOpen then s.next c.val
    else (s.next c.val).mapCore c.val fun y => { y with holdOpen := true, holdcnt := n }

/-- HOLDEND (13, R478). -/
def execIsaHoldend (c : CoreId) (e : Ecc) (rd rs1 rs2 : G) (s : State) : Res :=
  .next <| s.systemOp c e [rd, rs1, rs2] true (fun _ => false) fun s =>
    (s.mapCore c.val fun x => { x with holdOpen := false, holdcnt := 0 }).next c.val

/-! ### Control registers (R451, R452) -/

/-- STATUS as a word (R452). -/
def Core.status (x : Core) : Word :=
  BitVec.ofNat 32 ((bit x.df) * 256 + (bit x.holdOpen) * 128 + (bit x.pam) * 64 + x.ppriv % 4 * 16 + x.priv % 4 * 4 + (bit x.pie) * 2 + bit x.ie)

/-- The listed control registers: whether they need S (R451). -/
def controlSystem (n : Nat) : Option Bool :=
  if n ≤ 8 || n = 0x21 || n = 0x22 || n = 0x31 || n = 0x32 then some true
  else if (0x10 ≤ n && n ≤ 0x13) || n = 0x20 || n = 0x30 then some false
  else none

/-- The value of a control register. -/
def State.control (s : State) (c n : Nat) : Word :=
  let x := s.core c
  if n = 0 then x.status
  else if n = 1 then x.epc
  else if n = 2 then x.ecause
  else if n = 3 then x.evbase
  else if n = 4 then x.eaddr
  else if n = 5 then x.dfsp
  else if n = 6 then BitVec.ofNat 32 x.holdcnt
  else if n = 7 then x.scratch0
  else if n = 8 then x.scratch1
  else if n = 0x10 then BitVec.ofNat 32 x.cycle
  else if n = 0x11 then BitVec.ofNat 32 x.cycleH
  else if n = 0x12 then BitVec.ofNat 32 x.instret
  else if n = 0x13 then BitVec.ofNat 32 x.instretH
  else if n = 0x20 then BitVec.ofNat 32 c
  else if n = 0x21 then BitVec.ofNat 32 s.epoch
  else if n = 0x22 then BitVec.ofNat 32 x.epochAck
  else if n = 0x30 then BitVec.ofNat 32 x.wflags
  else if n = 0x31 then x.wexc
  else BitVec.ofNat 32 x.wexcLost

/-- What reading a control register does (R451; 13, R473): CYCLE and INSTRET latch their high words; EADDR or WEXC read frees the imprecise record. -/
def Core.readControl (x : Core) (n : Nat) : Core :=
  if n = 0x10 then { x with cycleH := x.cycle / 2 ^ 32 }
  else if n = 0x12 then { x with instretH := x.instret / 2 ^ 32 }
  else if n = 4 || n = 0x31 then { x with impUnread := false }
  else x

/-- PPRIV as it is stored (R452; 13, R468): a policy core cannot reach K, the Keeper never leaves it. -/
def storedPriv (c v : Nat) : Nat := if c = 2 then 2 else if 2 ≤ v then 1 else v

/-- What writing a control register does (R451, R452; 13, R468, R469): a write of a read-only one is ignored. -/
def Core.writeControl (x : Core) (c n : Nat) (v : Word) : Core :=
  if n = 0 then { x with pam := v.getLsbD 6, ppriv := storedPriv c (v.toNat / 16 % 4), pie := v.getLsbD 1, ie := v.getLsbD 0 }
  else if n = 1 then { x with epc := v &&& 0xFFFFFFFC }
  else if n = 2 then { x with ecause := v &&& 0xDF1F01FF }
  else if n = 3 then { x with evbase := v &&& 0xFFFFF000 }
  else if n = 5 then { x with dfsp := v }
  else if n = 7 then { x with scratch0 := v }
  else if n = 8 then { x with scratch1 := v }
  else if n = 0x30 then { x with wflags := v.toNat % 8 }
  else if n = 0x32 then { x with wexcLost := 0 }
  else x

/-- A write of EPOCHACK (R461): only the value of EPOCH is taken; the core is no laggard then. -/
def State.ackEpoch (s : State) (c : Nat) (v : Word) : State :=
  if v.toNat = s.epoch then
    ({ s with set.laggards := s.set.laggards.filter fun x => !(x.1 = 5 && x.2 = c) } : State).mapCore c fun x => { x with epochAck := s.epoch }
  else s

/-- The wide operations a control register waits for: WFLAGS for those that write flags; a write of STATUS that changes PAM for all (R448, R449). -/
def State.controlWaits (s : State) (c n : Nat) (v : Option Word) (o : WideOp) : Bool :=
  (n = 0x30 && writesFlags o) || match v with | some v => n = 0 && v.getLsbD 6 != (s.core c).pam | none => false

/-- RDC. -/
def execIsaRdc (c : CoreId) (e : Ecc) (rd rs1 : G) (imm : Imm16) (s : State) : Res :=
  let _ := rs1
  let n := imm.toNat
  .next <| s.instr c e (controlSystem n).isSome (controlSystem n = some true) (fun o => writesG [rd] o || s.controlWaits c.val n none o) fun s =>
    let v := s.control c.val n
    (s.mapCore c.val fun x => x.readControl n).give c.val rd v

/-- WRC: rd must be 0. -/
def execIsaWrc (c : CoreId) (e : Ecc) (rd rs1 : G) (imm : Imm16) (s : State) : Res :=
  let n := imm.toNat
  .next <| s.instr c e (rd = 0 && (controlSystem n).isSome) (controlSystem n = some true)
    (fun o => writesG [rs1] o || s.controlWaits c.val n (some ((s.core c.val).rg rs1)) o) fun s =>
    let v := (s.core c.val).rg rs1
    let s := if n = 0x22 && c.val < 2 then s.ackEpoch c.val v else s
    (s.mapCore c.val fun x => x.writeControl c.val n v).next c.val

end Sys2Proof.Machine
end

