-- ==== Sys2Proof/Machine/IsaWide.lean ====
section
/-!
DEFINITION. Machine/IsaWide.lean: the wide arithmetic unit (12, R447–R450). A wide operation is issued with its value; its register and flags are written when
it commits: by WIDE_COMMIT, by an instruction that waits for it, or at once while STATUS.PAM = 1.
-/

namespace Sys2Proof.Machine

/-- Issue a wide operation (R449): in precise mode it commits at once, or takes its precise exception. -/
def State.issue (s : State) (c : Nat) (dst : Nat) (r : WideResult) (fault : Bool) : State :=
  let o : WideOp := ⟨(s.core c).pc, dst, r.value, r.mask, r.flags, fault, 0⟩
  if (s.core c).pam then (if fault then s.raise c 9 none else (s.commitWide c o).next c)
  else (s.mapCore c fun x => { x with wide := x.wide ++ [o] }).next c

/-- What an operation on wide registers `ws`, general registers `gs` and, with `flags`, WFLAGS waits for (R448, R449). -/
def State.wideWaits (s : State) (c : Nat) (ws : List W) (gs : List G) (flags : Bool) (o : WideOp) : Bool :=
  (s.core c).pam || writesW ws o || writesG gs o || (flags && writesFlags o)

/-- A wide operation that writes `wd`. -/
def State.wideOp (s : State) (c : CoreId) (e : Ecc) (legal : Bool) (ws : List W) (gs : List G) (flags : Bool) (wd : W)
    (f : Core → WideResult) : State :=
  s.instr c e legal false (s.wideWaits c.val ws gs flags) fun s => s.issue c.val wd.val (f (s.core c.val)) false

/-- WADD. -/
def execIsaWadd (c : CoreId) (e : Ecc) (wd wa wb : W) (gr : G) (s : State) : Res :=
  .next <| s.wideOp c e (gr = 0) [wa, wb] [] false wd fun x => wideAdd (x.rw wa) (x.rw wb) 0

/-- WADC. -/
def execIsaWadc (c : CoreId) (e : Ecc) (wd wa wb : W) (gr : G) (s : State) : Res :=
  .next <| s.wideOp c e (gr = 0) [wa, wb] [] true wd fun x => wideAdd (x.rw wa) (x.rw wb) (cFlag x.wflags)

/-- WSUB. -/
def execIsaWsub (c : CoreId) (e : Ecc) (wd wa wb : W) (gr : G) (s : State) : Res :=
  .next <| s.wideOp c e (gr = 0) [wa, wb] [] false wd fun x => wideSub (x.rw wa) (x.rw wb) 0

/-- WSBB. -/
def execIsaWsbb (c : CoreId) (e : Ecc) (wd wa wb : W) (gr : G) (s : State) : Res :=
  .next <| s.wideOp c e (gr = 0) [wa, wb] [] true wd fun x => wideSub (x.rw wa) (x.rw wb) (cFlag x.wflags)

/-- WXOR. -/
def execIsaWxor (c : CoreId) (e : Ecc) (wd wa wb : W) (gr : G) (s : State) : Res :=
  .next <| s.wideOp c e (gr = 0) [wa, wb] [] false wd fun x => wideZ (x.rw wa ^^^ x.rw wb)

/-- WAND. -/
def execIsaWand (c : CoreId) (e : Ecc) (wd wa wb : W) (gr : G) (s : State) : Res :=
  .next <| s.wideOp c e (gr = 0) [wa, wb] [] false wd fun x => wideZ (x.rw wa &&& x.rw wb)

/-- WOR. -/
def execIsaWor (c : CoreId) (e : Ecc) (wd wa wb : W) (gr : G) (s : State) : Res :=
  .next <| s.wideOp c e (gr = 0) [wa, wb] [] false wd fun x => wideZ (x.rw wa ||| x.rw wb)

/-- WSHL: wb must be 0. -/
def execIsaWshl (c : CoreId) (e : Ecc) (wd wa wb : W) (gr : G) (s : State) : Res :=
  .next <| s.wideOp c e (wb = 0) [wa] [gr] false wd fun x => wideZ (x.rw wa <<< ((x.rg gr).toNat % 256))

/-- WSHR: wb must be 0. -/
def execIsaWshr (c : CoreId) (e : Ecc) (wd wa wb : W) (gr : G) (s : State) : Res :=
  .next <| s.wideOp c e (wb = 0) [wa] [gr] false wd fun x => wideZ (x.rw wa >>> ((x.rg gr).toNat % 256))

/-- WMUL. -/
def execIsaWmul (c : CoreId) (e : Ecc) (wd wa wb : W) (gr : G) (s : State) : Res :=
  .next <| s.wideOp c e (gr = 0) [wa, wb] [] false wd fun x => widePlain (wideMul (x.rw wa) (x.rw wb))

/-- WMULH. -/
def execIsaWmulh (c : CoreId) (e : Ecc) (wd wa wb : W) (gr : G) (s : State) : Res :=
  .next <| s.wideOp c e (gr = 0) [wa, wb] [] false wd fun x => widePlain (wideMulHigh (x.rw wa) (x.rw wb))

/-- WMODMUL: with w7 = 0 the wide-domain exception, and wd is not written (R448). -/
def execIsaWmodmul (c : CoreId) (e : Ecc) (wd wa wb : W) (gr : G) (s : State) : Res :=
  .next <| s.instr c e (gr = 0) false (s.wideWaits c.val [wa, wb, 7] [] false) fun s =>
    let x := s.core c.val
    if x.rw 7 = 0 then s.issue c.val 40 (widePlain 0) true
    else s.issue c.val wd.val (widePlain (wideModMul (x.rw wa) (x.rw wb) (x.rw 7))) false

/-- WCLMUL. -/
def execIsaWclmul (c : CoreId) (e : Ecc) (wd wa wb : W) (gr : G) (s : State) : Res :=
  .next <| s.wideOp c e (gr = 0) [wa, wb] [] false wd fun x => widePlain (carryless (x.rw wa) (x.rw wb))

/-- WGF8MUL. -/
def execIsaWgf8mul (c : CoreId) (e : Ecc) (wd wa wb : W) (gr : G) (s : State) : Res :=
  .next <| s.wideOp c e (gr = 0) [wa, wb] [] false wd fun x => widePlain (gf8Mul (x.rw wa) (x.rw wb))

/-- WCMP: flags only; wd and gr must be 0. -/
def execIsaWcmp (c : CoreId) (e : Ecc) (wd wa wb : W) (gr : G) (s : State) : Res :=
  .next <| s.instr c e (wd = 0 && gr = 0) false (s.wideWaits c.val [wa, wb] [] false) fun s =>
    s.issue c.val 40 (wideCompare ((s.core c.val).rw wa) ((s.core c.val).rw wb)) false

/-- A 32-byte access at g[gr] (R448): aligned, in the TCM or staging, allowed; precise. -/
def State.wideAccess (s : State) (c : Nat) (gr : G) (access : Nat) (body : Nat → State → State) : State :=
  let a := (s.core c).rg gr
  let k := a.toNat
  if k % 32 ≠ 0 then s.raise c 5 (some a)
  else if !plainMemory c k then s.unsupported c a access
  else match s.refused c k access with
    | some t => t.raise c (if access = 1 then 7 else 8) (some a)
    | none => body k s

/-- WLD: wa and wb must be 0. -/
def execIsaWld (c : CoreId) (e : Ecc) (wd wa wb : W) (gr : G) (s : State) : Res :=
  .next <| s.instr c e (wa = 0 && wb = 0) false (s.wideWaits c.val [] [gr] false) fun s =>
    s.wideAccess c.val gr 1 fun k s =>
      if e = .data then s.memoryError c.val k
      else s.issue c.val wd.val (widePlain (BitVec.ofNat 256 (ofBytes (s.peekBytes c.val k 32)))) false

/-- WST: wd and wb must be 0. -/
def execIsaWst (c : CoreId) (e : Ecc) (wd wa wb : W) (gr : G) (s : State) : Res :=
  .next <| s.instr c e (wd = 0 && wb = 0) false (s.wideWaits c.val [wa] [gr] false) fun s =>
    s.wideAccess c.val gr 2 fun k s => (s.pokeBytes c.val k (leBytes ((s.core c.val).rw wa).toNat 32)).next c.val

/-- WGET: word `wb` of `wa` goes to g[gr]; wd must be 0. -/
def execIsaWget (c : CoreId) (e : Ecc) (wd wa wb : W) (gr : G) (s : State) : Res :=
  .next <| s.instr c e (wd = 0) false (s.wideWaits c.val [wa] [gr] false) fun s =>
    s.issue c.val (if gr = 0 then 40 else 8 + gr.val) (widePlain ((wideWord ((s.core c.val).rw wa) wb).setWidth 256)) false

/-- WPUT: word `wb` of `wd` becomes g[gr]; wa must be 0. -/
def execIsaWput (c : CoreId) (e : Ecc) (wd wa wb : W) (gr : G) (s : State) : Res :=
  .next <| s.wideOp c e (wa = 0) [wd] [gr] false wd fun x => widePlain (setWideWord (x.rw wd) wb (x.rg gr))

end Sys2Proof.Machine
end

