-- ==== Sys2Proof/Machine/Logs.lean ====
section
/-!
DEFINITION. Machine/Logs.lean: the logs that GET_LOG returns, as bytes (03, R129, R132; each log in the chapter that owns it).
-/

namespace Sys2Proof.Machine

/-- A settings change (03, R132). -/
def changeBytes (e : SetChange) : List Nat :=
  leBytes e.sid 2 ++ [e.cls, e.issuer] ++ leBytes e.epoch 4 ++ leBytes e.ticks 8 ++ leBytes e.old 8 ++ leBytes e.new 8

/-- A settings journal entry (03, R132). -/
def journalBytes (e : Nat × Nat) : List Nat := leBytes e.1 2 ++ leBytes 0 6 ++ leBytes e.2 8

/-- A function reset report of 4,096 bytes (02, R86): at most 252 void records are listed. -/
def reportBytes (f : Nat) (r : FnReport) : List Nat :=
  padZero 4096 ([f, r.cause, r.mode, 0] ++ leBytes r.duration 4 ++ leBytes r.start 8 ++ leBytes r.aborted 4 ++ leBytes r.voided 4 ++
    leBytes r.silent 4 ++ leBytes (min 252 r.voided) 4 ++ leBytes 0 32 ++
    (r.voids.take 252).flatMap fun v => leBytes v.ledger 2 ++ leBytes 0 6 ++ leBytes v.seq 8)

/-- A lane event (04, R181). -/
def laneBytes (e : LaneLog) : List Nat :=
  leBytes e.ticks 8 ++ leBytes e.lane 2 ++ [e.event, e.detail] ++ leBytes e.ledger 2 ++ leBytes 0 2 ++ leBytes e.seq 8 ++ leBytes e.extent 4 ++
    leBytes 0 4

/-- The public part of the device restore key (05, R199): keys and signatures are free functions of the key pair (log entry 4). -/
def State.restoreBytes (s : State) : List Nat :=
  let k := s.key.restoreKey
  let head := leBytes Config.serial 8 ++ freeBytes k 1665 ++ leBytes 0 7
  let sig := Config.sign s.key.identity (k :: head)
  head ++ leBytes (Config.sign sig [1]) 96 ++ leBytes (Config.sign sig [2]) 3309 ++ leBytes 0 35

/-- A rollback event (05, R222). -/
def rollBytes (e : RollLog) : List Nat :=
  leBytes e.ticks 8 ++ [e.event, 0, 0, 0] ++ leBytes e.expSeq 4 ++ leBytes e.foundSeq 4 ++ leBytes e.cause 4 ++ leBytes e.expRoot 24 ++
    leBytes e.foundRoot 24 ++ leBytes e.jseq 8

/-- A rank event (07, R305). -/
def rankBytes (e : RankLog) : List Nat :=
  leBytes e.ticks 8 ++ [e.event, e.rank, e.slot, e.port] ++ leBytes e.gen 4 ++ leBytes e.extent 4 ++ leBytes e.stripe 2 ++ [e.detail, 0] ++
    leBytes e.nguid 8

/-- The report of an assay run (08, R339). -/
def assayBytes (r : AssayRun) : List Nat :=
  padZero 128 (leBytes r.run 4 ++ [r.scope, r.endCode, r.aflags, 0] ++ leBytes r.start 8 ++ leBytes r.finish 8 ++ leBytes r.extents 4 ++
    leBytes r.lastExt 4 ++ leBytes r.records 8 ++ leBytes r.bytes 8 ++ leBytes r.batches 4 ++ leBytes r.sigs 4 ++
    r.counts.flatMap fun c => leBytes c 4)

/-- A finding (08, R340). -/
def findingBytes (e : Finding) : List Nat :=
  leBytes e.ticks 8 ++ [e.kind, e.source] ++ leBytes e.ledger 2 ++ leBytes e.extent 4 ++ leBytes e.place 8 ++ leBytes e.seq 8

/-- A drive record of 128 bytes (08, R308). -/
def driveBytes (d : DriveRec) : List Nat :=
  let b (x : Bool) (n : Nat) : Nat := if x then n else 0
  padZero 128 (leBytes d.nguid 16 ++ [min 255 d.pctUsed, b d.watch 1 + b d.limit 2 + b d.trend 4 + b d.softHigh 8, 0, 0] ++ leBytes d.days 4 ++
    leBytes d.rdBytes 8 ++ leBytes d.wrBytes 8 ++ leBytes d.soft 8 ++ leBytes d.hard 8 ++ leBytes (d.lats.sum / max 1 d.lats.length) 4 ++
    leBytes d.latBase 4 ++ leBytes d.softRate 4 ++ leBytes d.mediaErr 4 ++ leBytes d.smTicks 8)

/-- A migration (08, R341). -/
def migBytes (e : MigLog) : List Nat :=
  leBytes e.start 8 ++ leBytes e.extent 4 ++ [e.reason, e.outcome, e.srcRank, e.rank] ++ leBytes e.srcBay 4 ++ leBytes e.bay 4 ++ leBytes e.gen 3 ++
    [0] ++ leBytes e.ms 4

/-- A boot (10, R399). -/
def bootBytes (e : BootLog) : List Nat :=
  padZero 64 (leBytes e.ticks 8 ++ [e.reset, e.mode, e.halt, e.copy, e.flags, e.areason, e.breason, e.lifecycle] ++ leBytes e.aseq 8 ++
    leBytes e.bseq 8 ++ leBytes e.floor 8 ++ leBytes e.cfgTime 4 ++ leBytes e.readyTime 4 ++ leBytes e.marginal 4)

/-- A flash event (15, R541). -/
def flashBytes (e : FlashLog) : List Nat :=
  leBytes e.ticks 6 ++ [e.event, flashBank e.addr] ++ leBytes e.sector 2 ++ [e.pulses, e.iface] ++ leBytes e.addr 4

/-- A card exchange (17, R585). -/
def cardBytes (e : CardLog) : List Nat :=
  leBytes e.ticks 6 ++ [e.purpose, e.index] ++ leBytes e.status 2 ++ [e.cls, e.pps1] ++ leBytes e.card 4

/-- The log of an ID with INDEX 0, oldest first; none where no chapter gives the ID. The restore key of a device that holds none is no log
(log entry 30). -/
def State.plainLog (s : State) (lid : Nat) : Option (List Nat) :=
  match lid with
  | 0x10 => some (s.set.changes.flatMap changeBytes)
  | 0x11 => some (s.set.journal.flatMap journalBytes)
  | 0x30 => some (s.lane.log.flatMap laneBytes)
  | 0x41 => if s.key.restoreKey = 0 then none else some s.restoreBytes
  | 0x42 => some (s.key.roll.flatMap rollBytes)
  | 0x43 => some (s.media.log.flatMap rankBytes)
  | 0x50 => some (s.asy.reports.flatMap assayBytes)
  | 0x51 => some (s.asy.findings.flatMap findingBytes)
  | 0x53 => some (s.asy.migLog.flatMap migBytes)
  | 0x60 => some (s.cfg.log.flatMap bootBytes)
  | 0x61 => some (s.aon.log.flatMap supplyBytes)
  | 0x62 => some (s.efl.log.flatMap flashBytes)
  | 0x70 => some (s.tmp.bbram.flatMap tamperBytes)
  | 0x71 => some (s.tmp.log71.flatMap tamperBytes)
  | 0x80 => some (s.crd.log.flatMap cardBytes)
  | _ => none

/-- The log that a PF `f` reads with an ID and INDEX, none where they are not known (03, R130): the reset report of one of its functions (02, R86; a
function not reset has an empty report, log entry 30), the escrow blob of a tenant (05, R199), the record of a drive (08, R308), or a log of INDEX 0. -/
def State.logBytes (s : State) (f lid index : Nat) : Option (List Nat × State) :=
  if lid = 0x20 then
    if s.fnExists index ∧ index / 128 = f / 128 ∧ index < 256 then
      some ((match Tab.find index s.host.report with | some r => reportBytes index r | none => []), s)
    else none
  else if lid = 0x40 then
    if (s.tenant index).st = 1 ∧ s.hasEscrow then some (s.escrowBlob index) else none
  else if lid = 0x52 then
    let st := s.rd Reg.MPX_PORT_STATUS.STATE index
    if index < 128 ∧ (st = 2 ∨ st = 3) then some (driveBytes (s.driveRec index), s) else none
  else if index = 0 then (s.plainLog lid).map fun b => (b, s)
  else none

/-- GET_LOG (03, R129, R130): OFFSET 0 lies within an empty log, which writes nothing (log entry 30). -/
def execGetLog (f : Fn) (q : Q) (s : State) : Res :=
  .next <| s.hostCmd f.val q.val 0x84 fun x s =>
    let len := x.e.length.toNat
    let off := x.e.bytes 36 4
    if !onlyBytes x.e [(32, 1), (34, 2), (36, 4)] ∨ len < 4 ∨ len % 4 ≠ 0 ∨ off % 4 ≠ 0 then s.fail f.val q.val x Status.FIELD_INVALID
    else match s.logBytes f.val (x.e.bytes 32 1) (x.e.bytes 34 2) with
      | none => s.fail f.val q.val x Status.FIELD_INVALID
      | some l =>
        if off ≠ 0 ∧ l.1.length ≤ off then s.fail f.val q.val x Status.FIELD_INVALID
        else
          let b := (l.1.drop off).take len
          (l.2.hostScatter f.val x.sg b).complete f.val q.val x.e.cid.toNat Status.SUCCESS l.1.length b.length

end Sys2Proof.Machine
end

