-- ==== Sys2Proof/Machine/Sideband.lean ====
section
/-!
DEFINITION. Machine/Sideband.lean: the service ports on the board side (19, R625, R626): the SMBus slave and the test access port. The debug UART's lines are sent
where a boot reaches its steps (Reset.lean).
-/

namespace Sys2Proof.Machine

/-! ### SMBus (R626) -/

/-- A Block Read or Read Word that the slave serves: the bytes go out, a Block Read's after their count (SMBus 3.1, log entry 24), and the read is counted. -/
def State.smbReply (s : State) (block : Bool) (l : List Nat) : State :=
  if s.smbOn then (s.addSat Reg.SBD_SMB_READS.COUNT 0 1).send (.smbus (if block then l.length :: l else l)) else s

/-- SMB_READ_DEV_ID: code 0x01. -/
def execSmbReadDevId (s : State) : Res := .next (s.smbReply true (leBytes (s.readWord 0x40080000) 4))

/-- SMB_READ_DEV_STATUS: code 0x02. -/
def execSmbReadDevStatus (s : State) : Res := .next (s.smbReply true (leBytes (s.readWord 0x40080004) 4))

/-- SMB_READ_SERIAL: code 0x03. -/
def execSmbReadSerial (s : State) : Res := .next (s.smbReply true (leBytes Config.serial 8))

/-- SMB_READ_AON_EVENT: code 0x04. -/
def execSmbReadAonEvent (s : State) : Res := .next (s.smbReply true (leBytes (s.readWord 0x40E00030) 4 ++ leBytes (s.readWord 0x40E00034) 4))

/-- SMB_READ_TEMP: code 0x05, a Read Word. -/
def execSmbReadTemp (s : State) : Res := .next (s.smbReply false (leBytes (s.rd Reg.TMP_TEMP.A 0) 2))

/-- SMB_READ_AON_SUPPLY: code 0x06. -/
def execSmbReadAonSupply (s : State) : Res := .next (s.smbReply true (leBytes (s.readWord 0x40E00010) 4))

/-- SMB_READ_TAMPER: code 0x07. -/
def execSmbReadTamper (s : State) : Res := .next (s.smbReply true (leBytes (s.readWord 0x40E01004) 4 ++ leBytes (s.readWord 0x40E01008) 4))

/-- SMB_READ_CFG_DIGEST: code 0x08. -/
def execSmbReadCfgDigest (s : State) : Res := .next (s.smbReply true (s.words12 Reg.DEV_CFG_DIGEST.DIGEST))

/-- SMB_INVALID: not acknowledged; SBD_EVENT.SMB_ERR. -/
def execSmbInvalid (s : State) : Res := .next (if s.smbOn then s.event Ev.SBD_SMB_ERR else s)

/-- SMB_TIMEOUT: the slave releases the bus; SBD_EVENT.SMB_TIMEOUT. -/
def execSmbTimeout (s : State) : Res := .next (if s.smbOn then s.event Ev.SBD_SMB_TIMEOUT else s)

/-! ### Test access port (R625) -/

/-- A TAP instruction acts in BLANK only; elsewhere the port is held in Test-Logic-Reset. -/
def State.tapOn (s : State) (run : State → State) : State := if s.mainOn && s.lifecycle = 0 then run s else s

/-- BYPASS. -/
def execBypass (s : State) : Res := .next <| s.tapOn fun s => { s with sbd.tap := .bypass }

/-- The IDCODE: version 2, part 0xC404, Sirmin's JEDEC code, 1. -/
def idcode : Nat := 0x2C404000 ||| (Config.jedecCode % 2048 * 2) ||| 1

/-- IDCODE. -/
def execIdcode (s : State) : Res := .next <| s.tapOn fun s => ({ s with sbd.tap := .idcode } : State).send (.tap idcode)

/-- SAMPLE/PRELOAD: the levels of the balls are captured and the preloaded values enter the boundary register (IEEE 1149.1, log entry 24). -/
def execSamplePreload (balls preload : List Bool) (s : State) : Res :=
  .next <| s.tapOn fun s => { s with sbd.tap := .samplePreload, sbd.captured := balls, sbd.boundary := preload }

/-- EXTEST: the boundary register drives the balls. -/
def execExtest (s : State) : Res := .next <| s.tapOn fun s => ({ s with sbd.tap := .extest } : State).send (.boundary s.sbd.boundary)

end Sys2Proof.Machine
end

