-- ==== Sys2Proof/Machine/Dispatch.lean ====
section
/-!
DEFINITION. Machine/Dispatch.lean: one arm per command: each calls the meaning of that command.
-/

namespace Sys2Proof.Machine

def exec (cmd : Instr) (s : State) : Host.Outcome State Fault Refusal :=
  match cmd with
  | .aonReset c => Sys2Proof.Machine.execAonReset c s
  | .coldReset c => Sys2Proof.Machine.execColdReset c s
  | .resetPin => Sys2Proof.Machine.execResetPin s
  | .adminReset m v => Sys2Proof.Machine.execAdminReset m v s
  | .porterCopyRead r => Sys2Proof.Machine.execPorterCopyRead r s
  | .mediaWaitEnd => Sys2Proof.Machine.execMediaWaitEnd s
  | .extentTableRestore t => Sys2Proof.Machine.execExtentTableRestore t s
  | .hostLinkUp p rate width flit => Sys2Proof.Machine.execHostLinkUp p rate width flit s
  | .hostLinkLoss p => Sys2Proof.Machine.execHostLinkLoss p s
  | .hostHotReset p => Sys2Proof.Machine.execHostHotReset p s
  | .hostPerst p => Sys2Proof.Machine.execHostPerst p s
  | .vfEnableWrite p en num => Sys2Proof.Machine.execVfEnableWrite p en num s
  | .flr f => Sys2Proof.Machine.execFlr f s
  | .dstateChange f hot => Sys2Proof.Machine.execDstateChange f hot s
  | .msixMaskWrite f w => Sys2Proof.Machine.execMsixMaskWrite f w s
  | .functionResetDone f us => Sys2Proof.Machine.execFunctionResetDone f us s
  | .drainWindowExpire w => Sys2Proof.Machine.execDrainWindowExpire w s
  | .qctrlEnable f q v => Sys2Proof.Machine.execQctrlEnable f q v s
  | .qctrlDisable f q => Sys2Proof.Machine.execQctrlDisable f q s
  | .queueDisableDone f q => Sys2Proof.Machine.execQueueDisableDone f q s
  | .fnSqtWrite f q v => Sys2Proof.Machine.execFnSqtWrite f q v s
  | .fnCqhWrite f q v => Sys2Proof.Machine.execFnCqhWrite f q v s
  | .sqFetch f q n => Sys2Proof.Machine.execSqFetch f q n s
  | .sqFetchComplete f q r => Sys2Proof.Machine.execSqFetchComplete f q r s
  | .scatterListFetch f q r => Sys2Proof.Machine.execScatterListFetch f q r s
  | .dispatchRecord f q name => Sys2Proof.Machine.execDispatchRecord f q name s
  | .payloadSegmentArrive l n data => Sys2Proof.Machine.execPayloadSegmentArrive l n data s
  | .payloadReadFail l n how => Sys2Proof.Machine.execPayloadReadFail l n how s
  | .hostReadTimeout r => Sys2Proof.Machine.execHostReadTimeout r s
  | .postCompletion l how => Sys2Proof.Machine.execPostCompletion l how s
  | .cqCoalTimer f q => Sys2Proof.Machine.execCqCoalTimer f q s
  | .fnEventEnWrite f v => Sys2Proof.Machine.execFnEventEnWrite f v s
  | .mbxPost f peer => Sys2Proof.Machine.execMbxPost f peer s
  | .mbxAck f peer => Sys2Proof.Machine.execMbxAck f peer s
  | .mbxOutWrite f peer n v => Sys2Proof.Machine.execMbxOutWrite f peer n v s
  | .dirtyLogStart f q => Sys2Proof.Machine.execDirtyLogStart f q s
  | .dirtyLogSync f q => Sys2Proof.Machine.execDirtyLogSync f q s
  | .dirtyLogStop f q => Sys2Proof.Machine.execDirtyLogStop f q s
  | .fnDlogHeadWrite f slot v => Sys2Proof.Machine.execFnDlogHeadWrite f slot v s
  | .vfStateSave f q => Sys2Proof.Machine.execVfStateSave f q s
  | .vfStateRestore f q src counter gmacOk => Sys2Proof.Machine.execVfStateRestore f q src counter gmacOk s
  | .functionConfigure f q => Sys2Proof.Machine.execFunctionConfigure f q s
  | .functionReset f q => Sys2Proof.Machine.execFunctionReset f q s
  | .functionDiscard f q => Sys2Proof.Machine.execFunctionDiscard f q s
  | .functionQuery f q => Sys2Proof.Machine.execFunctionQuery f q s
  | .append f q => Sys2Proof.Machine.execAppend f q s
  | .read f q => Sys2Proof.Machine.execRead f q s
  | .verifyRange f q locs => Sys2Proof.Machine.execVerifyRange f q locs s
  | .openLedgerCreate f q name => Sys2Proof.Machine.execOpenLedgerCreate f q name s
  | .openLedgerRebind f q expired => Sys2Proof.Machine.execOpenLedgerRebind f q expired s
  | .closeLedger f q => Sys2Proof.Machine.execCloseLedger f q s
  | .checkpointNow f q => Sys2Proof.Machine.execCheckpointNow f q s
  | .getProof f q unreadable => Sys2Proof.Machine.execGetProof f q unreadable s
  | .getRandom f q => Sys2Proof.Machine.execGetRandom f q s
  | .flush f q => Sys2Proof.Machine.execFlush f q s
  | .ledgerStatus f q => Sys2Proof.Machine.execLedgerStatus f q s
  | .readCheckpoint f q unreadable => Sys2Proof.Machine.execReadCheckpoint f q unreadable s
  | .policyOpcode f q => Sys2Proof.Machine.execPolicyOpcode f q s
  | .setSetting f q => Sys2Proof.Machine.execSetSetting f q s
  | .getSetting f q => Sys2Proof.Machine.execGetSetting f q s
  | .epochQuery f q => Sys2Proof.Machine.execEpochQuery f q s
  | .getLog f q => Sys2Proof.Machine.execGetLog f q s
  | .settingChangeWaitTimeout => Sys2Proof.Machine.execSettingChangeWaitTimeout s
  | .unitStallTimer => Sys2Proof.Machine.execUnitStallTimer s
  | .epochConverged => Sys2Proof.Machine.execEpochConverged s
  | .controlRecordResume => Sys2Proof.Machine.execControlRecordResume s
  | .laneAcceptWrite n => Sys2Proof.Machine.execLaneAcceptWrite n s
  | .keyDerive n fails => Sys2Proof.Machine.execKeyDerive n fails s
  | .laneRecordEnd n ue corrected => Sys2Proof.Machine.execLaneRecordEnd n ue corrected s
  | .laneAcceptRead n assay => Sys2Proof.Machine.execLaneAcceptRead n assay s
  | .laneReadVerdict n ue => Sys2Proof.Machine.execLaneReadVerdict n ue s
  | .readDmaComplete i how => Sys2Proof.Machine.execReadDmaComplete i how s
  | .holdZeroDone i => Sys2Proof.Machine.execHoldZeroDone i s
  | .laneParityError n => Sys2Proof.Machine.execLaneParityError n s
  | .readItemRerun i => Sys2Proof.Machine.execReadItemRerun i s
  | .laneReset m n abort => Sys2Proof.Machine.execLaneReset m n abort s
  | .laneTest m n => Sys2Proof.Machine.execLaneTest m n s
  | .groupReset m g abort => Sys2Proof.Machine.execGroupReset m g abort s
  | .resetAll m abort => Sys2Proof.Machine.execResetAll m abort s
  | .laneResetDone n => Sys2Proof.Machine.execLaneResetDone n s
  | .laneRetireWrite m k v => Sys2Proof.Machine.execLaneRetireWrite m k v s
  | .laneKatDone n pass => Sys2Proof.Machine.execLaneKatDone n pass s
  | .periodicKatDue n => Sys2Proof.Machine.execPeriodicKatDue n s
  | .groupPowerUpDone g => Sys2Proof.Machine.execGroupPowerUpDone g s
  | .groupPowerDownDone g => Sys2Proof.Machine.execGroupPowerDownDone g s
  | .voidSeal l => Sys2Proof.Machine.execVoidSeal l s
  | .chainRecord l how => Sys2Proof.Machine.execChainRecord l how s
  | .checkpointTimeTrigger l => Sys2Proof.Machine.execCheckpointTimeTrigger l s
  | .checkpointForm l => Sys2Proof.Machine.execCheckpointForm l s
  | .batchIntervalExpire => Sys2Proof.Machine.execBatchIntervalExpire s
  | .batchSigned u attempts us => Sys2Proof.Machine.execBatchSigned u attempts us s
  | .batchBlockStored => Sys2Proof.Machine.execBatchBlockStored s
  | .metadataCopyRetry journal => Sys2Proof.Machine.execMetadataCopyRetry journal s
  | .pkeJobDone u ok valid attempts => Sys2Proof.Machine.execPkeJobDone u ok valid attempts s
  | .setTimeAnchorNonce f q => Sys2Proof.Machine.execSetTimeAnchorNonce f q s
  | .setTimeAnchorSubmit f q token => Sys2Proof.Machine.execSetTimeAnchorSubmit f q token s
  | .attest f q => Sys2Proof.Machine.execAttest f q s
  | .strEraseCache m => Sys2Proof.Machine.execStrEraseCache m s
  | .strDkcFlush m => Sys2Proof.Machine.execStrDkcFlush m s
  | .journalCommitInterval => Sys2Proof.Machine.execJournalCommitInterval s
  | .journalCommitDone => Sys2Proof.Machine.execJournalCommitDone s
  | .markBlockStored => Sys2Proof.Machine.execMarkBlockStored s
  | .rootCommitInterval => Sys2Proof.Machine.execRootCommitInterval s
  | .extPersist m => Sys2Proof.Machine.execExtPersist m s
  | .extJcommit m => Sys2Proof.Machine.execExtJcommit m s
  | .persistDone us => Sys2Proof.Machine.execPersistDone us s
  | .ageDailyUpdate => Sys2Proof.Machine.execAgeDailyUpdate s
  | .extentSramUe e repaired => Sys2Proof.Machine.execExtentSramUe e repaired s
  | .pwrFail => Sys2Proof.Machine.execPwrFail s
  | .pwrFailRestart => Sys2Proof.Machine.execPwrFailRestart s
  | .mediaPresence p => Sys2Proof.Machine.execMediaPresence p s
  | .driveBringupStep p b => Sys2Proof.Machine.execDriveBringupStep p b s
  | .driveAdmit p => Sys2Proof.Machine.execDriveAdmit p s
  | .bringupTimeout p => Sys2Proof.Machine.execBringupTimeout p s
  | .mediaLinkDownTimer p => Sys2Proof.Machine.execMediaLinkDownTimer p s
  | .mediaPresenceLost p => Sys2Proof.Machine.execMediaPresenceLost p s
  | .nvmeCommandTimeout p again => Sys2Proof.Machine.execNvmeCommandTimeout p again s
  | .driveAsyncEvent p a => Sys2Proof.Machine.execDriveAsyncEvent p a s
  | .smartPoll p pct mediaErr => Sys2Proof.Machine.execSmartPoll p pct mediaErr s
  | .unitAppendDone a us => Sys2Proof.Machine.execUnitAppendDone a us s
  | .unitAppendError a => Sys2Proof.Machine.execUnitAppendError a s
  | .unitReadDone i stripe unit r content => Sys2Proof.Machine.execUnitReadDone i stripe unit r content s
  | .reconstructStripe i stripe good content => Sys2Proof.Machine.execReconstructStripe i stripe good content s
  | .stripeCloseTimer e stripe => Sys2Proof.Machine.execStripeCloseTimer e stripe s
  | .rebuildBayDone r slot lost disagrees => Sys2Proof.Machine.execRebuildBayDone r slot lost disagrees s
  | .eventCrossingOverrun cls p => Sys2Proof.Machine.execEventCrossingOverrun cls p s
  | .mpxPortReset m p => Sys2Proof.Machine.execMpxPortReset m p s
  | .rankCreate f q => Sys2Proof.Machine.execRankCreate f q s
  | .rankDelete f q => Sys2Proof.Machine.execRankDelete f q s
  | .rankAddSpare f q => Sys2Proof.Machine.execRankAddSpare f q s
  | .rankRemoveSpare f q => Sys2Proof.Machine.execRankRemoveSpare f q s
  | .rankReplace f q => Sys2Proof.Machine.execRankReplace f q s
  | .rankRejoin f q => Sys2Proof.Machine.execRankRejoin f q s
  | .rankRecoverRead f q => Sys2Proof.Machine.execRankRecoverRead f q s
  | .rankReleasePort f q => Sys2Proof.Machine.execRankReleasePort f q s
  | .rankQuery f q => Sys2Proof.Machine.execRankQuery f q s
  | .rankLocate f q => Sys2Proof.Machine.execRankLocate f q s
  | .patrolRead us => Sys2Proof.Machine.execPatrolRead us s
  | .patrolPace => Sys2Proof.Machine.execPatrolPace s
  | .patrolPassEnd => Sys2Proof.Machine.execPatrolPassEnd s
  | .asyDailyScan => Sys2Proof.Machine.execAsyDailyScan s
  | .migrationStart => Sys2Proof.Machine.execMigrationStart s
  | .migrationStripeCopy e us failed recs => Sys2Proof.Machine.execMigrationStripeCopy e us failed recs s
  | .migrationDone e => Sys2Proof.Machine.execMigrationDone e s
  | .bayZoneResetDone r bay => Sys2Proof.Machine.execBayZoneResetDone r bay s
  | .assayStart f q => Sys2Proof.Machine.execAssayStart f q s
  | .assayPause f q => Sys2Proof.Machine.execAssayPause f q s
  | .assayResume f q => Sys2Proof.Machine.execAssayResume f q s
  | .assayStop f q => Sys2Proof.Machine.execAssayStop f q s
  | .assayStatus f q => Sys2Proof.Machine.execAssayStatus f q s
  | .assayEvacuate f q => Sys2Proof.Machine.execAssayEvacuate f q s
  | .assayCancelEvacuate f q => Sys2Proof.Machine.execAssayCancelEvacuate f q s
  | .assaySlot x sealOk => Sys2Proof.Machine.execAssaySlot x sealOk s
  | .assayExtentEnd => Sys2Proof.Machine.execAssayExtentEnd s
  | .assayBatchCheck c => Sys2Proof.Machine.execAssayBatchCheck c s
  | .assayRunEnd => Sys2Proof.Machine.execAssayRunEnd s
  | .asyCtrlWrite m v => Sys2Proof.Machine.execAsyCtrlWrite m v s
  | .releaseExtentsRelease f q list => Sys2Proof.Machine.execReleaseExtentsRelease f q list s
  | .releaseExtentsHoldSet f q list => Sys2Proof.Machine.execReleaseExtentsHoldSet f q list s
  | .releaseExtentsHoldClear f q list => Sys2Proof.Machine.execReleaseExtentsHoldClear f q list s
  | .releaseExtentsQuery f q list => Sys2Proof.Machine.execReleaseExtentsQuery f q list s
  | .rngSourceFail src rct apt => Sys2Proof.Machine.execRngSourceFail src rct apt s
  | .rngSourceRetry src => Sys2Proof.Machine.execRngSourceRetry src s
  | .rngStartupPass src => Sys2Proof.Machine.execRngStartupPass src s
  | .rngBlockReady => Sys2Proof.Machine.execRngBlockReady s
  | .rngInstantiate i => Sys2Proof.Machine.execRngInstantiate i s
  | .rngReseed i => Sys2Proof.Machine.execRngReseed i s
  | .rngGenerateCall i bytes how => Sys2Proof.Machine.execRngGenerateCall i bytes how s
  | .rngCtrlReseed m mask => Sys2Proof.Machine.execRngCtrlReseed m mask s
  | .rngRawCtrlWrite m v => Sys2Proof.Machine.execRngRawCtrlWrite m v s
  | .rngRawDataRead m fresh => Sys2Proof.Machine.execRngRawDataRead m fresh s
  | .writeConfigImageBegin f q ok => Sys2Proof.Machine.execWriteConfigImageBegin f q ok s
  | .writeConfigImageWrite f q ok => Sys2Proof.Machine.execWriteConfigImageWrite f q ok s
  | .writeConfigImageFinish f q c ok => Sys2Proof.Machine.execWriteConfigImageFinish f q c ok s
  | .writeConfigImageAbort f q => Sys2Proof.Machine.execWriteConfigImageAbort f q s
  | .fuseRereadTimer r => Sys2Proof.Machine.execFuseRereadTimer r s
  | .otpReread m r => Sys2Proof.Machine.execOtpReread m r s
  | .setPowerState f q => Sys2Proof.Machine.execSetPowerState f q s
  | .sleepAdminDoorbell p v => Sys2Proof.Machine.execSleepAdminDoorbell p v s
  | .wakePin low => Sys2Proof.Machine.execWakePin low s
  | .pwrGoodUnasked => Sys2Proof.Machine.execPwrGoodUnasked s
  | .pwrGoodSeen => Sys2Proof.Machine.execPwrGoodSeen s
  | .xtal25Running => Sys2Proof.Machine.execXtal25Running s
  | .pllLocked => Sys2Proof.Machine.execPllLocked s
  | .pwrGoodTimeout => Sys2Proof.Machine.execPwrGoodTimeout s
  | .wakeRetryWaitEnd => Sys2Proof.Machine.execWakeRetryWaitEnd s
  | .xtal25Timeout => Sys2Proof.Machine.execXtal25Timeout s
  | .pllTimeout => Sys2Proof.Machine.execPllTimeout s
  | .wakeAbort => Sys2Proof.Machine.execWakeAbort s
  | .pwrGoodFall => Sys2Proof.Machine.execPwrGoodFall s
  | .clockLoss => Sys2Proof.Machine.execClockLoss s
  | .rc32Trim ppm => Sys2Proof.Machine.execRc32Trim ppm s
  | .supplyToVbat vaon vbat => Sys2Proof.Machine.execSupplyToVbat vaon vbat s
  | .dwellEnd => Sys2Proof.Machine.execDwellEnd s
  | .supplyToVaon vaon vbat => Sys2Proof.Machine.execSupplyToVaon vaon vbat s
  | .vbatWarn vbat => Sys2Proof.Machine.execVbatWarn vbat s
  | .xtal32Fail => Sys2Proof.Machine.execXtal32Fail s
  | .xtal32Retry m ok => Sys2Proof.Machine.execXtal32Retry m ok s
  | .clearFails m => Sys2Proof.Machine.execClearFails m s
  | .calendarDeadline => Sys2Proof.Machine.execCalendarDeadline s
  | .wakePulseEnd => Sys2Proof.Machine.execWakePulseEnd s
  | .crossingWakeBurst => Sys2Proof.Machine.execCrossingWakeBurst s
  | .isaAdd c e rd rs1 rs2 => Sys2Proof.Machine.execIsaAdd c e rd rs1 rs2 s
  | .isaSub c e rd rs1 rs2 => Sys2Proof.Machine.execIsaSub c e rd rs1 rs2 s
  | .isaAnd c e rd rs1 rs2 => Sys2Proof.Machine.execIsaAnd c e rd rs1 rs2 s
  | .isaAndn c e rd rs1 rs2 => Sys2Proof.Machine.execIsaAndn c e rd rs1 rs2 s
  | .isaOr c e rd rs1 rs2 => Sys2Proof.Machine.execIsaOr c e rd rs1 rs2 s
  | .isaXor c e rd rs1 rs2 => Sys2Proof.Machine.execIsaXor c e rd rs1 rs2 s
  | .isaShl c e rd rs1 rs2 => Sys2Proof.Machine.execIsaShl c e rd rs1 rs2 s
  | .isaShr c e rd rs1 rs2 => Sys2Proof.Machine.execIsaShr c e rd rs1 rs2 s
  | .isaShra c e rd rs1 rs2 => Sys2Proof.Machine.execIsaShra c e rd rs1 rs2 s
  | .isaRotr c e rd rs1 rs2 => Sys2Proof.Machine.execIsaRotr c e rd rs1 rs2 s
  | .isaLts c e rd rs1 rs2 => Sys2Proof.Machine.execIsaLts c e rd rs1 rs2 s
  | .isaLtu c e rd rs1 rs2 => Sys2Proof.Machine.execIsaLtu c e rd rs1 rs2 s
  | .isaMul c e rd rs1 rs2 => Sys2Proof.Machine.execIsaMul c e rd rs1 rs2 s
  | .isaMulh c e rd rs1 rs2 => Sys2Proof.Machine.execIsaMulh c e rd rs1 rs2 s
  | .isaMulhu c e rd rs1 rs2 => Sys2Proof.Machine.execIsaMulhu c e rd rs1 rs2 s
  | .isaDiv c e rd rs1 rs2 => Sys2Proof.Machine.execIsaDiv c e rd rs1 rs2 s
  | .isaDivu c e rd rs1 rs2 => Sys2Proof.Machine.execIsaDivu c e rd rs1 rs2 s
  | .isaRem c e rd rs1 rs2 => Sys2Proof.Machine.execIsaRem c e rd rs1 rs2 s
  | .isaRemu c e rd rs1 rs2 => Sys2Proof.Machine.execIsaRemu c e rd rs1 rs2 s
  | .isaClz c e rd rs1 rs2 => Sys2Proof.Machine.execIsaClz c e rd rs1 rs2 s
  | .isaPopc c e rd rs1 rs2 => Sys2Proof.Machine.execIsaPopc c e rd rs1 rs2 s
  | .isaBswap c e rd rs1 rs2 => Sys2Proof.Machine.execIsaBswap c e rd rs1 rs2 s
  | .isaCallr c e rd rs1 rs2 => Sys2Proof.Machine.execIsaCallr c e rd rs1 rs2 s
  | .isaCswp c e rd rs1 rs2 => Sys2Proof.Machine.execIsaCswp c e rd rs1 rs2 s
  | .isaTrap c e rd rs1 rs2 => Sys2Proof.Machine.execIsaTrap c e rd rs1 rs2 s
  | .isaBreak c e rd rs1 rs2 => Sys2Proof.Machine.execIsaBreak c e rd rs1 rs2 s
  | .isaRetx c e rd rs1 rs2 => Sys2Proof.Machine.execIsaRetx c e rd rs1 rs2 s
  | .isaIdle c e rd rs1 rs2 => Sys2Proof.Machine.execIsaIdle c e rd rs1 rs2 s
  | .isaFence c e rd rs1 rs2 => Sys2Proof.Machine.execIsaFence c e rd rs1 rs2 s
  | .isaIflush c e rd rs1 rs2 => Sys2Proof.Machine.execIsaIflush c e rd rs1 rs2 s
  | .isaHold c e rd rs1 rs2 => Sys2Proof.Machine.execIsaHold c e rd rs1 rs2 s
  | .isaHoldend c e rd rs1 rs2 => Sys2Proof.Machine.execIsaHoldend c e rd rs1 rs2 s
  | .isaAddi c e rd rs1 imm => Sys2Proof.Machine.execIsaAddi c e rd rs1 imm s
  | .isaAndi c e rd rs1 imm => Sys2Proof.Machine.execIsaAndi c e rd rs1 imm s
  | .isaOri c e rd rs1 imm => Sys2Proof.Machine.execIsaOri c e rd rs1 imm s
  | .isaXori c e rd rs1 imm => Sys2Proof.Machine.execIsaXori c e rd rs1 imm s
  | .isaLtsi c e rd rs1 imm => Sys2Proof.Machine.execIsaLtsi c e rd rs1 imm s
  | .isaLtui c e rd rs1 imm => Sys2Proof.Machine.execIsaLtui c e rd rs1 imm s
  | .isaShli c e rd rs1 imm => Sys2Proof.Machine.execIsaShli c e rd rs1 imm s
  | .isaShri c e rd rs1 imm => Sys2Proof.Machine.execIsaShri c e rd rs1 imm s
  | .isaShrai c e rd rs1 imm => Sys2Proof.Machine.execIsaShrai c e rd rs1 imm s
  | .isaAddh c e rd rs1 imm => Sys2Proof.Machine.execIsaAddh c e rd rs1 imm s
  | .isaRdc c e rd rs1 imm => Sys2Proof.Machine.execIsaRdc c e rd rs1 imm s
  | .isaWrc c e rd rs1 imm => Sys2Proof.Machine.execIsaWrc c e rd rs1 imm s
  | .isaLb c e rt base off => Sys2Proof.Machine.execIsaLb c e rt base off s
  | .isaLbu c e rt base off => Sys2Proof.Machine.execIsaLbu c e rt base off s
  | .isaLh c e rt base off => Sys2Proof.Machine.execIsaLh c e rt base off s
  | .isaLhu c e rt base off => Sys2Proof.Machine.execIsaLhu c e rt base off s
  | .isaLw c e rt base off => Sys2Proof.Machine.execIsaLw c e rt base off s
  | .isaLwa c e rt base off => Sys2Proof.Machine.execIsaLwa c e rt base off s
  | .isaSb c e rt base off => Sys2Proof.Machine.execIsaSb c e rt base off s
  | .isaSh c e rt base off => Sys2Proof.Machine.execIsaSh c e rt base off s
  | .isaSw c e rt base off => Sys2Proof.Machine.execIsaSw c e rt base off s
  | .isaSwr c e rt base off => Sys2Proof.Machine.execIsaSwr c e rt base off s
  | .isaBeq c e ra rb off => Sys2Proof.Machine.execIsaBeq c e ra rb off s
  | .isaBne c e ra rb off => Sys2Proof.Machine.execIsaBne c e ra rb off s
  | .isaBlt c e ra rb off => Sys2Proof.Machine.execIsaBlt c e ra rb off s
  | .isaBle c e ra rb off => Sys2Proof.Machine.execIsaBle c e ra rb off s
  | .isaBltu c e ra rb off => Sys2Proof.Machine.execIsaBltu c e ra rb off s
  | .isaBleu c e ra rb off => Sys2Proof.Machine.execIsaBleu c e ra rb off s
  | .isaJ c e off => Sys2Proof.Machine.execIsaJ c e off s
  | .isaCall c e off => Sys2Proof.Machine.execIsaCall c e off s
  | .isaWadd c e wd wa wb gr => Sys2Proof.Machine.execIsaWadd c e wd wa wb gr s
  | .isaWadc c e wd wa wb gr => Sys2Proof.Machine.execIsaWadc c e wd wa wb gr s
  | .isaWsub c e wd wa wb gr => Sys2Proof.Machine.execIsaWsub c e wd wa wb gr s
  | .isaWsbb c e wd wa wb gr => Sys2Proof.Machine.execIsaWsbb c e wd wa wb gr s
  | .isaWxor c e wd wa wb gr => Sys2Proof.Machine.execIsaWxor c e wd wa wb gr s
  | .isaWand c e wd wa wb gr => Sys2Proof.Machine.execIsaWand c e wd wa wb gr s
  | .isaWor c e wd wa wb gr => Sys2Proof.Machine.execIsaWor c e wd wa wb gr s
  | .isaWshl c e wd wa wb gr => Sys2Proof.Machine.execIsaWshl c e wd wa wb gr s
  | .isaWshr c e wd wa wb gr => Sys2Proof.Machine.execIsaWshr c e wd wa wb gr s
  | .isaWmul c e wd wa wb gr => Sys2Proof.Machine.execIsaWmul c e wd wa wb gr s
  | .isaWmulh c e wd wa wb gr => Sys2Proof.Machine.execIsaWmulh c e wd wa wb gr s
  | .isaWmodmul c e wd wa wb gr => Sys2Proof.Machine.execIsaWmodmul c e wd wa wb gr s
  | .isaWclmul c e wd wa wb gr => Sys2Proof.Machine.execIsaWclmul c e wd wa wb gr s
  | .isaWgf8mul c e wd wa wb gr => Sys2Proof.Machine.execIsaWgf8mul c e wd wa wb gr s
  | .isaWcmp c e wd wa wb gr => Sys2Proof.Machine.execIsaWcmp c e wd wa wb gr s
  | .isaWld c e wd wa wb gr => Sys2Proof.Machine.execIsaWld c e wd wa wb gr s
  | .isaWst c e wd wa wb gr => Sys2Proof.Machine.execIsaWst c e wd wa wb gr s
  | .isaWget c e wd wa wb gr => Sys2Proof.Machine.execIsaWget c e wd wa wb gr s
  | .isaWput c e wd wa wb gr => Sys2Proof.Machine.execIsaWput c e wd wa wb gr s
  | .wideCommit c i => Sys2Proof.Machine.execWideCommit c i s
  | .postedStoreRefused c => Sys2Proof.Machine.execPostedStoreRefused c s
  | .interruptEntry c => Sys2Proof.Machine.execInterruptEntry c s
  | .holdOverrun c => Sys2Proof.Machine.execHoldOverrun c s
  | .sourceAssert id c => Sys2Proof.Machine.execSourceAssert id c s
  | .icuCoalTimer n => Sys2Proof.Machine.execIcuCoalTimer n s
  | .icuTakeWrite c v => Sys2Proof.Machine.execIcuTakeWrite c v s
  | .icuRetireWrite c v => Sys2Proof.Machine.execIcuRetireWrite c v s
  | .icuSwiWrite m v => Sys2Proof.Machine.execIcuSwiWrite m v s
  | .icuSrcCfgWrite m n coal v => Sys2Proof.Machine.execIcuSrcCfgWrite m n coal v s
  | .icuPcfgWrite c i v => Sys2Proof.Machine.execIcuPcfgWrite c i v s
  | .lockstepMismatch selfTest => Sys2Proof.Machine.execLockstepMismatch selfTest s
  | .kcallGo c k => Sys2Proof.Machine.execKcallGo c k s
  | .kcallDone c k => Sys2Proof.Machine.execKcallDone c k s
  | .settingSet => Sys2Proof.Machine.execSettingSet s
  | .settingGet => Sys2Proof.Machine.execSettingGet s
  | .random => Sys2Proof.Machine.execRandom s
  | .randomWaitTimeout => Sys2Proof.Machine.execRandomWaitTimeout s
  | .tenantCreate => Sys2Proof.Machine.execTenantCreate s
  | .tenantSet => Sys2Proof.Machine.execTenantSet s
  | .tenantDelete => Sys2Proof.Machine.execTenantDelete s
  | .tenantQuery => Sys2Proof.Machine.execTenantQuery s
  | .keyGenerate => Sys2Proof.Machine.execKeyGenerate s
  | .keyDelete => Sys2Proof.Machine.execKeyDelete s
  | .keySeal => Sys2Proof.Machine.execKeySeal s
  | .keyOpen => Sys2Proof.Machine.execKeyOpen s
  | .keyCmac => Sys2Proof.Machine.execKeyCmac s
  | .keyCmacVerify => Sys2Proof.Machine.execKeyCmacVerify s
  | .pkVerify => Sys2Proof.Machine.execPkVerify s
  | .lcProvision fuseFail => Sys2Proof.Machine.execLcProvision fuseFail s
  | .lcInstallCert k => Sys2Proof.Machine.execLcInstallCert k s
  | .lcDeploy fuseFail => Sys2Proof.Machine.execLcDeploy fuseFail s
  | .lcRetire fuseFail => Sys2Proof.Machine.execLcRetire fuseFail s
  | .polDmaGo m c v => Sys2Proof.Machine.execPolDmaGo m c v s
  | .polDmaDone c how data => Sys2Proof.Machine.execPolDmaDone c how data s
  | .polCmdDone m c v => Sys2Proof.Machine.execPolCmdDone m c v s
  | .polCoreReset m c v => Sys2Proof.Machine.execPolCoreReset m c v s
  | .mpuCtrlWrite m c v => Sys2Proof.Machine.execMpuCtrlWrite m c v s
  | .mpuRgnWrite m c r k v => Sys2Proof.Machine.execMpuRgnWrite m c r k v s
  | .mpuTagSet m c v => Sys2Proof.Machine.execMpuTagSet m c v s
  | .tagFillDone c => Sys2Proof.Machine.execTagFillDone c s
  | .fwlCommit m => Sys2Proof.Machine.execFwlCommit m s
  | .fwlCommitDone late => Sys2Proof.Machine.execFwlCommitDone late s
  | .flashProgram m b i => Sys2Proof.Machine.execFlashProgram m b i s
  | .flashErase m b i => Sys2Proof.Machine.execFlashErase m b i s
  | .flashSuspend m b i => Sys2Proof.Machine.execFlashSuspend m b i s
  | .flashResume m b i => Sys2Proof.Machine.execFlashResume m b i s
  | .flashProgramDone b pulses ok => Sys2Proof.Machine.execFlashProgramDone b pulses ok s
  | .flashEraseDone b pulses ok => Sys2Proof.Machine.execFlashEraseDone b pulses ok s
  | .flashSuspendEffect b => Sys2Proof.Machine.execFlashSuspendEffect b s
  | .flashRefreshWalk blank => Sys2Proof.Machine.execFlashRefreshWalk blank s
  | .tamperSample x => Sys2Proof.Machine.execTamperSample x s
  | .envExcursion src detA detB vaon vbat => Sys2Proof.Machine.execEnvExcursion src detA detB vaon vbat s
  | .detectorDisagree src detA detB => Sys2Proof.Machine.execDetectorDisagree src detA detB s
  | .stimulusTestTimer failed => Sys2Proof.Machine.execStimulusTestTimer failed s
  | .tmpTest m failed => Sys2Proof.Machine.execTmpTest m failed s
  | .tmpLatchedWrite m v => Sys2Proof.Machine.execTmpLatchedWrite m v s
  | .tamperLogCopy => Sys2Proof.Machine.execTamperLogCopy s
  | .quorumSessionTimeout => Sys2Proof.Machine.execQuorumSessionTimeout s
  | .unlockOpen f q => Sys2Proof.Machine.execUnlockOpen f q s
  | .unlockStatus f q => Sys2Proof.Machine.execUnlockStatus f q s
  | .unlockActUnlock f q => Sys2Proof.Machine.execUnlockActUnlock f q s
  | .rollbackAccept f q => Sys2Proof.Machine.execRollbackAccept f q s
  | .rollbackReject f q => Sys2Proof.Machine.execRollbackReject f q s
  | .restore f q token => Sys2Proof.Machine.execRestore f q token s
  | .unlockClose f q => Sys2Proof.Machine.execUnlockClose f q s
  | .cardInsert => Sys2Proof.Machine.execCardInsert s
  | .cardRemove => Sys2Proof.Machine.execCardRemove s
  | .cardActivate ok => Sys2Proof.Machine.execCardActivate ok s
  | .atrReceived a => Sys2Proof.Machine.execAtrReceived a s
  | .atrTimeout => Sys2Proof.Machine.execAtrTimeout s
  | .classChangeWaitEnd => Sys2Proof.Machine.execClassChangeWaitEnd s
  | .ppsExchange r => Sys2Proof.Machine.execPpsExchange r s
  | .cardSelect a => Sys2Proof.Machine.execCardSelect a s
  | .readCert a c => Sys2Proof.Machine.execReadCert a c s
  | .authenticate a => Sys2Proof.Machine.execAuthenticate a s
  | .getResponse a ok => Sys2Proof.Machine.execGetResponse a ok s
  | .cardWwtTimeout => Sys2Proof.Machine.execCardWwtTimeout s
  | .cardOvercurrent => Sys2Proof.Machine.execCardOvercurrent s
  | .cardClockStop => Sys2Proof.Machine.execCardClockStop s
  | .crdDeact m => Sys2Proof.Machine.execCrdDeact m s
  | .enrol m idx => Sys2Proof.Machine.execEnrol m idx s
  | .revoke m idx => Sys2Proof.Machine.execRevoke m idx s
  | .custodianCommit m k => Sys2Proof.Machine.execCustodianCommit m k s
  | .custodianDiscard m => Sys2Proof.Machine.execCustodianDiscard m s
  | .nfcFieldOn => Sys2Proof.Machine.execNfcFieldOn s
  | .nfcFieldLost => Sys2Proof.Machine.execNfcFieldLost s
  | .reqa => Sys2Proof.Machine.execReqa s
  | .wupa => Sys2Proof.Machine.execWupa s
  | .anticollision level2 n known => Sys2Proof.Machine.execAnticollision level2 n known s
  | .nfcSelect level2 uid => Sys2Proof.Machine.execNfcSelect level2 uid s
  | .hlta => Sys2Proof.Machine.execHlta s
  | .nfcInvalidFrame how => Sys2Proof.Machine.execNfcInvalidFrame how s
  | .read16 addr lengthOk => Sys2Proof.Machine.execRead16 addr lengthOk s
  | .write4 addr data lengthOk power => Sys2Proof.Machine.execWrite4 addr data lengthOk power s
  | .getInfo lengthOk power => Sys2Proof.Machine.execGetInfo lengthOk power s
  | .auth1 rndR lengthOk power => Sys2Proof.Machine.execAuth1 rndR lengthOk power s
  | .auth2 tr lengthOk => Sys2Proof.Machine.execAuth2 tr lengthOk s
  | .nplKupd m v => Sys2Proof.Machine.execNplKupd m v s
  | .nplPupd m v => Sys2Proof.Machine.execNplPupd m v s
  | .pageUpdate u fin us => Sys2Proof.Machine.execPageUpdate u fin us s
  | .nplRdCtrl m v => Sys2Proof.Machine.execNplRdCtrl m v s
  | .nplKeySet m => Sys2Proof.Machine.execNplKeySet m s
  | .nplKeyClear m => Sys2Proof.Machine.execNplKeyClear m s
  | .smbReadDevId => Sys2Proof.Machine.execSmbReadDevId s
  | .smbReadDevStatus => Sys2Proof.Machine.execSmbReadDevStatus s
  | .smbReadSerial => Sys2Proof.Machine.execSmbReadSerial s
  | .smbReadAonEvent => Sys2Proof.Machine.execSmbReadAonEvent s
  | .smbReadTemp => Sys2Proof.Machine.execSmbReadTemp s
  | .smbReadAonSupply => Sys2Proof.Machine.execSmbReadAonSupply s
  | .smbReadTamper => Sys2Proof.Machine.execSmbReadTamper s
  | .smbReadCfgDigest => Sys2Proof.Machine.execSmbReadCfgDigest s
  | .smbInvalid => Sys2Proof.Machine.execSmbInvalid s
  | .smbTimeout => Sys2Proof.Machine.execSmbTimeout s
  | .bypass => Sys2Proof.Machine.execBypass s
  | .idcode => Sys2Proof.Machine.execIdcode s
  | .samplePreload balls preload => Sys2Proof.Machine.execSamplePreload balls preload s
  | .extest => Sys2Proof.Machine.execExtest s
  | .reg64HalfAccess via a write v => Sys2Proof.Machine.execReg64HalfAccess via a write v s
  | .registerWrite via a v => Sys2Proof.Machine.execRegisterWrite via a v s
  | .persistHoldoffEnd => Sys2Proof.Machine.execPersistHoldoffEnd s
  | .batchHoldoffEnd => Sys2Proof.Machine.execBatchHoldoffEnd s
  | .anchorStale => Sys2Proof.Machine.execAnchorStale s
  | .unexpectedCompletion p => Sys2Proof.Machine.execUnexpectedCompletion p s

end Sys2Proof.Machine
end

