-- ==== Sys2Proof/Safety.lean ====
section
/-!
DEFINITION. Safety.lean: what the statements say in common: a command answers a next state with a property; the entry a host command acts
on; a completion entry that a queue receives; the memories of a state are in canonical form.
-/

namespace Sys2Proof.Machine

/-- Command `i` completes on `s`: it answers a next state, and that state has `P`. -/
def Gives (i : Instr) (s : State) (P : State → Prop) : Prop := ∃ t, exec i s = .next t ∧ P t

/-- The firewall and the power state admit a register write of master `m` at an internal address (14, R511; 11, R415). -/
abbrev Admitted (s : State) (m : Fin 16) (a : Nat) : Prop := s.mainOn = true ∧ s.denied m.val a true = none

/-- `x` is the first fetched entry of a queue, passed the checks of its fetch, carries the opcode, and the function, the queue and the device
serve it now (02, R33, R66;
10, R389; 11, R414; 12, R454; that a host command's row acts on this entry: log entry 6). -/
abbrev Fetched (s : State) (f : Fn) (q : Q) (opc : Nat) (x : FEntry) : Prop :=
  s.front f.val q.val = some x ∧ x.e.opc.toNat = opc ∧ s.fnLive f.val = true ∧ s.served f.val q.val = true ∧
    s.modeRefuses x.e = false ∧ s.keeperRefuses x.e = false ∧ s.readyRefuses x.e = false ∧ x.bad = none

/-- The front entry of a queue is a RANK_CONTROL of SUBOP `sub` that none of the checks of R302 that all SUBOPs share refuses; `ro`: the SUBOP is
admitted while the archive is read-only. -/
abbrev RankCmd (s : State) (f : Fn) (q : Q) (sub : Nat) (ro : Bool) (x : FEntry) : Prop :=
  Fetched s f q 0x8F x ∧ x.e.bytes 32 1 = sub ∧ s.set.excl = false ∧ s.rankRefused ro = none ∧ rankFields x.e = true

/-- The front entry of a queue is an ASSAY_CONTROL of SUBOP `sub` that none of the checks that all SUBOPs share refuses (08, R325). -/
abbrev AssayCmd (s : State) (f : Fn) (q : Q) (sub : Nat) (x : FEntry) : Prop :=
  Fetched s f q 0x89 x ∧ x.e.bytes 32 1 = sub ∧ s.rankRefused true = none ∧ onlyBytes x.e [(32, 16)] = true

/-- The front entry of a queue is a RELEASE_EXTENTS of SUBOP `sub` whose list passes the checks of R333. -/
abbrev ReleaseCmd (s : State) (f : Fn) (q : Q) (sub : Nat) (list : List (BitVec 32)) (x : FEntry) : Prop :=
  Fetched s f q 0x88 x ∧ x.e.bytes 32 1 = sub ∧ s.set.excl = false ∧ s.releaseRefused sub x.e (list.map BitVec.toNat) = none

/-- The front entry of a queue is a WRITE_CONFIG_IMAGE of SUBOP `sub` that R382 does not refuse before it acts. -/
abbrev ConfigCmd (s : State) (f : Fn) (q : Q) (sub : Nat) (x : FEntry) : Prop :=
  Fetched s f q 0x87 x ∧ x.e.bytes 32 1 = sub ∧ s.set.excl = false ∧ s.configRefused x.e = none

/-- The front entry of a queue is an UNLOCK of SUBOP `sub`, and of ACTION `act` where SUBOP is ACT, that R558 does not refuse. -/
abbrev UnlockCmd (s : State) (f : Fn) (q : Q) (sub act : Nat) (x : FEntry) : Prop :=
  Fetched s f q 0x8D x ∧ x.e.bytes 32 1 = sub ∧ (sub = 3 → x.e.bytes 33 1 = act) ∧ s.set.excl = false ∧ s.unlockRefused x.e = none

/-- A completion of a queue is written at once: the function is live, the queue active and not discarding, nothing is held, and a slot is
free (02, R59, R60). -/
abbrev CqOpen (s : State) (f : Fn) (q : Q) : Prop :=
  s.fnLive f.val = true ∧ s.qActive f.val q.val = true ∧ (s.qrt f.val q.val).discard = false ∧ (s.qrt f.val q.val).held = [] ∧
    s.cqUsed f.val q.val + 1 < s.qDepth f.val q.val

/-- Between `s` and `t` the completion entry of `x` is written at the tail of its queue, with a status and results (02, R59, R71). -/
def Answered (s t : State) (f : Fn) (q : Q) (x : FEntry) (status res0 res1 : Nat) : Prop :=
  Out.cqe f.val q.val (s.rd Reg.QSTATUS.CQTAIL (qix f.val q.val)) res0 res1 x.e.cid.toNat status (s.qrt f.val q.val).phase ∈ t.out

/-- A byte memory is in its canonical form: addresses strictly rise, and no entry equals what an unlisted address reads as. -/
def Memory.wf (d : Byte) (m : Tab Byte) : Bool := Tab.wf m && m.all fun x => x.2 != d

/-- The memories of the block are canonical: the TCMs of the cores and the staging region, where an unlisted byte reads 0, and the embedded
flash, where it reads 0xFF. -/
def State.memWf (s : State) : Bool :=
  Memory.wf 0 s.cpu.core0.tcm && Memory.wf 0 s.cpu.core1.tcm && Memory.wf 0 s.cpu.keeper.tcm && Memory.wf 0 s.cpu.staging &&
    Memory.wf 0xFF s.efl.mem

/-! ### Instructions (12, 13) -/

/-- Core `c` takes the instruction at its pc now: it executes, no entry is due at the boundary, the fetch gives the instruction, and no wide operation
is in flight (12, R448, R466; 13, R471, R474). -/
abbrev Fetches (s : State) (c : CoreId) (e : Ecc) : Prop :=
  s.executes c.val = true ∧ (s.core c.val).run = .running ∧ s.boundary c.val = none ∧ s.fetchFails c.val e = none ∧ (s.core c.val).wide = []

/-- FRAME. Of everything outside core `c` itself, nothing differs between `s` and `t` but the pending bit of its TIMER source, which CYCLE may raise, and
the model's counter of free values. -/
def CoreOnly (s t : State) (c : CoreId) : Prop :=
  (∀ d : CoreId, d ≠ c → t.core d.val = s.core d.val) ∧
  (∀ (g : Fld) (j : Nat), g.key j ≠ Reg.ICU_PCFG.PEND.key (c.val * 32 + 4) → t.rd g j = s.rd g j) ∧
  { t with regs := s.regs, fresh := s.fresh,
           cpu := { t.cpu with core0 := s.cpu.core0, core1 := s.cpu.core1, keeper := s.cpu.keeper } } = s

/-- Core `c` commits an instruction: of its registers it has what `x` says, it goes on at `npc`, INSTRET counts, the entry span ends; CYCLE and HOLDCNT
move; nothing outside the core changes. -/
def Commits (s t : State) (c : CoreId) (npc : Word) (x : Core) : Prop :=
  t.core c.val = { x with lastPc := (s.core c.val).pc, pc := npc, entrySpan := false, instret := ((s.core c.val).instret + 1) % 2 ^ 64,
                          cycle := (t.core c.val).cycle, holdcnt := (t.core c.val).holdcnt } ∧
  CoreOnly s t c

/-- Core `c`, outside any entry span and double fault, takes the synchronous exception `code` of the instruction at its pc (13, R468–R471): EPC, ECAUSE,
PPRIV and PIE are saved, IE and the HOLD window close, PRIV is the handler's, the pc is the vector, and no register or memory changes but EADDR, where
the code has an address. -/
def Raises (s t : State) (c : CoreId) (code : Nat) (addr : Option Word) : Prop :=
  let x := s.core c.val
  t.core c.val =
    { x with
      epc := x.pc &&& 0xFFFFFFFC, ecause := BitVec.ofNat 32 code, ppriv := x.priv, pie := x.ie, ie := false,
      priv := if c.val = 2 then 2 else 1, holdOpen := false, holdcnt := 0, pc := x.evbase + 0x40, entrySpan := true, entryCode := code,
      eaddr := addr.getD x.eaddr, cycle := (t.core c.val).cycle, impHold := (t.core c.val).impHold } ∧
  CoreOnly s t c

/-- The core is neither in an entry span nor in a double fault (13, R475). -/
abbrev Core.Calm (x : Core) : Prop := x.df = false ∧ x.entrySpan = false

/-- The operations on two registers and their values (12, R442). -/
def RegOp (p : (CoreId → Ecc → G → G → G → Instr) × (Word → Word → Word)) : Prop := p ∈
  ([(.isaAdd, fun a b => a + b), (.isaSub, fun a b => a - b), (.isaAnd, fun a b => a &&& b), (.isaAndn, fun a b => a &&& ~~~b),
   (.isaOr, fun a b => a ||| b), (.isaXor, fun a b => a ^^^ b), (.isaShl, fun a b => a <<< (b.toNat % 32)),
   (.isaShr, fun a b => a >>> (b.toNat % 32)), (.isaShra, fun a b => a.sshiftRight (b.toNat % 32)),
   (.isaRotr, fun a b => a.rotateRight (b.toNat % 32)), (.isaLts, fun a b => if a.toInt < b.toInt then 1 else 0),
   (.isaLtu, fun a b => if a.toNat < b.toNat then 1 else 0), (.isaMul, fun a b => a * b),
   (.isaMulh, fun a b => BitVec.ofInt 32 (a.toInt * b.toInt / 2 ^ 32)), (.isaMulhu, fun a b => BitVec.ofNat 32 (a.toNat * b.toNat / 2 ^ 32))] :
    List ((CoreId → Ecc → G → G → G → Instr) × (Word → Word → Word)))

/-- The operations on one register, whose rs2 must be 0. -/
def UnaryOp (p : (CoreId → Ecc → G → G → G → Instr) × (Word → Word)) : Prop := p ∈
  ([(.isaClz, fun a => BitVec.ofNat 32 (leadingZeros a.toNat 32)), (.isaPopc, fun a => BitVec.ofNat 32 (setBits a.toNat 32)),
   (.isaBswap, fun a => (a <<< 24) ||| ((a &&& 0xFF00) <<< 8) ||| ((a >>> 8) &&& 0xFF00) ||| (a >>> 24))] :
    List ((CoreId → Ecc → G → G → G → Instr) × (Word → Word)))

/-- The divisions (12, R441, R442). -/
def DivOp (p : (CoreId → Ecc → G → G → G → Instr) × (Word → Word → Word)) : Prop := p ∈
  ([(.isaDiv, fun a b => if a = 0x80000000 ∧ b = 0xFFFFFFFF then 0x7FFFFFFF else BitVec.ofInt 32 (a.toInt.tdiv b.toInt)),
   (.isaDivu, fun a b => BitVec.ofNat 32 (a.toNat / b.toNat)),
   (.isaRem, fun a b => if a = 0x80000000 ∧ b = 0xFFFFFFFF then 0 else BitVec.ofInt 32 (a.toInt.tmod b.toInt)),
   (.isaRemu, fun a b => BitVec.ofNat 32 (a.toNat % b.toNat))] : List ((CoreId → Ecc → G → G → G → Instr) × (Word → Word → Word)))

/-- The operations on a register and an immediate (12, R444). -/
def ImmOp (p : (CoreId → Ecc → G → G → Imm16 → Instr) × (Word → Imm16 → Word)) : Prop := p ∈
  ([(.isaAddi, fun a i => a + i.signExtend 32), (.isaAndi, fun a i => a &&& i.setWidth 32), (.isaOri, fun a i => a ||| i.setWidth 32),
   (.isaXori, fun a i => a ^^^ i.setWidth 32), (.isaLtsi, fun a i => if a.toInt < i.toInt then 1 else 0),
   (.isaLtui, fun a i => if a.toNat < i.toNat then 1 else 0), (.isaAddh, fun a i => a + BitVec.ofNat 32 (i.toNat * 2 ^ 16))] :
    List ((CoreId → Ecc → G → G → Imm16 → Instr) × (Word → Imm16 → Word)))

/-- The shifts by an immediate, of which imm[15:5] must be 0. -/
def ShiftOp (p : (CoreId → Ecc → G → G → Imm16 → Instr) × (Word → Nat → Word)) : Prop := p ∈
  ([(.isaShli, fun a n => a <<< n), (.isaShri, fun a n => a >>> n), (.isaShrai, fun a n => a.sshiftRight n)] :
    List ((CoreId → Ecc → G → G → Imm16 → Instr) × (Word → Nat → Word)))

/-- The branches and their conditions (12, R446). -/
def BranchOp (p : (CoreId → Ecc → G → G → Imm16 → Instr) × (Word → Word → Prop)) : Prop := p ∈
  ([(.isaBeq, fun a b => a = b), (.isaBne, fun a b => a ≠ b), (.isaBlt, fun a b => a.toInt < b.toInt), (.isaBle, fun a b => a.toInt ≤ b.toInt),
   (.isaBltu, fun a b => a.toNat < b.toNat), (.isaBleu, fun a b => a.toNat ≤ b.toNat)] :
    List ((CoreId → Ecc → G → G → Imm16 → Instr) × (Word → Word → Prop)))

/-- The loads: bytes, and how they extend (12, R445). -/
def LoadOp (p : (CoreId → Ecc → G → G → Imm16 → Instr) × Nat × (Nat → Word)) : Prop := p ∈
  ([(.isaLb, 1, fun v => (BitVec.ofNat 8 v).signExtend 32), (.isaLbu, 1, fun v => BitVec.ofNat 32 v),
   (.isaLh, 2, fun v => (BitVec.ofNat 16 v).signExtend 32), (.isaLhu, 2, fun v => BitVec.ofNat 32 v), (.isaLw, 4, fun v => BitVec.ofNat 32 v),
   (.isaLwa, 4, fun v => BitVec.ofNat 32 v)] : List ((CoreId → Ecc → G → G → Imm16 → Instr) × Nat × (Nat → Word)))

/-- The stores and their bytes (12, R445). -/
def StoreOp (p : (CoreId → Ecc → G → G → Imm16 → Instr) × Nat) : Prop := p ∈
  ([(.isaSb, 1), (.isaSh, 2), (.isaSw, 4), (.isaSwr, 4)] : List ((CoreId → Ecc → G → G → Imm16 → Instr) × Nat))

/-- The wide operations on two wide registers and WFLAGS that must have gr = 0: the value, the flags named, their values (12, R447). -/
def WideOper (p : (CoreId → Ecc → W → W → W → G → Instr) × (Wide → Wide → Nat → Wide × Nat × Nat)) : Prop :=
  let c (b : Bool) : Nat := if b then 1 else 0
  let z (v : Wide) : Nat := if v = 0 then 2 else 0
  p ∈ ([(.isaWadd, fun a b _ => (a + b, 3, c (2 ^ 256 ≤ a.toNat + b.toNat) + z (a + b))),
   (.isaWadc, fun a b f => let v := a + b + BitVec.ofNat 256 (f % 2); (v, 3, c (2 ^ 256 ≤ a.toNat + b.toNat + f % 2) + z v)),
   (.isaWsub, fun a b _ => (a - b, 3, c (a.toNat < b.toNat) + z (a - b))),
   (.isaWsbb, fun a b f => let v := a - b - BitVec.ofNat 256 (f % 2); (v, 3, c (a.toNat < b.toNat + f % 2) + z v)),
   (.isaWxor, fun a b _ => (a ^^^ b, 2, z (a ^^^ b))), (.isaWand, fun a b _ => (a &&& b, 2, z (a &&& b))),
   (.isaWor, fun a b _ => (a ||| b, 2, z (a ||| b))),
   (.isaWmul, fun a b _ => (BitVec.ofNat 256 (a.toNat % 2 ^ 128 * (b.toNat % 2 ^ 128)), 0, 0)),
   (.isaWmulh, fun a b _ => (BitVec.ofNat 256 (a.toNat / 2 ^ 128 * (b.toNat / 2 ^ 128)), 0, 0)),
   (.isaWclmul, fun a b _ => (carryless a b, 0, 0)), (.isaWgf8mul, fun a b _ => (gf8Mul a b, 0, 0))] :
    List ((CoreId → Ecc → W → W → W → G → Instr) × (Wide → Wide → Nat → Wide × Nat × Nat)))

/-- A core after a wide operation without a fault commits in it: the flags it names, its wide or general register (12, R447, R448). -/
def Core.takes (x : Core) (o : WideOp) : Core :=
  let x : Core := { x with wflags := (x.wflags &&& (7 - o.fmask)) ||| (o.fval &&& o.fmask) }
  if h : o.dst < 8 then { x with w := x.w.set o.dst o.value }
  else if h : 8 < o.dst ∧ o.dst < 40 then { x with g := x.g.set (o.dst - 8) (o.value.setWidth 32) }
  else x

/-- A wide operation of core `c` is issued (12, R448, R449): with PAM = 1 it commits with the instruction; with PAM = 0 it is in flight, and the
instruction goes on. -/
def Issues (s t : State) (c : CoreId) (dst : Nat) (r : Wide × Nat × Nat) : Prop :=
  let x := s.core c.val
  let o : WideOp := ⟨x.pc, dst, r.1, r.2.1, r.2.2, false, 0⟩
  (x.pam = false → Commits s t c (x.pc + 4) { x with wide := [o] }) ∧
  (x.pam = true → Commits s t c (x.pc + 4) (x.takes o))

/-! ### Requests to the Keeper (12, R457) -/

/-- The request of slot `i` (core x 4 + slot) is the next in the order of GO writes, asks for service `svc` with a buffer in the caller's memory, and nothing
keeps it waiting (12, R457, R458). -/
abbrev Requests (s : State) (i svc : Nat) (x : KSlot) : Prop :=
  s.mainOn = true ∧ s.kcallRunning = false ∧ (exclusiveService svc = true → s.set.excl = false) ∧ s.cpu.korder.head? = some i ∧ s.kslot i = x ∧
    x.svc = svc ∧ s.bufOk x = true

/-- The request of slot `i` has its result, for KCALL_DONE to give. -/
def Returns (t : State) (i status : Nat) (ret : List Nat) : Prop :=
  (t.kslot i).state = 2 ∧ (t.kslot i).ready = true ∧ (t.kslot i).result = status ∧ (t.kslot i).ret = ret

/-! ### Frames -/

/-- Commands that may write the embedded flash array: the installation of an image, the ends of a program and of an erase. -/
def WritesFlash : Instr → Prop
  | .porterCopyRead .. | .flashProgramDone .. | .flashEraseDone .. => True
  | _ => False

/-- Commands that may write the tag's pages. -/
def WritesPages : Instr → Prop
  | .write4 .. | .pageUpdate .. => True
  | _ => False

/-- Commands that may write the test access port's registers. -/
def WritesTap : Instr → Prop
  | .bypass | .idcode | .samplePreload .. | .extest => True
  | _ => False

/-- Commands that may write the TCMs or the staging region: resets, what delivers data there, stores, and register writes, which may be a reset. -/
def WritesWork : Instr → Prop
  | .aonReset .. | .coldReset .. | .resetPin .. | .adminReset .. | .extentTableRestore .. | .policyOpcode .. | .pwrFailRestart .. | .rngGenerateCall .. | .pllLocked .. | .isaCswp .. => True
  | .isaSb .. | .isaSh .. | .isaSw .. | .isaSwr .. | .isaWst .. | .tenantCreate | .tenantQuery | .keySeal | .keyOpen | .lcProvision .. | .polDmaDone .. => True
  | .reg64HalfAccess .. | .registerWrite .. => True
  | _ => False

/-! ### What a command leaves -/

/-- The parts of a state beside register fields, what was sent, the counter of free values and the queue. -/
inductive Part where
  | host | led | set | lane | key | scv | media | asy | cpu | rng | cfg | aon | tmp | efl | crd | npl | sbd
  deriving DecidableEq, Repr

/-- A part is the same in two states; of the cores' part but for coalescing counts, which any event may change, and of the always-on part but for the count of
writes that its shadow dropped. -/
def Part.same (s t : State) : Part → Prop
  | .host => t.host = s.host
  | .led => t.led = s.led
  | .set => t.set = s.set
  | .lane => t.lane = s.lane
  | .key => t.key = s.key
  | .scv => t.scv = s.scv
  | .media => t.media = s.media
  | .asy => t.asy = s.asy
  | .cpu => { t.cpu with coal := s.cpu.coal } = s.cpu
  | .rng => t.rng = s.rng
  | .cfg => t.cfg = s.cfg
  | .aon => { t.aon with shadowDrops := s.aon.shadowDrops } = s.aon
  | .tmp => t.tmp = s.tmp
  | .efl => t.efl = s.efl
  | .crd => t.crd = s.crd
  | .npl => t.npl = s.npl
  | .sbd => t.sbd = s.sbd

/-- The parts that a command may change; none where this statement does not say. -/
def mayChange : Instr → Option (List Part)
  | .hostLinkUp .. | .mbxOutWrite .. | .fnDlogHeadWrite .. | .eventCrossingOverrun .. | .rngSourceRetry .. | .rngBlockReady | .rc32Trim .. |
    .dwellEnd | .calendarDeadline | .wakePulseEnd | .crossingWakeBurst | .sourceAssert .. | .icuCoalTimer .. | .icuPcfgWrite .. |
    .fwlCommitDone .. | .cardClockStop | .smbReadDevId | .smbReadDevStatus | .smbReadSerial | .smbReadAonEvent | .smbReadTemp |
    .smbReadAonSupply | .smbReadTamper | .smbReadCfgDigest | .smbInvalid | .smbTimeout | .unexpectedCompletion .. => some []
  | .msixMaskWrite .. | .qctrlEnable .. | .qctrlDisable .. | .fnSqtWrite .. | .fnCqhWrite .. | .sqFetch .. | .sqFetchComplete .. | .scatterListFetch
    .. | .cqCoalTimer .. | .fnEventEnWrite .. | .mbxPost .. | .mbxAck .. | .dirtyLogSync .. | .vfStateSave .. | .functionConfigure .. | .functionQuery
    .. | .ledgerStatus .. | .readCheckpoint .. | .getSetting .. | .epochQuery .. | .unitStallTimer | .rankRecoverRead .. | .rankReleasePort .. |
    .rankQuery .. | .rankLocate .. | .assayStatus .. | .releaseExtentsQuery .. | .unlockStatus .. => some [.host]
  | .settingChangeWaitTimeout | .epochConverged => some [.set]
  | .laneResetDone .. | .periodicKatDue .. | .groupPowerUpDone .. => some [.lane]
  | .metadataCopyRetry .. | .rootCommitInterval | .extentSramUe .. | .persistHoldoffEnd => some [.key]
  | .anchorStale => some [.scv]
  | .mediaPresence .. | .driveBringupStep .. | .driveAdmit .. => some [.media]
  | .patrolRead .. | .patrolPace | .assayBatchCheck .. | .assayRunEnd => some [.asy]
  | .asyCtrlWrite .. | .holdOverrun .. | .icuTakeWrite .. | .icuRetireWrite .. | .icuSwiWrite .. | .icuSrcCfgWrite .. | .kcallGo .. | .kcallDone .. |
    .settingGet | .tenantQuery | .polDmaGo .. | .mpuCtrlWrite .. | .mpuRgnWrite .. | .mpuTagSet .. | .tagFillDone .. | .fwlCommit .. |
    .tmpLatchedWrite .. | .nplRdCtrl .. => some [.cpu]
  | .rngInstantiate .. | .rngReseed .. | .rngRawDataRead .. => some [.rng]
  | .wakePin .. | .pwrGoodUnasked | .pwrGoodSeen | .xtal25Running | .pwrGoodTimeout | .wakeRetryWaitEnd | .xtal25Timeout |
    .pllTimeout | .supplyToVaon .. => some [.aon]
  | .detectorDisagree .. | .tamperLogCopy => some [.tmp]
  | .flashProgramDone .. | .flashEraseDone .. | .flashSuspendEffect .. | .flashRefreshWalk .. => some [.efl]
  | .cardInsert | .cardRemove | .cardActivate .. | .atrReceived .. | .atrTimeout | .classChangeWaitEnd | .ppsExchange .. | .cardSelect ..
    | .cardWwtTimeout | .cardOvercurrent => some [.crd]
  | .nfcFieldOn | .nfcFieldLost | .reqa | .wupa | .anticollision .. | .nfcSelect .. | .hlta | .nfcInvalidFrame .. | .read16 .. |
    .write4 .. | .getInfo .. | .auth1 .. | .auth2 .. => some [.npl]
  | .bypass | .idcode => some [.sbd]
  | .vfStateRestore .. | .functionDiscard .. | .verifyRange .. | .flush .. => some [.host, .led]
  | .read .. => some [.host, .lane]
  | .dirtyLogStart .. | .dirtyLogStop .. => some [.host, .key]
  | .getProof .. | .setTimeAnchorNonce .. | .setTimeAnchorSubmit .. => some [.host, .scv]
  | .rankAddSpare .. | .rankRemoveSpare .. | .assayCancelEvacuate .. => some [.host, .media]
  | .assayPause .. | .assayResume .. | .assayStop .. => some [.host, .asy]
  | .policyOpcode .. | .polDmaDone .. | .polCmdDone .. => some [.host, .cpu]
  | .getRandom .. | .rngSourceFail .. | .rngStartupPass .. => some [.host, .rng]
  | .writeConfigImageBegin .. | .writeConfigImageWrite .. | .writeConfigImageAbort .. => some [.host, .cfg]
  | .sleepAdminDoorbell .. => some [.host, .aon]
  | .payloadSegmentArrive .. => some [.led, .lane]
  | .checkpointTimeTrigger .. => some [.led, .scv]
  | .laneKatDone .. => some [.set, .lane]
  | .keyDerive .. | .laneAcceptRead .. | .groupPowerDownDone .. => some [.lane, .key]
  | .laneTest .. => some [.lane, .cpu]
  | .journalCommitInterval | .persistDone .. => some [.key, .scv]
  | .ageDailyUpdate | .migrationDone .. | .assayExtentEnd => some [.key, .asy]
  | .strDkcFlush .. | .extPersist .. | .tenantCreate | .keyGenerate | .keyDelete | .keySeal | .keyOpen | .keyCmac | .keyCmacVerify
    .. => some [.key, .cpu]
  | .markBlockStored => some [.scv, .asy]
  | .pkVerify | .lcInstallCert .. => some [.scv, .cpu]
  | .rngCtrlReseed .. | .rngRawCtrlWrite .. => some [.cpu, .rng]
  | .xtal32Retry .. | .clearFails .. => some [.cpu, .aon]
  | .flashProgram .. | .flashErase .. | .flashSuspend .. | .flashResume .. => some [.cpu, .efl]
  | .crdDeact .. | .enrol .. | .revoke .. | .custodianCommit .. | .custodianDiscard .. => some [.cpu, .crd]
  | .nplKupd .. | .nplPupd .. | .nplKeySet .. | .nplKeyClear .. => some [.cpu, .npl]
  | .quorumSessionTimeout | .readCert .. | .authenticate .. | .getResponse .. => some [.tmp, .crd]
  | .checkpointNow .. => some [.host, .led, .scv]
  | .releaseExtentsHoldSet .. | .releaseExtentsHoldClear .. => some [.host, .set, .key]
  | .polCoreReset .. => some [.host, .set, .cpu]
  | .writeConfigImageFinish .. => some [.host, .set, .cfg]
  | .assayStart .. => some [.host, .lane, .asy]
  | .rankDelete .. => some [.host, .key, .media]
  | .rollbackReject .. | .restore .. => some [.host, .key, .tmp]
  | .assayEvacuate .. => some [.host, .media, .asy]
  | .rngGenerateCall .. | .random | .randomWaitTimeout => some [.host, .cpu, .rng]
  | .unlockActUnlock .. => some [.host, .cfg, .tmp]
  | .unlockOpen .. | .unlockClose .. => some [.host, .tmp, .crd]
  | .laneAcceptWrite .. => some [.led, .lane, .key]
  | .holdZeroDone .. => some [.led, .lane, .asy]
  | .assaySlot .. => some [.lane, .key, .asy]
  | .extJcommit .. => some [.key, .scv, .cpu]
  | .migrationStart => some [.key, .media, .asy]
  | .tenantSet | .tenantDelete => some [.key, .media, .cpu]
  | .lcProvision .. | .lcDeploy .. => some [.key, .cpu, .cfg]
  | _ => none

end Sys2Proof.Machine
end

