-- ==== Sys2Proof/Certificates/Slice0/Obligations.lean ====
section
/-!
DEFINITION. Certificates/Slice0/Obligations.lean: the statements for the provers, by chapter of the spec.
-/

open Sys2Proof Sys2Proof.Machine

/-- A step on a queue that holds a command is exec of the front command on the state with the queue's rest; the queue's rest is what exec sees. -/
def Obligations.StepRunsFrontCommand : Prop :=  ∀ (s : State) (c : Instr) (r : List Instr), s.pending = c :: r → Machine.step s = exec c { s with pending := r }

/-- On an empty queue a step lets one AON tick pass: the tick counter rises by one, modulo its 48 bits, every other register field and all else stays (11,
R426; the model's choice, log entry 1). -/
def Obligations.IdleStepTicks : Prop :=
  ∀ s : State, s.pending = [] → ∃ t, Machine.step s = .next t ∧
    t.rd Reg.AON_TICKS.TICKS 0 = (s.rd Reg.AON_TICKS.TICKS 0 + 1) % 2 ^ 48 ∧
    (∀ (g : Fld) (j : Nat), g.id % 1024 ≠ Reg.AON_TICKS.TICKS.id → t.rd g j = s.rd g j) ∧ { t with regs := s.regs } = s

/-- exec leaves the queue to step: no command of any kind takes a waiting command off, puts one in or changes their order. -/
def Obligations.ExecLeavesQueue : Prop :=  ∀ (c : Instr) (s t : State), exec c s = .next t → t.pending = s.pending

/-- INVARIANT. Every step keeps the memories of the block in their canonical form (addresses strictly rising, no listed byte equal to what an unlisted one
reads as), so that equal memories are equal data: the TCMs, the staging region, the embedded flash. Model's readings: log entry 100. -/
def Obligations.StepKeepsMemoriesCanonical : Prop :=  ∀ s t : State, s.memWf = true → Machine.step s = .next t → t.memWf = true

/-- The memories of the state right after reset are canonical. Model's readings: log entry 100. -/
def Obligations.ResetMemoriesCanonical : Prop := State.reset.memWf = true

/-- Right after reset the block waits for nothing, holds no ledger, no record and no key, every host port is down, the device is BLANK in ACTIVE with no
queue enabled, and every register field reads its reset value (00, R13; 10, R389; 02, R96). Model's readings: log entry 99. -/
def Obligations.ResetState : Prop :=
  State.reset.pending = [] ∧ State.reset.led = Ledgers.initial ∧ State.reset.key = Keys.initial ∧
    (∀ (f : Fld) (i : Nat), State.reset.rd f i = f.reset i) ∧ State.reset.lifecycle = 0 ∧ State.reset.power = 0 ∧
    (∀ f q : Nat, State.reset.qActive f q = false) ∧ (∀ p : Fin 2, State.reset.rd Reg.HIF_PORT_STATUS.LINK_UP p.val = 0)

/-- Every command of the table answers a next state on every state: none faults and none is refused (the spec lets no command stop the device). -/
def Obligations.EveryCommandAnswers : Prop := ∀ (c : Instr) (s : State), ∃ t, exec c s = .next t

/-- Host links and configuration space. HOST_LINK_UP reports rate, width and FLIT mode (02, R44), port B only while setting 0x1001 enables it (02, R48);
HOST_PERST in SLEEP is recorded until READY (19, R624); VF_ENABLE_WRITE stores NumVFs capped at TotalVFs (02, R644); a PF's D-state, and an MSI-X
mask, entry, enable and function mask are stored (02, R45, R47, R77); UNEXPECTED_COMPLETION sets HIF_PORT_ERR.UNEXP_CPL (02, R96). -/
def Obligations.HostConfigurationCommands : Prop :=
  (∀ (p : Fin 2) (rate : BitVec 3) (width : BitVec 5) (flit : Bool) (s : State), (p.val = 0 ∨ s.setting 0x1001 ≠ 0) →
    Gives (.hostLinkUp p rate width flit) s fun t => t.rd Reg.HIF_PORT_STATUS.LINK_UP p.val = 1 ∧
      t.rd Reg.HIF_PORT_STATUS.RATE p.val = rate.toNat ∧ t.rd Reg.HIF_PORT_STATUS.WIDTH p.val = width.toNat ∧
      t.rd Reg.HIF_PORT_STATUS.FLIT p.val = if flit then 1 else 0) ∧
  (∀ (p : Fin 2) (s : State), s.power = 2 →
    Gives (.hostPerst p) s fun t => t.host.perstPending = s.host.perstPending ++ [p.val] ∧
      t.rd (if p.val = 0 then Reg.SBD_EVENT.PERST_A else Reg.SBD_EVENT.PERST_B) 0 = 1) ∧
  (∀ (p : Fin 2) (en : Bool) (num : BitVec 16) (s : State), s.bootMode = 0 →
    Gives (.vfEnableWrite p en num) s fun t => (t.pfCfg p.val).vfEnable = en ∧
      (t.pfCfg p.val).numVfs = min num.toNat (s.setting (if p.val = 0 then 0x1002 else 0x1003))) ∧
  (∀ (f : Fn) (hot : Bool) (s : State), isPf f.val = true → Gives (.dstateChange f hot) s fun t => (t.fnRt f.val).d3 = hot) ∧
  (∀ (f : Fn) (v : Fin 65) (m : Bool) (s : State), s.fnExists f.val = true →
    Gives (.msixMaskWrite f (.vectorMask v m)) s fun t => (t.vec f.val v.val).mask = m) ∧
  (∀ (f : Fn) (v : Fin 65) (a : BitVec 64) (d : BitVec 32) (s : State), s.fnExists f.val = true →
    Gives (.msixMaskWrite f (.vectorEntry v a d)) s fun t => (t.vec f.val v.val).addr = a.toNat ∧ (t.vec f.val v.val).data = d.toNat) ∧
  (∀ (f : Fn) (on : Bool) (s : State), s.fnExists f.val = true →
    Gives (.msixMaskWrite f (.enable on)) s (fun t => (t.fnRt f.val).msixEn = on) ∧
      Gives (.msixMaskWrite f (.functionMask on)) s (fun t => (t.fnRt f.val).fmask = on)) ∧
  (∀ (p : Fin 2) (s : State), Gives (.unexpectedCompletion p) s fun t => t.rd Reg.HIF_PORT_ERR.UNEXP_CPL p.val = 1)

/-- Resets of functions. A loss of link or a hot reset takes the port's link down and is recorded in HIF_PORT_ERR (02, R48); so does PERST# outside SLEEP.
An FLR or FUNCTION_CONTROL RESET of a function that is READY or UNCONFIGURED makes it RESETTING (02, R51, R81). FUNCTION_RESET_DONE (02, R83 steps 6
and 7, R86): once no record of the function is without tag and not void, the reset report is written with its cause, mode, start, counts and the
duration given, and the reset is over. A drain whose window passes goes on as a squash, a queue's drain is marked as used up, and a save's ends (02,
R61, R82, R90). -/
def Obligations.FunctionResets : Prop :=
  ((∀ (p : Fin 2) (s : State), Gives (.hostLinkLoss p) s fun t => t.rd Reg.HIF_PORT_STATUS.LINK_UP p.val = 0 ∧
      t.rd Reg.HIF_PORT_ERR.LINK_DOWN p.val = 1) ∧
    (∀ (p : Fin 2) (s : State), Gives (.hostHotReset p) s fun t => t.rd Reg.HIF_PORT_STATUS.LINK_UP p.val = 0 ∧
      t.rd Reg.HIF_PORT_ERR.HOT_RESET p.val = 1) ∧
    (∀ (p : Fin 2) (s : State), s.power ≠ 2 → Gives (.hostPerst p) s fun t => t.rd Reg.HIF_PORT_STATUS.LINK_UP p.val = 0) ∧
    (∀ (f : Fn) (s : State), s.fnExists f.val = true → s.fnState f.val ≤ 1 → Gives (.flr f) s fun t => t.fnState f.val = 2) ∧
    (∀ (f : Fn) (q : Q) (s : State) (x : FEntry), Fetched s f q 0x83 x → x.e.bytes 32 1 = 2 →
      s.fnRefused f.val (entryFn x.e) = none → onlyBytes x.e [(32, 4)] = true → x.e.bytes 33 1 ≤ 1 → s.fnState (entryFn x.e) ≤ 1 →
      Gives (.functionReset f q) s fun t => t.fnState (entryFn x.e) = 2)) ∧
  ((∀ (f : Fn) (us : BitVec 32) (s : State) (x : FnReset), (s.fnRt f.val).reset = some x → x.drain = false →
      ((s.recsOf f.val none).all fun k => match Tab.find k s.led.recs with | some r => r.tag.isSome || r.voidCause != 0 | none => true) = true →
      Gives (.functionResetDone f us) s fun t => ∃ r, Tab.find f.val t.host.report = some r ∧ r.cause = x.cause ∧ r.mode = x.mode ∧
        r.duration = us.toNat ∧ r.start = x.start ∧ r.aborted = x.aborted ∧ r.voided = x.voids.length ∧ r.silent = x.silent +
          (s.led.recs.filter fun y => y.2.fn = f.val && !y.2.completed && y.2.voidCause = 0).length + (s.fnRt f.val).discards) ∧
    (∀ (f : Fn) (s : State) (x : FnReset), (s.fnRt f.val).reset = some x → x.drain = true →
      Gives (.drainWindowExpire (.functionReset f)) s fun t => ∃ y, (t.fnRt f.val).reset = some y ∧ y.drain = false) ∧
    (∀ (f : Fn) (q : Q) (s : State), (s.qrt f.val q.val).draining = true →
      Gives (.drainWindowExpire (.queueDisable f q)) s fun t => (t.qrt f.val q.val).expired = true) ∧
    (∀ (f : Fn) (s : State) (v : SaveRun), (s.fnRt f.val).save = some v →
      (s.openFn f.val = true ∨ (s.fnRt v.reqFn).d3 = false) → Gives (.drainWindowExpire (.vfSave f)) s fun t => (t.fnRt f.val).save = none))

/-- Queues and doorbells. An enable of an idle queue of a READY function under its quota, with DEPTH not 1 and VEC at most 63, sets EN and ACTIVE, clears
FAULT and starts the queue empty (02, R55, R56); its refusals leave EN at 0 and the code in FAULT. A disable clears EN; at its end ACTIVE and FAULT
read 0 and the queue holds nothing (02, R61). A tail below the depth is taken, one that is not faults the queue with 1; a head in range is taken (02,
R57). A fetch asks for n entries (02, R62), its entries move the head (02, R58), and a list that is well formed becomes the entry's buffer (02, R68,
R69). Model's readings: log entry 47. -/
def Obligations.QueueCommands : Prop :=
  (∀ (f : Fn) (q : Q) (v : BitVec 32) (s : State), s.fnExists f.val = true → s.qActive f.val q.val = false → v.getLsbD 31 = true →
    s.fnState f.val = 1 → s.activeQueues f.val < s.rd Reg.HIF_FN_CFG.QUOTA f.val → v.toNat % 2 ^ 16 ≠ 1 → v.toNat / 2 ^ 16 % 128 ≤ 63 →
    (s.qrt f.val q.val).sqLow = 0 → (s.qrt f.val q.val).cqLow = 0 →
    Gives (.qctrlEnable f q v) s fun t => t.rd Reg.QCTRL.EN (qix f.val q.val) = 1 ∧ t.rd Reg.QCTRL.ACTIVE (qix f.val q.val) = 1 ∧
      t.rd Reg.QCTRL.FAULT (qix f.val q.val) = 0 ∧ t.rd Reg.QCTRL.DEPTH (qix f.val q.val) = v.toNat % 2 ^ 16 ∧
      t.rd Reg.QCTRL.VEC (qix f.val q.val) = v.toNat / 2 ^ 16 % 128 ∧ t.rd Reg.QSTATUS.SQHEAD (qix f.val q.val) = 0 ∧
      t.rd Reg.QSTATUS.CQTAIL (qix f.val q.val) = 0 ∧ (t.qrt f.val q.val).fetched = [] ∧ (t.qrt f.val q.val).phase = true) ∧
  (∀ (f : Fn) (q : Q) (v : BitVec 32) (s : State), s.fnExists f.val = true → s.qActive f.val q.val = false → v.getLsbD 31 = true →
    s.fnState f.val = 1 → s.activeQueues f.val < s.rd Reg.HIF_FN_CFG.QUOTA f.val → (v.toNat % 2 ^ 16 = 1 ∨ 63 < v.toNat / 2 ^ 16 % 128) →
    Gives (.qctrlEnable f q v) s fun t => t.rd Reg.QCTRL.EN (qix f.val q.val) = 0 ∧ t.rd Reg.QCTRL.FAULT (qix f.val q.val) = 5) ∧
  (∀ (f : Fn) (q : Q) (s : State), s.fnExists f.val = true → s.qActive f.val q.val = true → s.isSet Reg.QCTRL.EN (qix f.val q.val) = true →
    Gives (.qctrlDisable f q) s fun t => t.rd Reg.QCTRL.EN (qix f.val q.val) = 0) ∧
  (∀ (f : Fn) (q : Q) (s : State), (s.qrt f.val q.val).draining = true →
    ((s.qrt f.val q.val).expired = true ∨ s.openCmds f.val q.val = false) →
    Gives (.queueDisableDone f q) s fun t => t.rd Reg.QCTRL.ACTIVE (qix f.val q.val) = 0 ∧ t.rd Reg.QCTRL.FAULT (qix f.val q.val) = 0 ∧
      t.rd Reg.FN_EVENT.QIDLE f.val = 1 ∧ t.qrt f.val q.val = QRt.empty) ∧
  (∀ (f : Fn) (q : Q) (v : BitVec 32) (s : State), s.fnExists f.val = true → s.qActive f.val q.val = true →
    s.isSet Reg.QCTRL.EN (qix f.val q.val) = true →
    (v.toNat % 65536 < s.qDepth f.val q.val → Gives (.fnSqtWrite f q v) s fun t => t.regs = s.regs ∧
      t.qrt f.val q.val = { s.qrt f.val q.val with sqTail := v.toNat % 65536 }) ∧
    (s.qDepth f.val q.val ≤ v.toNat % 65536 → s.rd Reg.QCTRL.FAULT (qix f.val q.val) = 0 → Gives (.fnSqtWrite f q v) s fun t =>
      t.rd Reg.QCTRL.FAULT (qix f.val q.val) = 1 ∧ t.rd Reg.FN_EVENT.QFAULT f.val = 1 ∧
        (t.qrt f.val q.val).sqTail = (s.qrt f.val q.val).sqTail)) ∧
  (∀ (f : Fn) (q : Q) (v : BitVec 32) (s : State), s.fnExists f.val = true → s.qActive f.val q.val = true →
    v.toNat % 65536 < s.qDepth f.val q.val →
    (v.toNat % 65536 + s.qDepth f.val q.val - (s.qrt f.val q.val).cqHead) % s.qDepth f.val q.val ≤ s.cqUsed f.val q.val →
    Gives (.fnCqhWrite f q v) s fun t => (t.qrt f.val q.val).cqHead = v.toNat % 65536) ∧
  (∀ (f : Fn) (q : Q) (n : Fin 9) (s : State) (at_ d : Nat), d = s.qDepth f.val q.val →
    at_ = (s.rd Reg.QSTATUS.SQHEAD (qix f.val q.val) + (s.qrt f.val q.val).inFetch.sum) % d → n.val ≠ 0 → n.val ≤ s.setting 0x1004 →
    n.val ≤ ((s.qrt f.val q.val).sqTail + d - at_) % d → s.qActive f.val q.val = true → s.isSet Reg.QCTRL.EN (qix f.val q.val) = true →
    s.rd Reg.QCTRL.FAULT (qix f.val q.val) = 0 → s.fnExists f.val = true → s.fnState f.val = 1 → (s.fnRt f.val).d3 = false →
    (s.fnRt f.val).save = none → s.served f.val q.val = true → s.aon.move = none →
    s.rd Reg.HIF_FN_HQD.OCC f.val + n.val ≤ s.rd Reg.HIF_FN_HQD.POOL f.val →
    Gives (.sqFetch f q n) s fun t => (t.qrt f.val q.val).inFetch = (s.qrt f.val q.val).inFetch ++ [n.val] ∧
      (t.qrt f.val q.val).credits = (s.qrt f.val q.val).credits + n.val ∧
      Out.hostRead f.val (s.rd Reg.QSQ_BASE.ADDR (qix f.val q.val) * 64 + at_ * 64) (min n.val (d - at_) * 64) ∈ t.out ∧
      (d < at_ + n.val → Out.hostRead f.val (s.rd Reg.QSQ_BASE.ADDR (qix f.val q.val) * 64) ((at_ + n.val - d) * 64) ∈ t.out)) ∧
  (∀ (f : Fn) (q : Q) (es : List Entry) (rest : List Nat) (s : State), (s.qrt f.val q.val).inFetch = es.length :: rest →
    (s.fnRt f.val).d3 = false →
    Gives (.sqFetchComplete f q (.entries es)) s fun t => t.rd Reg.QSTATUS.SQHEAD (qix f.val q.val) =
      (s.rd Reg.QSTATUS.SQHEAD (qix f.val q.val) + es.length) % s.qDepth f.val q.val % 2 ^ 16) ∧
  (∀ (f : Fn) (q : Q) (es : List SgElem) (s : State) (y : FEntry), (s.qrt f.val q.val).fetched.find? (fun z => !z.sgOk) = some y →
    es.length = y.e.sgcount.toNat → sgWellFormed es y.e.length.toNat = true →
    Gives (.scatterListFetch f q (.elems es)) s fun t => (t.qrt f.val q.val).fetched =
      markSg (s.qrt f.val q.val).fetched fun z => { z with sg := es.map fun e => (e.addr.toNat, e.len.toNat) })

/-- Payload, timeouts, completions and coalescing. A segment of the right length is placed behind what a record has (01, R18); a payload read that fails
makes the record void with BUFFER_FAULT (02, R70); a ring fetch that times out faults its queue with 3 (02, R60, R643); the first record of a ledger
that meets its completion mode is completed (01, R22); the coalescing timer sends what it counted (02, R75). -/
def Obligations.RecordTransferCommands : Prop :=
  (∀ (l : BitVec 16) (n : BitVec 64) (data : List (BitVec 8)) (s : State) (r : Rec), s.rec? l.toNat n.toNat = some r → r.voidCause = 0 →
    r.tag = none → r.data.length < r.length → data.length = min 8192 (r.length - r.data.length) → r.data.length + data.length ≤ r.asked →
    Gives (.payloadSegmentArrive l n data) s fun t => ∃ u, t.rec? l.toNat n.toNat = some u ∧
      u = { r with data := r.data ++ data, asked := u.asked }) ∧
  (∀ (l : BitVec 16) (n : BitVec 64) (how : LinkEnd) (s : State) (r : Rec), how ≠ .ok → s.rec? l.toNat n.toNat = some r →
    r.data.length < r.length → r.voidCause = 0 → r.tag = none → r.chained = false →
    Gives (.payloadReadFail l n how) s fun t => ∃ u, t.rec? l.toNat n.toNat = some u ∧ u.voidCause = 2 ∧ u.status = Status.BUFFER_FAULT ∧
      u.data = [] ∧ u.owed = r.owed) ∧
  (∀ (f : Fn) (q : Q) (s : State), (s.qrt f.val q.val).inFetch ≠ [] → s.rd Reg.QCTRL.FAULT (qix f.val q.val) = 0 →
    Gives (.hostReadTimeout (.ring f q)) s fun t => t.rd Reg.QCTRL.FAULT (qix f.val q.val) = 3 ∧ (t.qrt f.val q.val).inFetch = []) ∧
  (∀ (l : BitVec 16) (how : LinkEnd) (s : State) (r : Rec), s.rec? l.toNat (s.ledger l.toNat).uncompleted = some r → r.completed = false →
    s.recReady l.toNat (s.ledger l.toNat).uncompleted r = true →
    Gives (.postCompletion l how) s fun t => (t.ledger l.toNat).uncompleted = (s.ledger l.toNat).uncompleted + 1) ∧
  (∀ (f : Fn) (q : Q) (s : State), (s.qrt f.val q.val).coal ≠ 0 → s.qActive f.val q.val = true →
    Gives (.cqCoalTimer f q) s fun t => (t.qrt f.val q.val).coal = 0 ∧ t.regs = s.regs)

/-- Function events and mailboxes (02, R74, R78–R80): enables are stored; a POST with the message not yet taken up sets the sender's OUT_FULL; an ACK
clears it; a word of a message that is not posted is stored, one of a posted message sets OVERRUN and is ignored. -/
def Obligations.MailboxCommands : Prop :=
  (∀ (f : Fn) (v : BitVec 32) (s : State), s.fnExists f.val = true → Gives (.fnEventEnWrite f v) s fun t => t.rd Reg.FN_EVENT_EN.EN f.val = v.toNat % 1024) ∧
  (∀ (f : Fn) (s : State), s.fnExists f.val = true → s.isSet Reg.MBX_STATUS.OUT_FULL f.val = false →
    Gives (.mbxPost f false) s fun t => t.rd Reg.MBX_STATUS.OUT_FULL f.val = 1) ∧
  (∀ (f : Fn) (s : State), s.fnExists f.val = true → s.isSet Reg.MBX_STATUS.IN_FULL f.val = false →
    Gives (.mbxPost f true) s fun t => t.rd Reg.MBX_STATUS.IN_FULL f.val = 1 ∧ t.rd Reg.FN_EVENT.MBX_IN f.val = 1) ∧
  (∀ (f : Fn) (s : State), s.fnExists f.val = true → s.isSet Reg.MBX_STATUS.OUT_FULL f.val = true →
    Gives (.mbxAck f true) s fun t => t.rd Reg.MBX_STATUS.OUT_FULL f.val = 0 ∧ t.rd Reg.FN_EVENT.MBX_ACK f.val = 1) ∧
  (∀ (f : Fn) (s : State), s.fnExists f.val = true → s.isSet Reg.MBX_STATUS.IN_FULL f.val = true →
    Gives (.mbxAck f false) s fun t => t.rd Reg.MBX_STATUS.IN_FULL f.val = 0) ∧
  (∀ (f : Fn) (n : Fin 16) (v : BitVec 32) (s : State), s.fnExists f.val = true →
    (s.isSet Reg.MBX_STATUS.OUT_FULL f.val = false →
      Gives (.mbxOutWrite f false n v) s fun t => t.rd Reg.MBX_OUT.DATA (f.val * 16 + n.val) = v.toNat) ∧
    (s.isSet Reg.MBX_STATUS.OUT_FULL f.val = true → Gives (.mbxOutWrite f false n v) s fun t =>
      t.rd Reg.MBX_STATUS.OVERRUN f.val = 1 ∧ ∀ m, t.rd Reg.MBX_OUT.DATA m = s.rd Reg.MBX_OUT.DATA m))

/-- Dirty logs, the moving of virtual functions and FUNCTION_CONTROL (02, R87–R94): START and STOP set and clear the slot's ACTIVE; a SYNC whose pages are
all in the ring answers SUCCESS; a PF's ring head is stored; a save with no record open leaves the VF SAVED, and a restore of its latest valid blob
onto it makes it READY; CONFIGURE stores tenant, quota and HQD pool; DISCARD leaves the VF UNCONFIGURED; QUERY answers with the two words. Model's
readings: log entries 45, 96. -/
def Obligations.FunctionControlCommands : Prop :=
  (∀ (f : Fn) (q : Q) (s : State) (x : FEntry), Fetched s f q 0x8A x → x.e.bytes 32 1 = 1 → s.fnRefused f.val (entryFn x.e) = none →
    onlyBytes x.e [(32, 5)] = true → isPf (entryFn x.e) = false → x.e.bytes 33 1 ≤ 7 → 9 ≤ x.e.bytes 36 1 → x.e.bytes 36 1 ≤ 20 →
    x.e.dptr.toNat % 4096 = 0 → Tab.find (portOf f.val * 8 + x.e.bytes 33 1) s.host.dlog = none →
    Gives (.dirtyLogStart f q) s fun t => t.rd Reg.FN_DLOG_STATUS.ACTIVE (f.val * 8 + x.e.bytes 33 1) = 1) ∧
  (∀ (f : Fn) (q : Q) (s : State) (x : FEntry), Fetched s f q 0x8A x → CqOpen s f q → x.e.bytes 32 1 = 2 →
    s.fnRefused f.val (entryFn x.e) = none → onlyBytes x.e [(32, 4)] = true → x.e.bytes 33 1 ≤ 7 →
    s.slotIdle (portOf f.val * 8 + x.e.bytes 33 1) (entryFn x.e) = false →
    Gives (.dirtyLogSync f q) s fun t => Answered s t f q x Status.SUCCESS 0 0) ∧
  (∀ (f : Fn) (q : Q) (s : State) (x : FEntry), Fetched s f q 0x8A x → x.e.bytes 32 1 = 3 → s.fnRefused f.val (entryFn x.e) = none →
    onlyBytes x.e [(32, 4)] = true → x.e.bytes 33 1 ≤ 7 → s.slotIdle (portOf f.val * 8 + x.e.bytes 33 1) (entryFn x.e) = false →
    Gives (.dirtyLogStop f q) s fun t => t.rd Reg.FN_DLOG_STATUS.ACTIVE (f.val * 8 + x.e.bytes 33 1) = 0) ∧
  (∀ (f : Fn) (slot : Fin 8) (v : BitVec 32) (s : State), isPf f.val = true →
    Gives (.fnDlogHeadWrite f slot v) s fun t =>
      t.rd Reg.FN_DLOG_HEAD.HEAD (f.val * 8 + slot.val) = v.toNat % 2 ^ Reg.FN_DLOG_HEAD.HEAD.width) ∧
  (∀ (f : Fn) (q : Q) (s : State) (x : FEntry), Fetched s f q 0x8B x → s.fnRefused f.val (entryFn x.e) = none →
    onlyBytes x.e [(34, 2)] = true → isPf (entryFn x.e) = false → x.e.length.toNat = 16384 → x.e.sgcount.toNat = 1 →
    s.fnState (entryFn x.e) = 1 → (s.fnRt (entryFn x.e)).save = none → s.openFn (entryFn x.e) = false →
    Gives (.vfStateSave f q) s fun t => t.fnState (entryFn x.e) = 3) ∧
  (∀ (f : Fn) (q : Q) (g : Fn) (c : BitVec 64) (s : State) (x : FEntry) (b : Blob), Fetched s f q 0x8C x → entryFn x.e = g.val →
    s.fnRefused f.val g.val = none → onlyBytes x.e [(34, 2)] = true → isPf g.val = false → x.e.length.toNat = 16384 →
    x.e.sgcount.toNat = 1 → s.fnState g.val = 3 → Tab.find g.val s.host.blobs = some b → b.counter = c.toNat →
    (s.fnRt g.val).blobValid = true → b.queues.length ≤ 64 →
    s.quotaSum - s.rd Reg.HIF_FN_CFG.QUOTA g.val + b.quota ≤ 4096 →
    Gives (.vfStateRestore f q g c true) s fun t => t.fnState g.val = 1) ∧
  (∀ (f : Fn) (q : Q) (s : State) (x : FEntry), Fetched s f q 0x83 x → x.e.bytes 32 1 = 1 → s.fnRefused f.val (entryFn x.e) = none →
    (s.fnState (entryFn x.e) = 0 ∨ s.fnState (entryFn x.e) = 1) → onlyBytes x.e [(32, 1), (34, 12)] = true →
    (s.tenant (x.e.bytes 36 1)).st ≠ 0 → x.e.bytes 37 1 ≤ 64 → s.activeQueues (entryFn x.e) ≤ x.e.bytes 37 1 →
    x.e.bytes 39 1 / 32 % 4 = 0 → x.e.bytes 39 1 % 32 ≤ 20 → x.e.bytes 40 4 < 2 ^ 20 → x.e.bytes 40 4 % 2 ^ (x.e.bytes 39 1 % 32) = 0 →
    4 ≤ x.e.bytes 44 2 → x.e.bytes 44 2 ≤ 256 → s.activeQueues (entryFn x.e) = 0 →
    s.quotaSum - s.rd Reg.HIF_FN_CFG.QUOTA (entryFn x.e) + x.e.bytes 37 1 ≤ 4096 →
    s.hqdSum - s.rd Reg.HIF_FN_HQD.POOL (entryFn x.e) + x.e.bytes 44 2 ≤ 8192 →
    Gives (.functionConfigure f q) s fun t => t.fnState (entryFn x.e) = 1 ∧ t.rd Reg.HIF_FN_CFG.TENANT (entryFn x.e) = x.e.bytes 36 1 ∧
      t.rd Reg.HIF_FN_CFG.QUOTA (entryFn x.e) = x.e.bytes 37 1 ∧ t.rd Reg.HIF_FN_HQD.POOL (entryFn x.e) = x.e.bytes 44 2) ∧
  (∀ (f : Fn) (q : Q) (s : State) (x : FEntry), Fetched s f q 0x83 x → x.e.bytes 32 1 = 3 → s.fnRefused f.val (entryFn x.e) = none →
    onlyBytes x.e [(32, 1), (34, 2)] = true → s.fnState (entryFn x.e) = 3 →
    Gives (.functionDiscard f q) s fun t => t.fnState (entryFn x.e) = 0) ∧
  (∀ (f : Fn) (q : Q) (s : State) (x : FEntry), Fetched s f q 0x83 x → CqOpen s f q → x.e.bytes 32 1 = 4 →
    s.fnRefused f.val (entryFn x.e) = none → onlyBytes x.e [(32, 1), (34, 2)] = true →
    Gives (.functionQuery f q) s fun t => Answered s t f q x Status.SUCCESS
      (s.fnCfgWord (entryFn x.e) + s.fnPasidWord (entryFn x.e) * 2 ^ 32) 0)

/-- Commands that number a record (01, R17, R30; 03, R106, R114, R122–R124): where every credit is there and a place is found, APPEND and CLOSE_LEDGER
number their record with the ledger's next sequence number, hold it in flight with no tag and not void, and take the entry off; CLOSE_LEDGER makes the
ledger CLOSING. OPEN_LEDGER CREATE binds the lowest free ledger ID to the queue for the function's tenant; REBIND of an UNBOUND ledger binds it to the
queue. A command that waits for credit goes on by DISPATCH_RECORD as it would by its own row. Model's readings: log entry 98. -/
def Obligations.NumberingCommands : Prop :=
  (∀ (f : Fn) (q : Q) (s u : State) (x : FEntry) (n : Nat), Fetched s f q 1 x → s.appendRefused f.val q.val x = none →
    s.dispatch (s.appendRecord f.val q.val x) = .done n u →
    Gives (.append f q) s fun t => (t.ledger x.e.ledger.toNat).next = n + 1 ∧ ∃ r, t.rec? x.e.ledger.toNat n = some r ∧
      r.fn = f.val ∧ r.q = q.val ∧ r.cid = x.e.cid.toNat ∧ r.length = x.e.length.toNat ∧ r.owed = true ∧ r.tag = none ∧ r.voidCause = 0) ∧
  (∀ (f : Fn) (q : Q) (s u : State) (x : FEntry) (n : Nat), Fetched s f q 5 x → s.ioChecks f.val q.val x true true true = none →
    onlyBytes x.e [] = true → s.dispatch (s.controlRecord f.val q.val x .close x.e.ledger.toNat 0 true) = .done n u →
    Gives (.closeLedger f q) s fun t => (t.ledger x.e.ledger.toNat).st = .closing ∧ (t.ledger x.e.ledger.toNat).closeSeq = some n ∧
      (t.ledger x.e.ledger.toNat).next = n + 1) ∧
  (∀ (f : Fn) (q : Q) (name : BitVec 128) (s u : State) (x : FEntry) (l n : Nat), Fetched s f q 4 x → x.e.bytes 32 1 = 1 →
    s.ioChecks f.val q.val x false true false = none → openFieldsOk x.e 1 = true → x.e.ledger.toNat = 0 → x.e.length.toNat = 0 →
    s.freeLedger = some l → s.ledgersHeld (s.fnTenant f.val) < (s.tenant (s.fnTenant f.val)).ledQuota →
    (let c := initialChain l s.ticks (s.rd Reg.DEV_ARCHIVE_EPOCH.EPOCH 0)
     let v := (s.setLedger l { Ledger.blank with tenant := s.fnTenant f.val, openTicks := s.ticks, ckTicks := s.ticks, chain := c,
                                                 firstChain := c }).bindLedger l f.val q.val x.e
     v.dispatch (v.controlRecord f.val q.val x .openRec l 0 (v.ledger l).durableMode) = .done n u) →
    Gives (.openLedgerCreate f q name) s fun t => (t.ledger l).next = n + 1 ∧ ∃ r, t.rec? l n = some r ∧ r.ty = .openRec ∧
      r.tenant = s.fnTenant f.val) ∧
  (∀ (f : Fn) (q : Q) (s u u1 : State) (x : FEntry) (n n1 : Nat), Fetched s f q 4 x → x.e.bytes 32 1 = 2 →
    s.ioChecks f.val q.val x true true false = none → openFieldsOk x.e 3 = true → x.e.length.toNat = 0 →
    (s.ledger x.e.ledger.toNat).st = .unbound →
    (let l := x.e.ledger.toNat
     let z := s.ledger l
     let r := s.controlRecord f.val q.val x .bind l (bindLabel f.val q.val z.prevFn z.prevQ z.unbindCause) false
     s.dispatch r = .done n1 u1 ∧ ((s.bindLedger l f.val q.val x.e).writeOrphans l).dispatch r = .done n u) →
    Gives (.openLedgerRebind f q false) s fun t => (t.ledger x.e.ledger.toNat).next = n + 1 ∧
      ∃ r, t.rec? x.e.ledger.toNat n = some r ∧ r.ty = .bind ∧ r.fn = f.val ∧ r.q = q.val) ∧
  (∀ (f : Fn) (q : Q) (name : BitVec 128) (s : State) (x : FEntry), Fetched s f q 1 x →
    ∃ t, exec (.dispatchRecord f q name) s = .next t ∧ exec (.append f q) s = .next t) ∧
  (∀ (f : Fn) (q : Q) (name : BitVec 128) (s : State) (x : FEntry), Fetched s f q 5 x →
    ∃ t, exec (.dispatchRecord f q name) s = .next t ∧ exec (.closeLedger f q) s = .next t)

/-- Commands on ledgers that number nothing (03, R118–R121, R125–R127). CHECKPOINT_NOW of a ledger whose last record is chained and has no checkpoint
called for calls for one with cause 4; FLUSH of a ledger whose records are all durable answers with its last sequence number; LEDGER_STATUS answers
with the state code; READ of a record that is not yet chained answers RECORD_ABSENT, and one that finds span and DLG slot starts an item for its
locator; VERIFY_RANGE starts a run. CONTROL_RECORD_RESUME refills the control reserve and numbers the waiting TIME_GAP records. -/
def Obligations.LedgerCommands : Prop :=
  (∀ (f : Fn) (q : Q) (s : State) (x : FEntry), Fetched s f q 6 x → s.ioChecks f.val q.val x true true true = none →
    onlyBytes x.e [(32, 1)] = true → x.e.bytes 32 1 ≤ 1 → (s.ledger x.e.ledger.toNat).unchained = (s.ledger x.e.ledger.toNat).next →
    s.ckptFormed x.e.ledger.toNat ((s.ledger x.e.ledger.toNat).next - 1) = false →
    (s.scv.calls.any fun c => c.ledger = x.e.ledger.toNat && c.seq = (s.ledger x.e.ledger.toNat).next - 1) = false →
    Gives (.checkpointNow f q) s fun t => t.scv.calls = s.scv.calls ++
      [⟨x.e.ledger.toNat, (s.ledger x.e.ledger.toNat).next - 1, 4, (s.ledger x.e.ledger.toNat).chain⟩]) ∧
  (∀ (f : Fn) (q : Q) (s : State) (x : FEntry), Fetched s f q 9 x → CqOpen s f q → s.ioChecks f.val q.val x true false true = none →
    onlyBytes x.e [(32, 1)] = true → x.e.bytes 32 1 = 0 → s.led.waits = [] →
    s.durableTo x.e.ledger.toNat ((s.ledger x.e.ledger.toNat).next - 1) = true →
    Gives (.flush f q) s fun t => Answered s t f q x Status.SUCCESS ((s.ledger x.e.ledger.toNat).next - 1) 0) ∧
  (∀ (f : Fn) (q : Q) (s : State) (x : FEntry), Fetched s f q 0x0A x → CqOpen s f q → s.ioChecks f.val q.val x true false false = none →
    128 ≤ x.e.length.toNat → onlyBytes x.e [] = true →
    Gives (.ledgerStatus f q) s fun t => Answered s t f q x Status.SUCCESS (s.ledger x.e.ledger.toNat).st.code 0) ∧
  (∀ (f : Fn) (q : Q) (s : State) (x : FEntry), Fetched s f q 2 x → CqOpen s f q → s.ioChecks f.val q.val x true false false = none →
    s.archiveRo = false → onlyBytes x.e [(32, 16), (56, 8)] = true → x.e.bytes 56 8 % 8 = 0 →
    s.keyAvailable (s.ledger x.e.ledger.toNat).tenant = true → (s.ledger x.e.ledger.toNat).unchained ≤ x.e.bytes 32 8 →
    Gives (.read f q) s fun t => Answered s t f q x Status.RECORD_ABSENT (s.ledger x.e.ledger.toNat).unchained 0) ∧
  (∀ (f : Fn) (q : Q) (s : State) (x : FEntry) (b g : Nat), Fetched s f q 2 x → s.ioChecks f.val q.val x true false false = none →
    s.archiveRo = false → onlyBytes x.e [(32, 16), (56, 8)] = true → x.e.bytes 56 8 % 8 = 0 →
    s.keyAvailable (s.ledger x.e.ledger.toNat).tenant = true → x.e.bytes 32 8 < (s.ledger x.e.ledger.toNat).unchained →
    s.locatorFault (s.ledger x.e.ledger.toNat).tenant (x.e.bytes 40 8) = none →
    s.borrow .read (spanKib (storedSize x.e.length.toNat)) = some b → s.readGroup .read = some g →
    Gives (.read f q) s fun t => ∃ i, t.item? s.lane.nextItem = some i ∧ i.seq = x.e.bytes 32 8 ∧ i.extent = locExtent (x.e.bytes 40 8) ∧
      i.offset = locOffset (x.e.bytes 40 8) ∧ i.phase = .media ∧ i.span = spanKib (storedSize x.e.length.toNat)) ∧
  (∀ (f : Fn) (q : Q) (locs : List (BitVec 64)) (s : State) (x : FEntry) (c g : Nat), Fetched s f q 3 x →
    s.ioChecks f.val q.val x true false false = none → onlyBytes x.e [(32, 12)] = true → 1 ≤ x.e.bytes 40 4 → x.e.bytes 40 4 ≤ 4096 →
    x.e.length.toNat = 8 * x.e.bytes 40 4 → locs.length = x.e.bytes 40 4 → s.keyAvailable (s.ledger x.e.ledger.toNat).tenant = true →
    s.verifyStart x.e.ledger.toNat (x.e.bytes 32 8) = some c → s.locatorFault (s.ledger x.e.ledger.toNat).tenant (locs.headD 0).toNat = none →
    s.readGroup .read = some g →
    Gives (.verifyRange f q locs) s fun t => ∃ v, Tab.find s.led.nextVerify t.led.verify = some v ∧ v.ledger = x.e.ledger.toNat ∧
      v.seq = x.e.bytes 32 8 ∧ v.chain = c ∧ v.compared = 0 ∧ v.locs = locs.map BitVec.toNat) ∧
  (∀ s : State, s.led.gaps = [] → 16 ≤ s.key.reserve.length → exec .controlRecordResume s = .next s) ∧
  (∀ (s : State) (g : Nat × Nat × Nat), s.led.gaps = [g] → 16 ≤ s.key.reserve.length → (s.ledger g.1).st = .closed →
    Gives .controlRecordResume s fun t => t.led.gaps = [])

/-- Settings and the settings epoch (03, R130, R131, R134, R136, R137, R647). SET_SETTING of a known setting that is not locked, in range, within the sum
rules and IMMEDIATE makes the value live; with PERSIST it is the journal's last entry; GET_SETTING answers with the value selected and the flags;
EPOCH_QUERY with the number of laggards; a change that has waited 100 ms ends and the next ones still wait; units that lag for 100 ms set
UNIT_STALLED; with no laggard left EPOCH_MIXED and UNIT_STALLED clear. -/
def Obligations.SettingCommands : Prop :=
  (∀ (f : Fn) (q : Q) (s : State) (x : FEntry) (d : SettingDef), Fetched s f q 0x80 x → s.set.excl = false →
    onlyBytes x.e [(32, 3), (40, 8)] = true → x.e.bytes 34 1 = 0 → (s.lifecycle = 1 ∨ s.lifecycle = 2) →
    settingDef? (x.e.bytes 32 2) = some d → d.sid = x.e.bytes 32 2 → d.cls = .immediate → s.set.locks.contains d.sid = false →
    s.settingInRange d (x.e.bytes 40 8) = true → s.sumsHold d.sid (x.e.bytes 40 8) = true → s.needsQuorum d.sid (x.e.bytes 40 8) = false →
    Gives (.setSetting f q) s fun t => t.setting d.sid = x.e.bytes 40 8 ∧ t.set.journal = s.set.journal) ∧
  (∀ (f : Fn) (q : Q) (s : State) (x : FEntry) (d : SettingDef), Fetched s f q 0x80 x → s.set.excl = false →
    onlyBytes x.e [(32, 3), (40, 8)] = true → x.e.bytes 34 1 = 1 → (s.lifecycle = 1 ∨ s.lifecycle = 2) →
    settingDef? (x.e.bytes 32 2) = some d → d.sid = x.e.bytes 32 2 → d.cls = .atRestart → s.set.locks.contains d.sid = false →
    s.settingInRange d (x.e.bytes 40 8) = true → s.sumsHold d.sid (x.e.bytes 40 8) = true → s.set.journal.length < 256 →
    s.needsQuorum d.sid (x.e.bytes 40 8) = false →
    Gives (.setSetting f q) s fun t => t.set.journal.getLast? = some (d.sid, x.e.bytes 40 8) ∧ t.set.live = s.set.live) ∧
  (∀ (f : Fn) (q : Q) (s : State) (x : FEntry) (d : SettingDef) (v : Nat), Fetched s f q 0x81 x → CqOpen s f q →
    settingDef? (x.e.bytes 32 2) = some d → s.settingValue d (x.e.bytes 34 1) = some v → onlyBytes x.e [(32, 3)] = true →
    Gives (.getSetting f q) s fun t => Answered s t f q x Status.SUCCESS v (s.settingFlags d)) ∧
  (∀ (f : Fn) (q : Q) (s : State) (x : FEntry), Fetched s f q 0x86 x → CqOpen s f q → 16 ≤ x.e.length.toNat → onlyBytes x.e [] = true →
    Gives (.epochQuery f q) s fun t => Answered s t f q x Status.SUCCESS s.set.laggards.length
      (min s.epochBytes.length (16 + (x.e.length.toNat - 16) / 8 * 8))) ∧
  (∀ (s : State) (w : SetWait) (r : List SetWait), s.set.waiting = w :: r →
    Gives .settingChangeWaitTimeout s fun t => t.set.waiting = r ∧ t.set.live = s.set.live) ∧
  (∀ s : State, s.set.laggards ≠ [] → s.isSet Reg.DEV_STATUS.EPOCH_MIXED 0 = true →
    Gives .unitStallTimer s fun t => t.rd Reg.DEV_STATUS.UNIT_STALLED 0 = 1) ∧
  (∀ s : State, s.set.laggards = [] → s.isSet Reg.DEV_STATUS.EPOCH_MIXED 0 = true → s.set.waiting = [] →
    Gives .epochConverged s fun t => t.rd Reg.DEV_STATUS.EPOCH_MIXED 0 = 0 ∧ t.rd Reg.DEV_STATUS.UNIT_STALLED 0 = 0 ∧ t.set = s.set)

/-- GET_LOG (03, R129, R130): for a known log instance, an OFFSET within it (a multiple of 4) and a LENGTH of at least 4 that is a multiple of 4, it
answers with the log's size and the number of bytes written; for a log or an instance that no chapter gives, with FIELD_INVALID. Model's readings: log
entry 30. -/
def Obligations.GetLogAnswers : Prop :=
  (∀ (f : Fn) (q : Q) (s : State) (x : FEntry) (b : List Nat), Fetched s f q 0x84 x → CqOpen s f q →
    onlyBytes x.e [(32, 1), (34, 2), (36, 4)] = true → 4 ≤ x.e.length.toNat → x.e.length.toNat % 4 = 0 → x.e.bytes 36 4 % 4 = 0 →
    x.e.bytes 32 1 ≠ 0x40 → (s.popFront f.val q.val).logBytes f.val (x.e.bytes 32 1) (x.e.bytes 34 2) = some (b, s.popFront f.val q.val) →
    x.e.bytes 36 4 < b.length →
    Gives (.getLog f q) s fun t => Answered s t f q x Status.SUCCESS b.length (min x.e.length.toNat (b.length - x.e.bytes 36 4))) ∧
  (∀ (f : Fn) (q : Q) (s : State) (x : FEntry), Fetched s f q 0x84 x → CqOpen s f q →
    s.logBytes f.val (x.e.bytes 32 1) (x.e.bytes 34 2) = none →
    Gives (.getLog f q) s fun t => Answered s t f q x Status.FIELD_INVALID 0 0)

/-- A record on a lane (04, R149–R152, R161; 05, R184, R189–R191; 01, R37): the ready lane takes the void seal or the descriptor in front and asks for its
key; the derived key goes to every lane that waits for it; at the record's end tag and CRC-32C are held and the payload leaves, or, where the host's
CRC-32C differs, the record becomes void with cause 1. A parity error makes the lane's record void with cause 3 and resets the lane (R163). Model's
readings: log entries 4, 7. -/
def Obligations.LaneRecordCommands : Prop :=
  (∀ (n : Lane) (s : State) (k : Nat) (r : Rec), s.laneReady n.val = true → s.lane.voids = [] →
    (s.lane.wq.find? fun j => match Tab.find j s.led.recs with | some z => z.grp = s.laneGroup n.val + 1 | none => false) = some k →
    Tab.find k s.led.recs = some r →
    Gives (.laneAcceptWrite n) s fun t => t.laneState n.val = 2 ∧ (t.laneRt n.val).record = some k ∧ t.lane.wq = s.lane.wq.filter (· ≠ k) ∧
      (if s.keyCached (r.tenant, r.extent, r.keygen) then (t.laneRt n.val).key = some (r.tenant, r.extent, r.keygen)
       else (t.laneRt n.val).wantKey = some (r.tenant, r.extent, r.keygen))) ∧
  (∀ (n : Lane) (s : State) (k : Nat × Nat × Nat), (s.laneRt n.val).wantKey = some k → s.keyAvailable k.1 = true →
    Gives (.keyDerive n 0) s fun t => (t.laneRt n.val).key = some k ∧ (t.laneRt n.val).wantKey = none ∧ k ∈ t.key.dkc ∧ k.1 ∈ t.key.ucache) ∧
  (∀ (n : Lane) (c : BitVec 16) (s : State) (k : Nat) (key : Nat × Nat × Nat) (r : Rec), (s.laneRt n.val).record = some k →
    (s.laneRt n.val).key = some key → Tab.find k s.led.recs = some r → r.voidCause = 0 → r.data.length = r.length →
    (r.crcv = false ∨ crc32c r.data = r.hcrc) →
    Gives (.laneRecordEnd n false c) s fun t => ∃ u, Tab.find k t.led.recs = some u ∧ u.crc = crc32c r.data ∧ u.data = [] ∧ u.voidCause = 0 ∧
      u.tag = some (recordTag (s.ek key) (r.header (keyLedger k) (keySeq k)) r.data)) ∧
  (∀ (n : Lane) (c : BitVec 16) (s : State) (k : Nat) (key : Nat × Nat × Nat) (r : Rec), (s.laneRt n.val).record = some k →
    (s.laneRt n.val).key = some key → Tab.find k s.led.recs = some r → r.voidCause = 0 → r.data.length = r.length → r.tag = none →
    r.chained = false → r.crcv = true → crc32c r.data ≠ r.hcrc →
    Gives (.laneRecordEnd n false c) s fun t => ∃ u, Tab.find k t.led.recs = some u ∧ u.voidCause = 1 ∧ u.status = Status.HOST_CRC_MISMATCH ∧
      u.tag = none ∧ u.data = [] ∧ u.slotExt = r.extent ∧ u.slotOff = r.offset) ∧
  (∀ (n : Lane) (s : State) (k : Nat) (r : Rec), 2 ≤ s.laneState n.val → s.laneState n.val ≤ 4 → (s.laneRt n.val).record = some k →
    Tab.find k s.led.recs = some r → r.voidCause = 0 → r.tag = none → r.chained = false →
    Gives (.laneParityError n) s fun t => t.laneState n.val = 6 ∧ (t.laneRt n.val).katCause = 3 ∧
      ∃ u, Tab.find k t.led.recs = some u ∧ u.voidCause = 3 ∧ u.status = Status.ABORTED_BY_RESET)

/-- An item on a lane (04, R154–R159, R161, R164, R165; 03, R118): the lane takes the first descriptor of its class for its group; a verified READ takes
an LHD credit and leaves; a tag that differs ends it with SEAL_MISMATCH and its region is zeroed; the DMA's end completes it with length and CRC-32C;
the zeroed region's credits return; an abandoned item is read from media again. Units of an item (07, R290–R292). A good unit is no longer needed; a
displaced one is asked for again; a bad one is reported, and its extent's bad units hold it; a stripe of which fewer than k units are good ends the
item's command, and with k of them its units are no longer needed. -/
def Obligations.LaneItemCommands : Prop :=
  ((∀ (n : Lane) (assay : Bool) (s : State) (i : Nat) (x : Item), s.laneReady n.val = true →
      ((if assay then s.lane.aq else s.lane.rq).find? fun j => match s.item? j with
        | some z => z.grp = s.laneGroup n.val && (z.avoid ≠ n.val + 1 || (s.groupLanes (s.laneGroup n.val)).length ≤ 1)
        | none => false) = some i →
      s.item? i = some x →
      Gives (.laneAcceptRead n assay) s fun t => t.laneState n.val = (if assay then 4 else 3) ∧ (t.laneRt n.val).item = some i ∧
        t.item? i = some { x with lane := n.val + 1, phase := .onLane }) ∧
    (∀ (n : Lane) (s : State) (i : Nat) (key : Nat × Nat × Nat) (x : Item) (c : Stored) (f q cid h l : Nat) (d : List (Nat × Nat)),
      (s.laneRt n.val).item = some i →
      (s.laneRt n.val).key = some key → s.item? i = some x → x.stored = some c → x.use = .readCmd f q cid d h l → c.hdr.ty ≠ 2 →
      c.tag = recordTag (s.ek key) c.hdr c.payload → s.fnLive f = true → s.rd Reg.HIF_PORT_LHD.OCC (portOf x.fn) < s.setting 0x1011 →
      Gives (.laneReadVerdict n false) s fun t => t.item? i = some { x with lane := 0, lhd := true, phase := .leaving } ∧
        t.rd Reg.HIF_PORT_LHD.OCC (portOf x.fn) = (s.rd Reg.HIF_PORT_LHD.OCC (portOf x.fn) + 1) % 2 ^ Reg.HIF_PORT_LHD.OCC.width) ∧
    (∀ (n : Lane) (s : State) (i : Nat) (key : Nat × Nat × Nat) (x : Item) (c : Stored) (f : Fn) (q : Q) (cid h l : Nat) (d : List (Nat × Nat)),
      (s.laneRt n.val).item = some i → (s.laneRt n.val).key = some key → s.item? i = some x → x.stored = some c →
      x.use = .readCmd f.val q.val cid d h l → c.tag ≠ recordTag (s.ek key) c.hdr c.payload → CqOpen s f q →
      Gives (.laneReadVerdict n false) s fun t => (∃ y, t.item? i = some y ∧ y.phase = .zeroing) ∧ t.rd Reg.SLA_EVENT.TAG_FAIL 0 = 1 ∧
        Out.cqe f.val q.val (s.rd Reg.QSTATUS.CQTAIL (qix f.val q.val)) 0 0 cid Status.SEAL_MISMATCH (s.qrt f.val q.val).phase ∈ t.out) ∧
    (∀ (s : State) (i : Nat) (x : Item) (c : Stored) (f : Fn) (q : Q) (cid h l : Nat) (d : List (Nat × Nat)), s.item? i = some x → x.phase = .leaving →
      x.use = .readCmd f.val q.val cid d h l → x.stored = some c → CqOpen s f q →
      Gives (.readDmaComplete i .done) s fun t => (∃ y, t.item? i = some y ∧ y.lhd = false ∧ y.phase = .zeroing) ∧
        (∀ a b : Nat, d = [(a, b)] → c.payload ≠ [] → c.payload.length ≤ b →
          Out.hostData f.val a c.payload.length (c.payload.map BitVec.toNat) ∈ t.out) ∧
        Out.cqe f.val q.val (s.rd Reg.QSTATUS.CQTAIL (qix f.val q.val)) c.hdr.length (crc32c c.payload) cid Status.SUCCESS
          (s.qrt f.val q.val).phase ∈ t.out) ∧
    (∀ (s : State) (i : Nat) (x : Item), s.item? i = some x → x.phase = .zeroing → (x.rerun = false ∨ x.stored ≠ none) → s.led.verify = [] →
      s.asy.checks = [] →
      Gives (.holdZeroDone i) s fun t => t.rd Reg.QMS_POOL.OCC (if x.cls = .assay then 2 else 1) =
          (s.rd Reg.QMS_POOL.OCC (if x.cls = .assay then 2 else 1) - x.span) % 2 ^ Reg.QMS_POOL.OCC.width ∧
        t.rd (clsDlg x.cls) x.grp = (s.rd (clsDlg x.cls) x.grp - 1) % 2 ^ (clsDlg x.cls).width) ∧
    (∀ (s : State) (i : Nat) (x : Item) (r : RankRt), s.item? i = some x → x.phase = .zeroing → x.rerun = true → x.stored = none →
      s.rank? x.rank = some r →
      Gives (.readItemRerun i) s fun t => t.item? i = some { x with phase := .media, need := r.unitsOf x.offset 64 })) ∧
  ((∀ (i stripe : Nat) (unit : Fin 16) (s : State) (x : Item), s.item? i = some x → x.phase = .media →
      x.need.contains (stripe, unit.val) = true → (s.media.stripes.any fun y => y.extent = x.extent && y.stripe = stripe) = false →
      x.stored = none →
      Gives (.unitReadDone i stripe unit .good none) s fun t => ∃ y, t.item? i = some y ∧ y.need = x.need.filter (· ≠ (stripe, unit.val))) ∧
    (∀ (i stripe : Nat) (unit : Fin 16) (s : State) (x : Item), s.item? i = some x → x.phase = .media →
      x.need.contains (stripe, unit.val) = true → (s.media.stripes.any fun y => y.extent = x.extent && y.stripe = stripe) = false →
      Gives (.unitReadDone i stripe unit .displaced none) s fun t =>
        t = (s.driveRead (s.unitPort x.rank stripe unit.val) (match s.rank? x.rank with | some k => k.unitSize | none => 0)).send
          (.nvme (s.unitPort x.rank stripe unit.val) "read" [x.extent, stripe, unit.val])) ∧
    (∀ (i stripe : Nat) (unit : Fin 16) (s : State) (x : Item) (k : RankRt), s.item? i = some x → x.phase = .media →
      x.need.contains (stripe, unit.val) = true → (s.media.stripes.any fun y => y.extent = x.extent && y.stripe = stripe) = false →
      s.rank? x.rank = some k →
      Gives (.unitReadDone i stripe unit .bad none) s fun t =>
        (⟨x.extent, stripe, k.slotOf stripe unit.val⟩ : BadUnit) ∈ t.media.bad ∧ t.item? i = some x) ∧
    (∀ (i stripe : Nat) (good : BitVec 20) (s : State) (x : Item) (k : RankRt), s.item? i = some x → s.rank? x.rank = some k →
      x.phase = .media → (x.need.filter fun u => u.1 = stripe) ≠ [] →
      (s.media.stripes.any fun y => y.extent = x.extent && y.stripe = stripe) = false → x.stored = none →
      k.k ≤ ((List.range (k.k + k.m)).filter fun j => good.getLsbD j).length →
      Gives (.reconstructStripe i stripe good none) s fun t => ∃ y, t.item? i = some y ∧ y.recon = true ∧
        y.need = x.need.filter fun u => u.1 ≠ stripe) ∧
    (∀ (i stripe : Nat) (good : BitVec 20) (s : State) (x : Item) (k : RankRt) (f : Fn) (q : Q) (c h l : Nat) (d : List (Nat × Nat)), s.item? i = some x →
      s.rank? x.rank = some k → x.phase = .media → (x.need.filter fun u => u.1 = stripe) ≠ [] →
      (s.media.stripes.any fun y => y.extent = x.extent && y.stripe = stripe) = false → x.use = .readCmd f.val q.val c d h l → CqOpen s f q →
      ((List.range (k.k + k.m)).filter fun j => good.getLsbD j).length < k.k →
      Gives (.reconstructStripe i stripe good none) s fun t => Out.cqe f.val q.val (s.rd Reg.QSTATUS.CQTAIL (qix f.val q.val)) 0 0 c
        Status.MEDIA_UNRECOVERED (s.qrt f.val q.val).phase ∈ t.out))

/-- Tests, resets and retirement of lanes (04, R169–R176): an idle or tested lane is reset, a busy one at its record's end or, for an abort, at once; a
reset ends in a test; a pass puts the lane in service and a failure retires it with the test's cause; LANE_RETIRE retires idle lanes with cause 4.
GROUP_RESET and RESET_ALL reset every lane in service. Group power (04, R166–R168): a group with no lane, and no spare for it, under test is powered
at the end of its entry, and stays out of transition where the mask wants it; a leaving group with nothing left is gated. -/
def Obligations.LaneTestCommands : Prop :=
  ((∀ (m : Fin 16) (n : Lane) (abort : Bool) (s : State), Admitted s m (0x40200008 + n.val * 0x100) →
      ((s.laneState n.val = 1 ∨ s.laneState n.val = 5) → Gives (.laneReset m n abort) s fun t => t.laneState n.val = 6) ∧
      (2 ≤ s.laneState n.val → s.laneState n.val ≤ 4 → abort = false → (s.laneRt n.val).resetWait = 0 →
        Gives (.laneReset m n abort) s fun t => t.regs = s.regs ∧ (t.laneRt n.val).resetWait = 1) ∧
      (2 ≤ s.laneState n.val → s.laneState n.val ≤ 4 → abort = true → Gives (.laneReset m n abort) s fun t => t.laneState n.val = 6)) ∧
    (∀ (m : Fin 16) (n : Lane) (s : State), Admitted s m (0x40200008 + n.val * 0x100) →
      (s.laneState n.val = 1 → Gives (.laneTest m n) s fun t => t.laneState n.val = 5 ∧ (t.laneRt n.val).katCause = 2) ∧
      (2 ≤ s.laneState n.val → s.laneState n.val ≤ 4 → Gives (.laneTest m n) s fun t => t.regs = s.regs ∧ (t.laneRt n.val).katDue = true)) ∧
    (∀ (m : Fin 16) (g : Grp) (abort : Bool) (s : State), Admitted s m (0x40220004 + g.val * 0x100) →
      (∀ n ∈ s.groupLanes g.val, s.laneState n = 1) → Gives (.groupReset m g abort) s fun t => ∀ n ∈ s.groupLanes g.val, t.laneState n = 6) ∧
    (∀ (m : Fin 16) (abort : Bool) (s : State), Admitted s m 0x40230000 → (∀ g < 16, ∀ n ∈ s.groupLanes g, s.laneState n = 1) →
      Gives (.resetAll m abort) s fun t => ∀ g < 16, ∀ n ∈ s.groupLanes g, t.laneState n = 6) ∧
    (∀ (n : Lane) (s : State), s.laneState n.val = 6 → Gives (.laneResetDone n) s fun t => t.laneState n.val = 5 ∧ (t.laneRt n.val).katCause = 3) ∧
    (∀ (m : Fin 16) (k : Fin 9) (v : BitVec 32) (s : State), Admitted s m (0x40230020 + k.val * 4) →
      (∀ j < 32, v.getLsbD j = true → s.laneState (k.val * 32 + j) ≤ 1) →
      Gives (.laneRetireWrite m k v) s fun t => ∀ j < 32, v.getLsbD j = true → k.val * 32 + j < 264 → laneFused (k.val * 32 + j) = false →
        t.laneState (k.val * 32 + j) = 7 ∧ t.rd Reg.SLA_LANE_STATUS.RCAUSE (k.val * 32 + j) = 4) ∧
    (∀ (n : Lane) (s : State), s.laneState n.val = 5 →
      ((s.laneRt n.val).subst = none → Gives (.laneKatDone n true) s fun t => t.laneState n.val = if s.mapped n.val then 1 else 0) ∧
      (∀ i < 256, (s.laneRt n.val).subst = some i → Gives (.laneKatDone n true) s fun t => t.laneState n.val = 1 ∧ t.mapped n.val = true ∧
        t.laneGroup n.val = i / 16 ∧ t.rd Reg.SLA_LANE_STATUS.SLOT n.val = i % 16 ∧ t.rd Reg.SLA_GRP_MAP.LANE i = n.val) ∧
      ((s.laneRt n.val).katCause < 8 → Gives (.laneKatDone n false) s fun t => t.laneState n.val = 7 ∧ t.mapped n.val = false ∧
        t.rd Reg.SLA_LANE_STATUS.RCAUSE n.val = (s.laneRt n.val).katCause ∧ t.rd Reg.SLA_EVENT.LANE_RETIRED 0 = 1)) ∧
    (∀ (n : Lane) (s : State), (s.laneState n.val = 1 → Gives (.periodicKatDue n) s fun t => t.laneState n.val = 5 ∧ (t.laneRt n.val).katCause = 2) ∧
      (2 ≤ s.laneState n.val → s.laneState n.val ≤ 4 → Gives (.periodicKatDue n) s fun t => t.regs = s.regs ∧ (t.laneRt n.val).katDue = true))) ∧
  ((∀ (g : Grp) (s : State), s.lane.entering.contains g.val = true → (∀ n ∈ s.groupLanes g.val, s.laneState n ≠ 5) →
      (∀ j < 8, ∀ i, (s.laneRt (256 + j)).subst = some i → i / 16 ≠ g.val) →
      Gives (.groupPowerUpDone g) s fun t => t.rd Reg.SLA_GRP_STATUS.POWERED g.val = 1 ∧ t.lane.entering.contains g.val = false ∧
        ((s.setting 0x2001).testBit g.val = true → t.rd Reg.SLA_GRP_STATUS.TRANSITION g.val = 0)) ∧
    (∀ (g : Grp) (s : State), s.lane.leaving.contains g.val = true → (∀ n ∈ s.groupLanes g.val, s.laneState n ≤ 1 ∨ s.laneState n = 7) →
      (∀ x ∈ s.led.recs, x.2.grp ≠ g.val + 1) → (∀ x ∈ s.lane.items, x.2.grp ≠ g.val) →
      Gives (.groupPowerDownDone g) s fun t => t.rd Reg.SLA_GRP_STATUS.POWERED g.val = 0 ∧ t.lane.leaving.contains g.val = false ∧
        ((s.setting 0x2001).testBit g.val = false → t.rd Reg.SLA_GRP_STATUS.TRANSITION g.val = 0)))

/-- R153. Setting 0x2003 set to 1 makes a host CRC-32C mandatory: an APPEND with CRCV = 0 that passes checks 10.1 to 10.5 of R111 while 0x2003 is 1 is
refused with FIELD_INVALID, with RES0 and RES1 0, and is not numbered: every ledger keeps its next sequence number and no record is added or changed. -/
def Obligations.AppendNeedsHostCrc : Prop :=
  ∀ (f : Fn) (q : Q) (s : State) (x : FEntry), Fetched s f q 1 x → s.ioChecks f.val q.val x true true true = none → s.setting 0x2003 = 1 →
    x.e.crcv = false → CqOpen s f q →
    Gives (.append f q) s fun t => Answered s t f q x 0x0103 0 0 ∧ t.led = s.led

/-- Strongroom's caches (05, R192, R223). An admitted STR_CTRL.ERASE_CACHE empties both caches and every lane's key register and reports it; DKC_FLUSH
empties the derived-key cache and changes nothing else. The journal (05, R211–R213, R224; 06, R242): a commit takes the first 2,016 changes, with its
mark block to be stored first; once that is stored, the end of the commit applies the changes to the durable table and moves the head; a block that
lacks two copies sets EXT_EVENT.JOURNAL_FAIL. Without a change the interval starts nothing. -/
def Obligations.KeysAndJournal : Prop :=
  ((∀ (m : Fin 16) (s : State), Admitted s m 0x40300040 →
      Gives (.strEraseCache m) s fun t => t.key.ucache = [] ∧ t.key.dkc = [] ∧ (∀ n, (t.laneRt n).key = none) ∧
        t.rd Reg.STR_STATUS.CACHE_ERASED 0 = 1 ∧ t.rd Reg.STR_EVENT.CACHE_ERASED 0 = 1) ∧
    (∀ (m : Fin 16) (s : State), Admitted s m 0x40300040 → exec (.strDkcFlush m) s = .next { s with key.dkc := [] })) ∧
  ((∀ s : State, s.key.journal ≠ [] → s.key.committing = false → s.archiveRo = false →
      Gives .journalCommitInterval s fun t => t.key.committing = true ∧ t.key.commit = s.key.journal.take 2016 ∧
        t.key.journal = s.key.journal.drop 2016 ∧ t.scv.mark = true ∧ t.scv.markStored = false ∧ t.regs = s.regs) ∧
    (∀ s : State, s.key.journal = [] → exec .journalCommitInterval s = .next s) ∧
    (∀ (m : Fin 16) (s : State), Admitted s m 0x40500060 → s.key.committing = false → s.archiveRo = false →
      Gives (.extJcommit m) s fun t => t.key.committing = true ∧ t.key.commit = s.key.journal.take 2016) ∧
    (∀ s : State, s.scv.mark = true → Gives .markBlockStored s fun t => t.scv.mark = false ∧ t.scv.markStored = true ∧ t.key = s.key) ∧
    (∀ s : State, s.key.committing = true → s.scv.markStored = true → s.archiveRo = false → s.key.more = false →
      Gives .journalCommitDone s fun t => t.key.committing = false ∧
        t.key.durable = s.key.commit.foldl (replay s.key.freshGen) s.key.durable ∧ t.rd Reg.EXT_JSEQ.JSEQ 0 =
          (s.rd Reg.EXT_JSEQ.JSEQ 0 + max 1 ((s.key.commit.length + 125) / 126)) % 2 ^ Reg.EXT_JSEQ.JSEQ.width) ∧
    (∀ s : State, s.key.committing = true → Gives (.metadataCopyRetry true) s fun t => t.key.jfail = true ∧ t.rd Reg.EXT_EVENT.JOURNAL_FAIL 0 = 1) ∧
    (∀ s : State, (s.scv.batches.any fun b => b.signed.isSome && !b.stored) = true →
      Gives (.metadataCopyRetry false) s fun t => Out.nvme 0 "batchCopy" [] ∈ t.out))

/-- Full persists, ages and rollback (05, R207–R210, R214, R217): a persist captures the table and shows PERSIST_BUSY; its end commits the next root and
reports it; a day ages every SEALED and MIGRATING extent by one; a leaf of which no copy matches makes the archive read-only on the persisted table.
Model's readings: log entry 16. -/
def Obligations.PersistCommands : Prop :=
  (∀ s : State, s.key.persistNow = false → s.archiveRo = false → s.key.lastRootTicks + rootGap ≤ s.ticks →
    Gives .rootCommitInterval s (fun t => t.key.persistNow = true ∧ t.rd Reg.EXT_STATUS.PERSIST_BUSY 0 = 1 ∧ t.key.leaves = some s.key.ext) ∧
    (∀ m, Admitted s m 0x40500060 → Gives (.extPersist m) s fun t => t.key.persistNow = true ∧ t.rd Reg.EXT_STATUS.PERSIST_BUSY 0 = 1) ∧
    (s.key.persistAll = true → Gives .persistHoldoffEnd s fun t => t.key.persistNow = true ∧ t.key.persistAll = false ∧
      t.rd Reg.EXT_STATUS.PERSIST_BUSY 0 = 1)) ∧
  (∀ (us : BitVec 32) (s : State), s.key.persistNow = true →
    Gives (.persistDone us) s fun t => t.key.persistNow = false ∧ t.key.root.seq = s.key.root.seq + 1 ∧ t.key.lastRootTicks = s.ticks ∧
      t.rd Reg.EXT_ROOT_SEQ.SEQ 0 = (s.key.root.seq + 1) % 2 ^ Reg.EXT_ROOT_SEQ.SEQ.width ∧ t.rd Reg.EXT_STATUS.PERSIST_BUSY 0 = 0 ∧
      t.rd Reg.EXT_EVENT.PERSIST_DONE 0 = 1 ∧ t.rd Reg.EXT_PERSIST_TIME.US 0 = us.toNat) ∧
  (∀ (s : State) (e : Nat) (x : Extent), Tab.find e s.key.ext = some x →
    Gives .ageDailyUpdate s fun t => t.regs = s.regs ∧ Tab.find e t.key.ext =
      some (if x.st = .sealedE ∨ x.st = .migrating then { x with age := min 32767 (x.age + 1) } else x)) ∧
  (∀ (e : ExtIdx) (s : State), Gives (.extentSramUe e true) s (fun t => t.rd Reg.EXT_EVENT.LEAF_REPAIRED 0 = 1 ∧ t.key = s.key) ∧
    Gives (.extentSramUe e false) s fun t => t.rd Reg.DEV_STATUS.ARCHIVE_RO 0 = 1 ∧ t.rd Reg.EXT_STATUS.READ_ONLY 0 = 1 ∧
      t.rd Reg.EXT_EVENT.ROLLBACK 0 = 1 ∧ t.key.ext = s.key.durable)

/-- Void seals, chaining and checkpoints (06, R225–R234): a void record at the start of its window is given a place and waits for a lane; a record with
its tag is chained, and the ledger's chain value is the step over header and tag; an entry is formed once its record is durable, and enters the open
batch or, in the hold-off, waits outside it; a batch that closes takes every entry, the next number and their Merkle root, and the hold-off starts.
Model's readings: log entry 4. -/
def Obligations.ChainAndBatchCommands : Prop :=
  (∀ (l : BitVec 16) (s u : State) (r : Rec) (e off : Nat), s.rec? l.toNat (s.ledger l.toNat).unchained = some r → r.voidCause ≠ 0 →
    r.placed = false → s.keyAvailable r.tenant = true → s.findPlace r.tenant 80 true = .at e off u →
    u.builders + (u.newStripes e off 80).length ≤ u.setting 0x4011 →
    Gives (.voidSeal l) s fun t => (∃ z, t.rec? l.toNat (s.ledger l.toNat).unchained = some z ∧ z.placed = true ∧ z.extent = e ∧ z.offset = off ∧
      z.voidCause = r.voidCause) ∧ recKey l.toNat (s.ledger l.toNat).unchained ∈ t.lane.voids) ∧
  (∀ (l : BitVec 16) (how : LinkEnd) (s : State) (r : Rec) (tag : Nat), s.rec? l.toNat (s.ledger l.toNat).unchained = some r → r.tag = some tag →
    (r.voidCause = 0 ∨ r.placed = true) →
    Gives (.chainRecord l how) s fun t => (t.ledger l.toNat).unchained = (s.ledger l.toNat).unchained + 1 ∧
      (t.ledger l.toNat).chain = chainStep (s.ledger l.toNat).chain (r.header l.toNat (s.ledger l.toNat).unchained) tag) ∧
  (∀ (l : BitVec 16) (s : State), (s.ledger l.toNat).st = .bound → 0 < (s.ledger l.toNat).chainedSince →
    (s.ledger l.toNat).ckt * 32768 ≤ (s.ticks - (s.ledger l.toNat).ckTicks) * 1000 → s.lifecycle ≠ 3 →
    Gives (.checkpointTimeTrigger l) s fun t => t.scv.calls = s.scv.calls ++
      [⟨l.toNat, (s.ledger l.toNat).unchained - 1, 2, (s.ledger l.toNat).chain⟩] ∧ (t.ledger l.toNat).chainedSince = 0 ∧ t.regs = s.regs) ∧
  (∀ (l : BitVec 16) (s : State) (c : CkCall), (s.scv.calls.find? fun z => z.ledger = l.toNat) = some c → s.durableTo c.ledger c.seq = true →
    s.ckptFormed c.ledger c.seq = false →
    Gives (.checkpointForm l) s fun t => t.scv.calls = s.scv.calls.erase c ∧ (t.ledger c.ledger).lastCkpt = c.seq ∧
      (s.scv.holdoff = false → s.scv.entries.length < 4095 → t.scv.entries = s.scv.entries ++ [s.newEntry c]) ∧
      (s.scv.holdoff = true → t.scv.entries = s.scv.entries ∧ t.scv.outside = s.scv.outside ++ [s.newEntry c])) ∧
  (∀ s : State, s.scv.entries ≠ [] → s.scv.holdoff = false →
    Gives .batchIntervalExpire s fun t => t.scv.lastBatch = s.scv.lastBatch + 1 ∧ t.scv.entries = [] ∧ t.scv.holdoff = true ∧
      ∃ b ∈ t.scv.batches, b.number = s.scv.lastBatch + 1 ∧ b.entries = s.scv.entries ∧ b.signed = none ∧
        b.root = merkle 12 (s.scv.entries.map leafHash) ∧ b.prev = match s.scv.batches.getLast? with | some p => p.header | none => 0) ∧
  (∀ s : State, s.scv.holdoff = true →
    exec .batchIntervalExpire s = .next { s with scv.due := decide (s.scv.entries ++ s.scv.outside ≠ []) }) ∧
  (∀ s : State, s.scv.due = false → (s.scv.entries ++ s.scv.outside).length < 4096 →
    Gives .batchHoldoffEnd s fun t => t.scv.holdoff = false ∧ t.scv.entries = s.scv.entries ++ s.scv.outside ∧ t.scv.outside = [] ∧
      t.scv.lastBatch = s.scv.lastBatch)

/-- Signing and proofs (06, R237–R241): the unit that signed a batch reports it in SCV_BATCH_SEQ and SCV_EVENT, UNSIGNED clears; a stored batch is marked;
GET_PROOF answers once the batch is signed and waits before; READ_CHECKPOINT answers with the sequence number it found. Model's readings: log entry 4. -/
def Obligations.SigningAndProofCommands : Prop :=
  (∀ (u : Fin 4) (a : BitVec 16) (us : BitVec 32) (s : State) (j : PkeJob) (n : Nat) (b : Batch), Tab.find u.val s.scv.unit = some j →
    j.who = .batch n → (s.scv.batches.find? fun z => z.number = n) = some b →
    Gives (.batchSigned u a us) s fun t => t.rd Reg.SCV_BATCH_SEQ.BATCH 0 = n % 2 ^ Reg.SCV_BATCH_SEQ.BATCH.width ∧
      t.rd Reg.SCV_STATUS.UNSIGNED 0 = 0 ∧ t.rd Reg.SCV_EVENT.BATCH 0 = 1 ∧
      ∃ g, t.scv.batches = s.scv.batches.map fun z => if z.number = n then { z with signed := some g } else z) ∧
  (∀ (s : State) (b : Batch), (s.scv.batches.find? fun z => !z.stored) = some b → b.signed ≠ none →
    Gives .batchBlockStored s fun t => t.scv.batches = s.scv.batches.map (fun z => if z.number = b.number then { z with stored := true } else z) ∧
      t.regs = s.regs) ∧
  (∀ (f : Fn) (q : Q) (s : State) (x : FEntry) (e : CkEntry), Fetched s f q 7 x → s.ioChecks f.val q.val x true false false = none →
    onlyBytes x.e [(32, 8)] = true → x.e.bytes 32 8 < (s.ledger x.e.ledger.toNat).unchained →
    s.selectCkpt x.e.ledger.toNat (x.e.bytes 32 8) 1 = some e → 4352 ≤ x.e.length.toNat → s.scv.proofs = [] →
    (s.signedPlace x.e.ledger.toNat e.seq ≠ none → CqOpen s f q →
      Gives (.getProof f q false) s fun t => Answered s t f q x Status.SUCCESS e.seq 4352 ∧ t.scv.proofs = []) ∧
    (s.signedPlace x.e.ledger.toNat e.seq = none → Gives (.getProof f q false) s fun t =>
      t.scv.proofs = [⟨f.val, q.val, x.e.cid.toNat, x.sg, x.e.ledger.toNat, e.seq⟩] ∧ t.out = s.out)) ∧
  (∀ (f : Fn) (q : Q) (s : State) (x : FEntry) (e : CkEntry), Fetched s f q 0x0B x → CqOpen s f q →
    s.ioChecks f.val q.val x true false false = none → onlyBytes x.e [(32, 9)] = true → x.e.bytes 40 1 ≤ 2 →
    x.e.bytes 32 8 < (s.ledger x.e.ledger.toNat).unchained → s.selectCkpt x.e.ledger.toNat (x.e.bytes 32 8) (x.e.bytes 40 1) = some e →
    192 ≤ x.e.length.toNat → Gives (.readCheckpoint f q false) s fun t => Answered s t f q x Status.SUCCESS e.seq 192)

/-- Time anchors, attestation and jobs (06, R245–R257): NONCE holds a nonce with the ticks; a good token sets the anchor, its ID rises by one and the
nonce is gone; a refused one answers with the reason; an anchor past its age makes TQ show STALE; ATTEST queues its job, and its end answers. Model's
readings: log entry 4. -/
def Obligations.TimeAndAttestCommands : Prop :=
  (∀ (f : Fn) (q : Q) (s : State) (x : FEntry), Fetched s f q 0x85 x → x.e.bytes 32 1 = 1 → onlyBytes x.e [(32, 1)] = true →
    x.e.length.toNat = 16 → x.e.sgcount.toNat = 1 →
    Gives (.setTimeAnchorNonce f q) s fun t => ∃ v, t.scv.nonce = some (v, s.ticks)) ∧
  (∀ (f : Fn) (q : Q) (g a : Nat) (s : State) (x : FEntry), Fetched s f q 0x85 x → x.e.bytes 32 1 = 2 → onlyBytes x.e [(32, 1)] = true →
    x.e.length.toNat ≠ 0 → s.anchorReason (.good g a) = none →
    Gives (.setTimeAnchorSubmit f q (.good g a)) s fun t => t.scv.nonce = none ∧ t.scv.anchorValid = true ∧
      t.rd Reg.SCV_ANCHOR_ID.ID 0 = (s.rd Reg.SCV_ANCHOR_ID.ID 0 + 1) % 2 ^ Reg.SCV_ANCHOR_ID.ID.width ∧
      t.rd Reg.SCV_ANCHOR_UTC.MS 0 = g % 2 ^ Reg.SCV_ANCHOR_UTC.MS.width ∧ t.rd Reg.SCV_EVENT.ANCHOR 0 = 1) ∧
  (∀ (f : Fn) (q : Q) (token : Token) (r : Nat) (s : State) (x : FEntry), Fetched s f q 0x85 x → CqOpen s f q → x.e.bytes 32 1 = 2 →
    onlyBytes x.e [(32, 1)] = true → x.e.length.toNat ≠ 0 → s.anchorReason token = some r →
    Gives (.setTimeAnchorSubmit f q token) s fun t => Answered s t f q x Status.ANCHOR_INVALID 0 r ∧ t.scv = s.scv) ∧
  (∀ s : State, s.scv.anchorValid = true → s.setting 0x3005 * 86400 * 32768 < s.ticks - s.rd Reg.SCV_ANCHOR_TICKS.TICKS 0 →
    Gives .anchorStale s fun t => t.scv.stale = true ∧ t.rd Reg.SCV_STATUS.TQ 0 = t.tq ∧ 8 ≤ t.tq) ∧
  (∀ (f : Fn) (q : Q) (s : State) (x : FEntry), Fetched s f q 0x8E x → s.scv.jobs.length < 32 → s.lifecycle ≠ 0 → 3920 ≤ x.e.length.toNat →
    Gives (.attest f q) s fun t => ∃ j rep, j.who = .attest f.val q.val x.e.cid.toNat rep x.sg x.e.length.toNat ∧ j.cls = 2 ∧
      (j ∈ t.scv.jobs ∨ ∃ u, Tab.find u t.scv.unit = some j)) ∧
  (∀ (u : Fin 4) (a : BitVec 16) (s : State) (j : PkeJob) (f : Fn) (q : Q) (cid : Nat) (rep : List Nat) (sg : List (Nat × Nat)) (len : Nat),
    Tab.find u.val s.scv.unit = some j → j.who = .attest f.val q.val cid rep sg len → CqOpen s f q →
    Gives (.pkeJobDone u true true a) s fun t => ∃ m k, Out.cqe f.val q.val (s.rd Reg.QSTATUS.CQTAIL (qix f.val q.val)) m k cid Status.SUCCESS
      (s.qrt f.val q.val).phase ∈ t.out)

/-- Ports and bring-up (07, R264–R271, R278): a drive that appears in an ABSENT port is brought up; the steps follow one another in the order of R271; a
drive that fails R269 is REJECTED; the first line of R278 that applies decides what an admitted drive is. A bring-up that times out takes the port
down. -/
def Obligations.DriveBringupCommands : Prop :=
  (∀ (p : Port) (s : State), portFused p.val = false →
    (s.portState p.val = 0 → Gives (.mediaPresence p) s fun t => t.portState p.val = 1 ∧ (t.portRt p.val).step = 1 ∧
      t.rd Reg.MPX_PORT_STATUS.PRESENT p.val = 1 ∧ t.rd Reg.MPX_PORT_STATUS.LINK_UP p.val = 0) ∧
    (s.portState p.val = 7 → s.isSet Reg.MPX_PORT_STATUS.PRESENT p.val = false → Gives (.mediaPresence p) s fun t => t.portState p.val = 1 ∧
      (t.portRt p.val).step = 1) ∧
    (s.portState p.val ≠ 0 → (s.portState p.val = 7 → s.isSet Reg.MPX_PORT_STATUS.PRESENT p.val = true) →
      exec (.mediaPresence p) s = .next (s.wr Reg.MPX_PORT_STATUS.PRESENT p.val 1))) ∧
  (∀ (p : Port) (s : State), s.portState p.val = 1 →
    ((s.portRt p.val).step = 1 → Gives (.driveBringupStep p .resetReleased) s fun t => (t.portRt p.val).step = 2) ∧
    (∀ rate, (s.portRt p.val).step = 2 → Gives (.driveBringupStep p (.link rate)) s fun t => (t.portRt p.val).step = 3 ∧
      t.rd Reg.MPX_PORT_STATUS.LINK_UP p.val = 1) ∧
    ((s.portRt p.val).step = 3 → Gives (.driveBringupStep p .ready) s fun t => (t.portRt p.val).step = 4) ∧
    (∀ d, (s.portRt p.val).step = 4 → driveMeets d = true → Gives (.driveBringupStep p (.identified d)) s fun t => (t.portRt p.val).step = 5 ∧
      (t.portRt p.val).drive = some d ∧ t.portState p.val = 1 ∧ t.rd Reg.MPX_PORT_GEOM.MAR p.val = min d.mar 255) ∧
    (∀ d, (s.portRt p.val).step = 4 → driveMeets d = false → Gives (.driveBringupStep p (.identified d)) s fun t => t.portState p.val = 6 ∧
      t.rd Reg.MPX_EVENT.REJECTED 0 = 1) ∧
    ((s.portRt p.val).step = 5 → Gives (.driveBringupStep p .queues) s fun t => (t.portRt p.val).step = 6) ∧
    (∀ l, (s.portRt p.val).step = 6 → Gives (.driveBringupStep p (.label (.label l))) s fun t => (t.portRt p.val).step = 7 ∧
      (t.portRt p.val).label = l)) ∧
  (∀ (p : Port) (s : State), s.portState p.val = 1 → (s.portRt p.val).step = 7 →
    ((s.portRt p.val).label.role = 0 → Gives (.driveAdmit p) s fun t => t.portState p.val = 4 ∧ t.rd Reg.MPX_EVENT.PORT_UP 0 = 1) ∧
    ((s.portRt p.val).label.role ≠ 0 → (s.portRt p.val).label.role ≠ 255 → (s.portRt p.val).label.serial ≠ Config.serial →
      Gives (.driveAdmit p) s fun t => t.portState p.val = 4 ∧ t.rd Reg.MPX_PORT_STATUS.FOREIGN p.val = 1) ∧
    ((s.portRt p.val).label.serial = Config.serial → (s.portRt p.val).label.role = 2 → s.media.spares.contains (s.portNguid p.val) = true →
      Gives (.driveAdmit p) s fun t => t.portState p.val = 3) ∧
    (∀ r, (s.portRt p.val).label.serial = Config.serial → (s.portRt p.val).label.role = 1 →
      s.rank? (s.portRt p.val).label.rank = some r → s.occupied (s.portNguid p.val) = some ((s.portRt p.val).label.rank, (s.portRt p.val).label.slot) →
      (s.portRt p.val).label.gen = r.gen → Gives (.driveAdmit p) s fun t => t.portState p.val = 2 ∧
        t.rd Reg.MPX_PORT_STATUS.RANK p.val = (s.portRt p.val).label.rank % 2 ^ Reg.MPX_PORT_STATUS.RANK.width) ∧
    ((s.portRt p.val).label.serial = Config.serial → (s.portRt p.val).label.role = 1 → s.occupied (s.portNguid p.val) = none →
      Gives (.driveAdmit p) s fun t => t.portState p.val = 5 ∧ t.rd Reg.MPX_EVENT.QUARANTINE 0 = 1)) ∧
  (∀ (p : Port) (s : State), s.portState p.val = 1 → Gives (.bringupTimeout p) s fun t => t.portState p.val = 7 ∧ t.rd Reg.MPX_EVENT.PORT_DOWN 0 = 1)

/-- Ports that fail (07, R264, R265, R267, R270, R277, R294, R299): each of the conditions of R265 takes the port down; a MEMBER's slot goes MISSING and
its rank's generation rises; the first timeout of a command aborts it; a port that goes down and whose drive is pulled becomes ABSENT. A write of
MPX_PORT_CTRL.RESET brings a port up again, or takes a MEMBER down. -/
def Obligations.PortFailureCommands : Prop :=
  (∀ (p : Port) (s : State), s.portState p.val ≠ 0 → s.portState p.val ≠ 2 → s.portState p.val ≠ 7 →
    Gives (.mediaLinkDownTimer p) s (fun t => t.portState p.val = 7 ∧ t.rd Reg.MPX_PORT_STATUS.LINK_UP p.val = 0 ∧
      t.rd Reg.MPX_EVENT.PORT_DOWN 0 = 1) ∧
    Gives (.driveAsyncEvent p .fatal) s (fun t => t.portState p.val = 7) ∧
    Gives (.driveAsyncEvent p .namespaceChanged) s (fun t => t.portState p.val = 7)) ∧
  (∀ (p : Port) (s : State) (r i : Nat) (x : RankRt) (y : RSlot), s.portState p.val = 2 → s.slotOfPort p.val = some (r, i) → s.rank? r = some x →
    x.slots[i]? = some y → s.setting 0x4003 = 0 →
    Gives (.mediaLinkDownTimer p) s fun t => t.portState p.val = 7 ∧ ∃ z, t.rank? r = some z ∧ z.gen = x.gen + 1 ∧
      z.slots = x.slots.set i { y with st := 1 }) ∧
  (∀ (p : Port) (s : State), s.portState p.val ≠ 0 → s.portState p.val ≠ 7 →
    Gives (.driveAsyncEvent p .health) s fun t => t.rd Reg.MPX_EVENT.HEALTH 0 = 1 ∧ t.portState p.val = s.portState p.val) ∧
  (∀ (p : Port) (s : State), s.portState p.val = 7 → Gives (.mediaPresenceLost p) s fun t => t.portState p.val = 0 ∧
    t.rd Reg.MPX_PORT_STATUS.PRESENT p.val = 0) ∧
  (∀ (p : Port) (s : State), s.portState p.val ≠ 0 → s.portState p.val ≠ 7 →
    Gives (.nvmeCommandTimeout p false) s (fun t => (t.portRt p.val).timedOut = true ∧ t.portState p.val = s.portState p.val ∧
      Out.nvme p.val "abort" [] ∈ t.out) ∧
    (s.portState p.val ≠ 2 → (s.portRt p.val).timedOut = true → Gives (.nvmeCommandTimeout p true) s fun t => t.portState p.val = 7)) ∧
  (∀ (m : Fin 16) (p : Port) (s : State), Admitted s m (0x40900004 + p.val * 0x1000) → portFused p.val = false → s.portState p.val ≠ 0 →
    s.portState p.val ≠ 2 → Gives (.mpxPortReset m p) s fun t => t.portState p.val = 1 ∧ (t.portRt p.val).step = 1)

/-- Units and stripes (07, R266, R285–R287, R295; 01, R20, R21): a unit that is acknowledged is counted on its port and in CPR_ENC_BYTES; a failed append
marks the bay-member degraded; the timer closes an open stripe; a rebuilt bay is counted, is degraded no longer, and the last one ends the walk with
its slot in service. Model's readings: log entry 101. -/
def Obligations.UnitCommands : Prop :=
  (∀ (p : Port) (us : BitVec 32) (s : State), Gives (.unitAppendDone (.label p) us) s fun t =>
    t.rd Reg.MPX_PORT_CMDS.COUNT p.val = (s.rd Reg.MPX_PORT_CMDS.COUNT p.val + 1) % 2 ^ Reg.MPX_PORT_CMDS.COUNT.width) ∧
  (∀ (e st slot : Nat) (us : BitVec 32) (s : State) (x : Stripe) (r : RankRt) (y : RSlot),
    (s.media.stripes.find? fun z => z.extent = e && z.stripe = st) = some x → s.rank? x.rank = some r → r.slots[slot]? = some y → y.st = 0 →
    x.acked.contains slot = false → s.portState y.port = 2 → s.unitReady x r slot = true →
    Gives (.unitAppendDone (.unit e st slot true) us) s fun t =>
      t.rd Reg.CPR_ENC_BYTES.BYTES 0 = (s.rd Reg.CPR_ENC_BYTES.BYTES 0 + r.unitSize) % 2 ^ Reg.CPR_ENC_BYTES.BYTES.width ∧
      t.rd Reg.MPX_PORT_CMDS.COUNT y.port = (s.rd Reg.MPX_PORT_CMDS.COUNT y.port + 1) % 2 ^ Reg.MPX_PORT_CMDS.COUNT.width) ∧
  (∀ (p : Port) (s : State), Gives (.unitAppendError (.metadata p)) s fun t => t.rd Reg.MPX_EVENT.APPEND_ERR 0 = 1 ∧
    Out.nvme p.val "getLogPage" [1] ∈ t.out) ∧
  (∀ (e st slot : Nat) (o : Bool) (s : State) (x : Stripe) (r : RankRt), (s.media.stripes.find? fun z => z.extent = e && z.stripe = st) = some x →
    x.acked.contains slot = false → s.rank? x.rank = some r →
    Gives (.unitAppendError (.unit e st slot o)) s fun t => (x.rank, x.bay, slot) ∈ t.media.degraded ∧ t.rd Reg.MPX_EVENT.APPEND_ERR 0 = 1) ∧
  (∀ (e : ExtIdx) (st : BitVec 16) (s : State) (x : Stripe) (r : RankRt),
    (s.media.stripes.find? fun z => z.extent = e.val && z.stripe = st.toNat && !z.closed) = some x → s.rank? (s.ext e.val).rank = some r →
    Gives (.stripeCloseTimer e st) s fun t => ∀ z ∈ t.media.stripes, z.extent = e.val → z.stripe = st.toNat → z.closed = true) ∧
  (∀ (r : Rank) (slot : Fin 20) (s : State) (w : Walk) (b c : Nat), (s.media.walks.find? fun z => z.rank = r.val && z.slot = slot.val) = some w →
    (w.todo.find? fun z => s.bayUsed r.val z) = some b → c ∈ w.todo.erase b → s.bayUsed r.val c = true →
    Gives (.rebuildBayDone r slot [] none) s fun t => (r.val, b, slot.val) ∉ t.media.degraded ∧
      t.rd Reg.CPR_RANK_RBLD.DONE (r.val * 20 + slot.val) =
        (s.rd Reg.CPR_RANK_RBLD.DONE (r.val * 20 + slot.val) + 1) % 2 ^ Reg.CPR_RANK_RBLD.DONE.width) ∧
  (∀ (r : Rank) (slot : Fin 20) (s : State) (w : Walk) (b : Nat) (x : RankRt) (y : RSlot),
    (s.media.walks.find? fun z => z.rank = r.val && z.slot = slot.val) = some w → (w.todo.find? fun z => s.bayUsed r.val z) = some b →
    (∀ c ∈ w.todo.erase b, s.bayUsed r.val c = false) → s.rank? r.val = some x → x.slots[slot.val]? = some y →
    Gives (.rebuildBayDone r slot [] none) s fun t => t.rank? r.val = some { x with slots := x.slots.set slot.val { y with st := 0 } } ∧
      t.rd Reg.CPR_EVENT.REBUILD_DONE 0 = 1)

/-- RANK_CONTROL (07, R264, R276, R277, R280, R294–R298, R301, R302): CREATE makes the rank of R275 at generation 1 and its ports MEMBER; DELETE removes
the rank; ADD_SPARE, REMOVE_SPARE and RELEASE_PORT change the port's state; REPLACE and REJOIN put the drive into the slot as REBUILDING at the next
generation; RECOVER_READ and LOCATE set the port's bit; QUERY answers with the generation and 512 bytes. -/
def Obligations.RankControlCommands : Prop :=
  (∀ (f : Fn) (q : Q) (s : State) (x : FEntry), RankCmd s f q 1 false x → 4 ≤ x.e.bytes 36 1 → x.e.bytes 36 1 ≤ 16 → 1 ≤ x.e.bytes 37 1 →
    x.e.bytes 37 1 ≤ 4 → x.e.bytes 36 1 + x.e.bytes 37 1 ≤ 20 → s.rank? (x.e.bytes 33 1) = none →
    (let ports := (List.range (x.e.bytes 36 1 + x.e.bytes 37 1)).map fun i => x.e.bytes (40 + i) 1
     let n := s.newRank (x.e.bytes 36 1) (x.e.bytes 37 1) (x.e.bytes 38 1 % 2 = 1) ports
     ports.Nodup ∧ (∀ p ∈ ports, p < 128 ∧ portFused p = false ∧ s.portState p = 4 ∧ s.foreign x.e p = false ∧
        ∃ d, (s.portRt p).drive = some d ∧ n.fits d = true) ∧ n.bays ≠ 0) →
    Gives (.rankCreate f q) s fun t =>
      (∃ z, t.rank? (x.e.bytes 33 1) = some z ∧ z.k = x.e.bytes 36 1 ∧ z.m = x.e.bytes 37 1 ∧ z.gen = 1 ∧
        z.slots = ((List.range (x.e.bytes 36 1 + x.e.bytes 37 1)).map fun i => x.e.bytes (40 + i) 1).map fun p => ⟨0, s.portNguid p, p⟩) ∧
      ∀ p ∈ (List.range (x.e.bytes 36 1 + x.e.bytes 37 1)).map fun i => x.e.bytes (40 + i) 1, t.portState p = 2) ∧
  (∀ (f : Fn) (q : Q) (s : State) (x : FEntry) (z : RankRt), RankCmd s f q 2 false x → s.rank? (x.e.bytes 33 1) = some z →
    (∀ y ∈ s.key.ext, y.2.rank = x.e.bytes 33 1 → y.2.st = .free) → z.logBays = [] →
    (s.media.rank.filter fun y => y.2.state = 1 || y.2.state = 2).map (·.1) ≠ [x.e.bytes 33 1] →
    (∀ w ∈ s.media.walks, w.rank ≠ x.e.bytes 33 1) → (∀ y ∈ s.key.reserve, (s.ext y).rank ≠ x.e.bytes 33 1) → 16 ≤ s.key.reserve.length →
    Gives (.rankDelete f q) s fun t => t.media.rank = Tab.del (x.e.bytes 33 1) s.media.rank ∧ t.rd Reg.CPR_EVENT.RANK_STATE 0 = 1) ∧
  (∀ (f : Fn) (q : Q) (s : State) (x : FEntry), RankCmd s f q 3 false x → s.portState (x.e.bytes 35 1) = 4 → s.media.spares.length < 16 →
    s.foreign x.e (x.e.bytes 35 1) = false →
    Gives (.rankAddSpare f q) s fun t => t.portState (x.e.bytes 35 1) = 3 ∧ t.media.spares = s.media.spares ++ [s.portNguid (x.e.bytes 35 1)]) ∧
  (∀ (f : Fn) (q : Q) (s : State) (x : FEntry), RankCmd s f q 4 false x → s.portState (x.e.bytes 35 1) = 3 →
    Gives (.rankRemoveSpare f q) s fun t => t.portState (x.e.bytes 35 1) = 4 ∧
      t.media.spares = s.media.spares.filter (· ≠ s.portNguid (x.e.bytes 35 1))) ∧
  (∀ (f : Fn) (q : Q) (s : State) (x : FEntry) (z : RankRt) (y : RSlot) (d : Drive), RankCmd s f q 5 false x →
    s.rank? (x.e.bytes 33 1) = some z → z.slots[x.e.bytes 34 1]? = some y → y.st = 1 → s.portState (x.e.bytes 35 1) = 4 →
    (s.portRt (x.e.bytes 35 1)).drive = some d → z.fits d = true → s.foreign x.e (x.e.bytes 35 1) = false →
    Gives (.rankReplace f q) s fun t => t.portState (x.e.bytes 35 1) = 2 ∧ t.rank? (x.e.bytes 33 1) = some { z with
      gen := z.gen + 1
      slots := z.slots.set (x.e.bytes 34 1) ⟨2, s.portNguid (x.e.bytes 35 1), x.e.bytes 35 1⟩ }) ∧
  (∀ (f : Fn) (q : Q) (s : State) (x : FEntry) (z : RankRt) (y : RSlot) (d : Drive), RankCmd s f q 6 false x →
    s.rank? (x.e.bytes 33 1) = some z → z.slots[x.e.bytes 34 1]? = some y → y.st = 1 → s.portState (x.e.bytes 35 1) = 5 →
    (z.departed.any fun w => w.1 = s.portNguid (x.e.bytes 35 1)) = true → (s.portRt (x.e.bytes 35 1)).drive = some d → z.fits d = true →
    Gives (.rankRejoin f q) s fun t => t.portState (x.e.bytes 35 1) = 2 ∧ t.rank? (x.e.bytes 33 1) = some { z with
      gen := z.gen + 1
      slots := z.slots.set (x.e.bytes 34 1) ⟨2, s.portNguid (x.e.bytes 35 1), x.e.bytes 35 1⟩ }) ∧
  (∀ (f : Fn) (q : Q) (s : State) (x : FEntry), RankCmd s f q 7 true x → s.portState (x.e.bytes 35 1) = 5 →
    Gives (.rankRecoverRead f q) s fun t => t.rd Reg.MPX_PORT_STATUS.RECOVER (x.e.bytes 35 1) = x.e.bytes 38 1 / 4 % 2) ∧
  (∀ (f : Fn) (q : Q) (s : State) (x : FEntry), RankCmd s f q 8 false x → s.portState (x.e.bytes 35 1) = 5 →
    Gives (.rankReleasePort f q) s fun t => t.portState (x.e.bytes 35 1) = 4) ∧
  (∀ (f : Fn) (q : Q) (s : State) (x : FEntry), RankCmd s f q 9 true x → CqOpen s f q → 512 ≤ x.e.length.toNat →
    Gives (.rankQuery f q) s fun t => Answered s t f q x Status.SUCCESS (match s.rank? (x.e.bytes 33 1) with | some y => y.gen | none => 0) 512) ∧
  (∀ (f : Fn) (q : Q) (s : State) (x : FEntry), RankCmd s f q 10 true x →
    Gives (.rankLocate f q) s fun t => t.rd Reg.MPX_PORT_CTRL.LOCATE (x.e.bytes 35 1) = x.e.bytes 38 1 / 4 % 2)

/-- Patrol, wear and the daily scan (08, R308–R316, R324): patrol that may not run shows 0; a read with a bad unit enters the extent with BAD_UNIT; the
rate is the bytes left over the time left (its floor is the model's choice, log entry 14); a pass that has read all ends and counts; a SEALED extent
at its age enters the list; a polled drive's figures are kept and a drive at setting 0x5006 is at WEAR_LIMIT. ASY_CTRL holds its two bits. -/
def Obligations.PatrolCommands : Prop :=
  (∀ (us : List UnitCheck) (s : State), s.patrolOn = false → exec (.patrolRead us) s = .next (s.wr Reg.ASY_STATUS.PATROL 0 0)) ∧
  (∀ (us : List UnitCheck) (s : State) (e : Nat) (r : RankRt), s.patrolOn = true → s.patrolExtent = some e → s.rank? (s.ext e).rank = some r →
    (∀ u ∈ us, u = .good) → s.rd Reg.ASY_PATROL_POS.EXTENT 0 = e → s.asy.stripe + 1 < s.stripesHeld e →
    Gives (.patrolRead us) s fun t => t.rd Reg.ASY_STATUS.PATROL 0 = 1 ∧ t.asy.stripe = s.asy.stripe + 1 ∧ t.asy.attn = s.asy.attn) ∧
  (∀ (us : List UnitCheck) (s : State) (e : Nat) (r : RankRt), s.patrolOn = true → s.patrolExtent = some e → s.rank? (s.ext e).rank = some r →
    UnitCheck.hard ∈ us → (s.ext e).placegen ≠ 0xFFFFFF → s.rankState (s.ext e).rank ≠ 4 → (∀ a ∈ s.asy.attn, a.extent ≠ e) →
    s.asy.attn.length < 65536 → Gives (.patrolRead us) s fun t => ∃ a ∈ t.asy.attn, a.extent = e ∧ a.reason = 1) ∧
  (∀ s : State, Gives .patrolPace s fun t => t.regs = s.regs ∧
    t.asy.mbps = s.patrolLeft / max 1 (max ((s.patrolDue - s.ticks) / 32768) (s.setting 0x5001 * 864))) ∧
  (∀ s : State, s.patrolExtent = none → s.logBays.length ≤ s.asy.logBay →
    Gives .patrolPassEnd s fun t => t.rd Reg.ASY_PATROL_PASS.PASS 0 = (s.rd Reg.ASY_PATROL_PASS.PASS 0 + 1) % 2 ^ 32 ∧
      t.rd Reg.ASY_PATROL_POS.EXTENT 0 = 0 ∧ t.rd Reg.ASY_EVENT.PATROL_PASS 0 = 1 ∧ t.asy.stripe = 0) ∧
  (∀ (s : State) (e : Nat) (x : Extent), (e, x) ∈ s.key.ext → x.st = .sealedE → s.setting 0x5004 ≤ x.age → (s.ext e).placegen ≠ 0xFFFFFF →
    s.rankState (s.ext e).rank ≠ 4 → s.asy.drive = [] → s.asy.attn.length + 3 * s.key.ext.length < 65536 →
    Gives .asyDailyScan s fun t => ∃ a ∈ t.asy.attn, a.extent = e) ∧
  (∀ (p : Port) (pct : BitVec 8) (n : BitVec 32) (s : State), (s.portState p.val = 2 ∨ s.portState p.val = 3) →
    Gives (.smartPoll p pct n) s fun t => ∃ d, Tab.find p.val t.asy.drive = some d ∧ d.nguid = s.portNguid p.val ∧ d.pctUsed = pct.toNat ∧
      d.mediaErr = n.toNat ∧ (s.setting 0x5006 ≤ pct.toNat → d.limit = true)) ∧
  (∀ (m : Fin 16) (v : BitVec 32) (s : State), Admitted s m 0x40A00004 →
    Gives (.asyCtrlWrite m v) s fun t => t.rd Reg.ASY_CTRL.PATROL_PAUSE 0 = v.toNat % 2 ∧ t.rd Reg.ASY_CTRL.MIG_PAUSE 0 = v.toNat / 2 % 2)

/-- Refresh migration (08, R317–R323, R334; 05, R204, R211): the first entry with a target makes its extent MIGRATING to it, and its START waits for the
commit; a copied stripe is counted; DONE is journalled once all stripes are; a bay whose resets end is done with, and a released extent is FREE with
the next KEYGEN, or RETIRED after the last one. -/
def Obligations.MigrationCommands : Prop :=
  (∀ (s : State) (a : Attn) (rest : List Attn) (tgt : Nat × Nat), s.migrationsRun = true → s.asy.migs.length < s.setting 0x5012 →
    (sortAttn s.asy.attn).filter s.takeable = a :: rest → s.chooseTarget a = some tgt → (∀ b ∈ rest, s.chooseTarget b ≠ none) →
    Gives .migrationStart s fun t => (t.ext a.extent).st = .migrating ∧ ∃ m, t.asy.migs = s.asy.migs ++ [m] ∧ m.extent = a.extent ∧
      (m.rank, m.bay) = tgt ∧ m.gen = (s.ext a.extent).placegen + 1 ∧ m.started = false ∧ m.copied = 0) ∧
  (∀ (e : ExtIdx) (us : List UnitCheck) (recs : List Nat) (s : State) (m : Mig) (r k : RankRt),
    (s.asy.migs.find? fun z => z.extent = e.val) = some m → m.started = true → m.done = false → s.migrationsRun = true →
    s.bayResetting m.rank m.bay = false → m.copied < s.stripesHeld e.val → s.rank? m.srcRank = some r → s.rank? m.rank = some k →
    (∀ u ∈ us, u = .good ∨ u = .soft) → r.k ≤ us.length →
    Gives (.migrationStripeCopy e us none recs) s fun t => ∃ z ∈ t.asy.migs, z = { m with copied := m.copied + 1 }) ∧
  (∀ (e : ExtIdx) (s : State) (m : Mig), (s.asy.migs.find? fun z => z.extent = e.val) = some m → m.started = true → m.done = false →
    s.stripesHeld e.val ≤ m.copied →
    Gives (.migrationDone e) s fun t => { m with done := true } ∈ t.asy.migs ∧ t.key.journal = s.key.journal ++
      [JEntry.entry e.val (m.place (s.ext e.val)), JEntry.migration e.val 2 m.rank m.bay]) ∧
  (∀ (r : Rank) (bay : BitVec 24) (s : State) (z : Nat × Nat × Nat), (s.media.resets.find? fun x => x.1 = r.val && x.2.1 = bay.toNat) = some z →
    (∀ i ∈ s.lane.items, ¬ (i.2.rank = r.val ∧ i.2.bay = bay.toNat)) →
    Gives (.bayZoneResetDone r bay) s fun t => t.media.resets = s.media.resets.erase z ∧ JEntry.resetDone r.val bay.toNat ∈ t.key.journal ∧
      (z.2.2 ≠ 0 → (s.ext (z.2.2 - 1)).st = .releasePending →
        ((s.ext (z.2.2 - 1)).keygen ≠ 0xFFFFFF → ∃ v, JEntry.entry (z.2.2 - 1) v ∈ t.key.journal ∧ v.st = .free ∧
          v.keygen = (s.ext (z.2.2 - 1)).keygen + 1 ∧ v.hold = false) ∧
        ((s.ext (z.2.2 - 1)).keygen = 0xFFFFFF → t.rd Reg.EXT_EVENT.EXTENT_RETIRED 0 = 1 ∧
          ∃ v, JEntry.entry (z.2.2 - 1) v ∈ t.key.journal ∧ v.st = .retired)))

/-- ASSAY_CONTROL (08, R325, R329): START makes a run with the next number, of the rate asked for or setting 0x5010; PAUSE and RESUME stop and go on; STOP
ends it with code 2; STATUS answers with extents done, state and findings; EVACUATE marks the rank, CANCEL_EVACUATE unmarks it. The assay's walk (08,
R326, R327, R329, R339): padding is passed to the next stripe; an extent at its END is counted, and is a finding where fold and count differ from its
seal record; a batch is checked in order, and one that fails is a finding; the run ends with code 1 once its scope is done. -/
def Obligations.AssayCommands : Prop :=
  ((∀ (f : Fn) (q : Q) (s : State) (x : FEntry), AssayCmd s f q 1 x → s.assayFields x.e = true → s.asy.run = none →
      Gives (.assayStart f q) s fun t => t.rd Reg.ASY_STATUS.ASSAY 0 = 1 ∧
        t.rd Reg.ASY_ASSAY_RUN.RUN 0 = (s.rd Reg.ASY_ASSAY_RUN.RUN 0 + 1) % 2 ^ 32 ∧ t.rd Reg.ASY_ASSAY_FIND.COUNT 0 = 0 ∧
        ∃ r, t.asy.run = some r ∧ r.run = (s.rd Reg.ASY_ASSAY_RUN.RUN 0 + 1) % 2 ^ 32 ∧ r.scope = x.e.bytes 33 1 ∧ r.paused = false ∧
          r.rate = if x.e.bytes 44 4 = 0 then s.setting 0x5010 else x.e.bytes 44 4) ∧
    (∀ (f : Fn) (q : Q) (s : State) (x : FEntry) (r : AssayRun), AssayCmd s f q 2 x → s.asy.run = some r →
      Gives (.assayPause f q) s fun t => t.asy.run = some { r with paused := true, byPower := false } ∧ t.rd Reg.ASY_STATUS.ASSAY 0 = 2) ∧
    (∀ (f : Fn) (q : Q) (s : State) (x : FEntry) (r : AssayRun), AssayCmd s f q 3 x → s.asy.run = some r → r.paused = true →
      Gives (.assayResume f q) s fun t => t.asy.run = some { r with paused := false, byPower := false } ∧ t.rd Reg.ASY_STATUS.ASSAY 0 = 1) ∧
    (∀ (f : Fn) (q : Q) (s : State) (x : FEntry) (r : AssayRun), AssayCmd s f q 4 x → s.asy.run = some r →
      Gives (.assayStop f q) s fun t => t.asy.run = none ∧ t.rd Reg.ASY_STATUS.ASSAY 0 = 0 ∧ t.rd Reg.ASY_EVENT.ASSAY_DONE 0 = 1 ∧
        { r with finish := s.ticks, endCode := 2 } ∈ t.asy.reports) ∧
    (∀ (f : Fn) (q : Q) (s : State) (x : FEntry), AssayCmd s f q 5 x → CqOpen s f q →
      Gives (.assayStatus f q) s fun t => Answered s t f q x Status.SUCCESS
        (s.rd Reg.ASY_ASSAY_EXT.DONE 0 + s.rd Reg.ASY_STATUS.ASSAY 0 * 2 ^ 32) (s.rd Reg.ASY_ASSAY_FIND.COUNT 0)) ∧
    (∀ (f : Fn) (q : Q) (s : State) (x : FEntry) (r : RankRt), AssayCmd s f q 6 x → x.e.bytes 34 1 < 32 → s.rank? (x.e.bytes 34 1) = some r →
      s.archiveRo = false → Gives (.assayEvacuate f q) s fun t => t.rank? (x.e.bytes 34 1) = some { r with evacuate := true }) ∧
    (∀ (f : Fn) (q : Q) (s : State) (x : FEntry) (r : RankRt), AssayCmd s f q 7 x → x.e.bytes 34 1 < 32 → s.rank? (x.e.bytes 34 1) = some r →
      r.evacuate = true → Gives (.assayCancelEvacuate f q) s fun t => t.rank? (x.e.bytes 34 1) = some { r with evacuate := false })) ∧
  ((∀ (b : Bool) (s : State) (r : AssayRun) (e : Nat), s.asy.run = some r → r.paused = false → s.power = 0 → r.cur = some e →
      (s.ext e).st = .sealedE → (s.ext e).keygen = r.keygen → r.off < s.walkEnd r e →
      Gives (.assaySlot .padding b) s fun t => t.asy.run = some { r with off := (r.off / s.stripeOf e + 1) * s.stripeOf e }) ∧
    (∀ (s : State) (r : AssayRun) (e : Nat) (y : Extent), s.asy.run = some r → r.paused = false → s.power = 0 → r.cur = none →
      s.runExtent r = some (e, y) → y.st = .sealedE → (s.tenant y.tenant).st ≠ 2 → Tab.find e s.asy.seals ≠ none →
      Gives (.assaySlot .record true) s fun t => t.asy.run = some { r with
        off := 0, fold := 0, count := 0, sealLost := false, keygen := y.keygen, cur := some e }) ∧
    (∀ (s : State) (r : AssayRun) (e : Nat), s.asy.run = some r → r.paused = false → r.cur = some e → s.walkEnd r e ≤ r.off →
      Gives .assayExtentEnd s fun t => t.rd Reg.ASY_ASSAY_EXT.DONE 0 = (s.rd Reg.ASY_ASSAY_EXT.DONE 0 + 1) % 2 ^ Reg.ASY_ASSAY_EXT.DONE.width ∧
        (∃ z, t.asy.run = some z ∧ z.cur = none ∧ z.next = e + 1 ∧ z.extents = r.extents + 1) ∧
        (∀ y, Tab.find e s.asy.seals = some y → r.sealLost = false → y.unknown = false → (y.fold ≠ r.fold ∨ y.records ≠ r.count) →
          t.rd Reg.ASY_EVENT.FINDING 0 = 1 ∧
          t.rd Reg.ASY_ASSAY_FIND.COUNT 0 = min (s.rd Reg.ASY_ASSAY_FIND.COUNT 0 + 1) (2 ^ Reg.ASY_ASSAY_FIND.COUNT.width - 1))) ∧
    (∀ (s : State) (r : AssayRun), s.asy.run = some r → r.paused = false → r.scope = 0 → r.batches + 1 ≤ s.rd Reg.SCV_BATCH_SEQ.BATCH 0 →
      Gives (.assayBatchCheck .good) s (fun t => ∃ z, t.asy.run = some z ∧ z.batches = r.batches + 1 ∧ z.counts = r.counts) ∧
      Gives (.assayBatchCheck .root) s fun t => (∃ z, t.asy.run = some z ∧ z.batches = r.batches + 1) ∧ t.rd Reg.ASY_EVENT.FINDING 0 = 1 ∧
        t.rd Reg.ASY_ASSAY_FIND.COUNT 0 = min (s.rd Reg.ASY_ASSAY_FIND.COUNT 0 + 1) (2 ^ Reg.ASY_ASSAY_FIND.COUNT.width - 1)) ∧
    (∀ (s : State) (r : AssayRun), s.asy.run = some r → r.paused = false → r.cur = none → s.runExtent r = none → r.scope ≠ 0 →
      Gives .assayRunEnd s fun t => t.asy.run = none ∧ t.rd Reg.ASY_EVENT.ASSAY_DONE 0 = 1 ∧ { r with finish := s.ticks, endCode := 1 } ∈ t.asy.reports))

/-- RELEASE_EXTENTS (08, R332–R334): an admitted list's extents become RELEASE_PENDING, get or lose HOLD, and the command waits for the commit and stays
exclusive; QUERY answers at once with the number of extents. -/
def Obligations.ReleaseExtentsCommands : Prop :=
  (∀ (f : Fn) (q : Q) (l : List (BitVec 32)) (s : State) (x : FEntry), ReleaseCmd s f q 1 l x →
    Gives (.releaseExtentsRelease f q l) s fun t => t.set.excl = true ∧ ∀ e ∈ l, (t.ext e.toNat).st = .releasePending) ∧
  (∀ (f : Fn) (q : Q) (l : List (BitVec 32)) (s : State) (x : FEntry), ReleaseCmd s f q 2 l x →
    Gives (.releaseExtentsHoldSet f q l) s fun t => t.set.excl = true ∧ t.regs = s.regs ∧ ∀ e ∈ l, (t.ext e.toNat).hold = true) ∧
  (∀ (f : Fn) (q : Q) (l : List (BitVec 32)) (s : State) (x : FEntry), ReleaseCmd s f q 3 l x →
    Gives (.releaseExtentsHoldClear f q l) s fun t => t.set.excl = true ∧ t.regs = s.regs ∧ ∀ e ∈ l, (t.ext e.toNat).hold = false) ∧
  (∀ (f : Fn) (q : Q) (l : List (BitVec 32)) (s : State) (x : FEntry), ReleaseCmd s f q 4 l x → CqOpen s f q →
    Gives (.releaseExtentsQuery f q l) s fun t => Answered s t f q x Status.SUCCESS l.length 0xFFFFFFFF ∧ t.key = s.key)

/-- Sources and instances of the random number generator (09, R345–R356): a source that fails is EXCLUDED, at its third failure DEAD, and the pool is
discarded; in RUN, a fall of LIVE below setting 0x0033 is ERROR with every instance erased; a retry is a STARTUP, a pass is LIVE; a block enters the
pool of 16; instances are instantiated from two blocks and reseeded from one. Requests and raw mode (09, R352–R358, R361): GET_RANDOM waits for
instance 2, or ends with ENTROPY_UNAVAILABLE in ERROR; a generate call counts itself and its bytes and, when it delivers the last byte asked for,
completes the request; RNG_CTRL.RESEED names instances; RAW is entered in BLANK and PROVISIONED only, and left to START; a raw read takes the FIFO's
next word. Model's readings: log entry 65. -/
def Obligations.RngCommands : Prop :=
  ((∀ (src : Fin 12) (rct apt : Bool) (s : State), (s.srcState src.val = 1 ∨ s.srcState src.val = 2) → (rct || apt) = true →
      Gives (.rngSourceFail src rct apt) s fun t => t.srcState src.val = (if 2 ≤ s.rd Reg.RNG_SRC_FAILS.COUNT src.val then 4 else 3) ∧
        t.rd Reg.RNG_SRC_FAILS.COUNT src.val = min 3 (s.rd Reg.RNG_SRC_FAILS.COUNT src.val + 1) ∧ t.rd Reg.RNG_STATUS.POOL 0 = 0 ∧
        t.rd Reg.RNG_EVENT.SRC_FAIL 0 = 1 ∧ (s.rngState = 2 → s.srcState src.val = 2 → s.srcCount 2 ≤ s.setting 0x0033 → t.rngState = 3 ∧
          t.rd Reg.RNG_STATUS.INST 0 = 0 ∧ t.rd Reg.RNG_EVENT.ERROR 0 = 1)) ∧
    (∀ (src : Fin 12) (s : State), s.rngState ≠ 0 →
      (s.srcState src.val = 3 → exec (.rngSourceRetry src) s = .next (s.wr Reg.RNG_SRC_STATUS.STATE src.val 1)) ∧
      (s.srcState src.val = 1 → Gives (.rngStartupPass src) s fun t => t.srcState src.val = 2)) ∧
    (∀ s : State, s.rngState ≠ 0 → s.srcCount 2 ≠ 0 → s.rd Reg.RNG_STATUS.POOL 0 < 16 →
      exec .rngBlockReady s = .next (s.wr Reg.RNG_STATUS.POOL 0 (s.rd Reg.RNG_STATUS.POOL 0 + 1))) ∧
    (∀ (i : Fin 4) (s : State), (s.rngState = 1 ∨ s.rngState = 2) → s.instReady i.val = false → 2 ≤ s.rd Reg.RNG_STATUS.POOL 0 →
      Gives (.rngInstantiate i) s fun t => t.instReady i.val = true ∧ t.rd Reg.RNG_INST.READY i.val = 1 ∧ t.rd Reg.RNG_INST.COUNTER i.val = 0 ∧
        t.rd Reg.RNG_STATUS.POOL 0 = (s.rd Reg.RNG_STATUS.POOL 0 - 2) % 2 ^ Reg.RNG_STATUS.POOL.width) ∧
    (∀ (i : Fin 4) (s : State), (s.rngState = 1 ∨ s.rngState = 2) → s.instReady i.val = true → s.reseedDue i.val = true →
      s.rd Reg.RNG_STATUS.POOL 0 ≠ 0 →
      Gives (.rngReseed i) s fun t => t.rd Reg.RNG_INST.COUNTER i.val = 0 ∧
        t.rd Reg.RNG_STATUS.POOL 0 = (s.rd Reg.RNG_STATUS.POOL 0 - 1) % 2 ^ Reg.RNG_STATUS.POOL.width ∧ t.rng.reqs = s.rng.reqs)) ∧
  ((∀ (f : Fn) (q : Q) (s : State) (x : FEntry), Fetched s f q 8 x → s.power = 0 → s.ioLifecycle 8 = none → x.e.length.toNat ≠ 0 →
      onlyBytes x.e [] = true →
      (s.rngState ≠ 3 → Gives (.getRandom f q) s fun t => t.rd Reg.RNG_INST.WAITING 2 = 1 ∧
        ∃ r, t.rng.reqs = s.rng.reqs ++ [r] ∧ r.who = .host f.val q.val x.e.cid.toNat x.sg ∧ r.want = x.e.length.toNat ∧ r.given = 0) ∧
      (s.rngState = 3 → CqOpen s f q → Gives (.getRandom f q) s fun t => Answered s t f q x Status.ENTROPY_UNAVAILABLE 0 0)) ∧
    (∀ (i : Fin 4) (n : Fin 4097) (how : LinkEnd) (s : State), s.rngState = 2 → s.instReady i.val = true → s.reseedDue i.val = false → i.val < 2 →
      n.val ≠ 0 → Gives (.rngGenerateCall i n how) s fun t =>
        t.rd Reg.RNG_INST.COUNTER i.val = (s.rd Reg.RNG_INST.COUNTER i.val + 1) % 2 ^ Reg.RNG_INST.COUNTER.width ∧
        t.rd Reg.RNG_BYTES.BYTES 0 = (s.rd Reg.RNG_BYTES.BYTES 0 + n.val) % 2 ^ Reg.RNG_BYTES.BYTES.width) ∧
    (∀ (n : Fin 4097) (s : State) (r : RandReq) (f : Fn) (q : Q) (cid : Nat) (sg : List (Nat × Nat)), s.rngState = 2 → s.instReady 2 = true →
      s.reseedDue 2 = false → s.randReq 3 = none → s.randReq 2 = some r → r.who = .host f.val q.val cid sg → r.want ≤ r.given + 4096 → CqOpen s f q →
      Gives (.rngGenerateCall 2 n .ok) s fun t => t.rng.reqs = s.rng.reqs.erase r ∧
        Out.cqe f.val q.val (s.rd Reg.QSTATUS.CQTAIL (qix f.val q.val)) 0 0 cid Status.SUCCESS (s.qrt f.val q.val).phase ∈ t.out) ∧
    (∀ (m : Fin 16) (mask : BitVec 4) (s : State), Admitted s m 0x40700004 →
      Gives (.rngCtrlReseed m mask) s fun t => t.regs = s.regs ∧
        ∀ i < 4, (i ∈ t.rng.named ↔ mask.getLsbD i = true ∨ i ∈ s.rng.named)) ∧
    (∀ (m : Fin 16) (v : BitVec 32) (s : State), Admitted s m 0x40700400 →
      (v.getLsbD 31 = true → s.rd Reg.RNG_RAW_CTRL.EN 0 = 0 → s.lifecycle ≤ 1 → 1 ≤ s.rngState → s.rngState ≤ 3 →
        Gives (.rngRawCtrlWrite m v) s fun t => t.rngState = 4 ∧ t.rd Reg.RNG_RAW_CTRL.EN 0 = 1 ∧ t.rd Reg.RNG_STATUS.INST 0 = 0) ∧
      (v.getLsbD 31 = true → s.rd Reg.RNG_RAW_CTRL.EN 0 = 0 → 1 < s.lifecycle →
        Gives (.rngRawCtrlWrite m v) s fun t => t.rngState = s.rngState ∧ t.rd Reg.RNG_RAW_CTRL.EN 0 = 0 ∧ t.rd Reg.RNG_RAW_STATUS.REFUSED 0 = 1) ∧
      (v.getLsbD 31 = false → s.rd Reg.RNG_RAW_CTRL.EN 0 = 1 → s.rngState = 4 →
        Gives (.rngRawCtrlWrite m v) s fun t => t.rngState = 1 ∧ t.rd Reg.RNG_RAW_CTRL.EN 0 = 0 ∧ t.rng.fifo = [])) ∧
    (∀ (m : Fin 16) (fresh : List (BitVec 32)) (s : State), s.mainOn = true → s.denied m.val 0x40700408 false = none →
      (s.rngState = 4 → s.rng.fifo.length + fresh.length ≤ 1024 →
        Gives (.rngRawDataRead m fresh) s fun t => t.rng.fifo = (s.rng.fifo ++ fresh.map BitVec.toNat).tail ∧
          Out.regRead m.val 0x40700408 ((s.rng.fifo ++ fresh.map BitVec.toNat).headD 0) ∈ t.out) ∧
      (s.rngState ≠ 4 → Gives (.rngRawDataRead m fresh) s fun t => t.rng = s.rng ∧ Out.regRead m.val 0x40700408 0 ∈ t.out)))

/-- Resets (00, R13; 10, R389, R390; 11, R410, R424; 19, R624): a cold reset whose self-test fails halts the boot with cause 1; one that finds fuses and
PUF good reaches step 4, with no queue active and no record left. RESET# is ignored in WATCH, held while PWR_FAIL# is asserted, and otherwise (outside
SLEEP) a warm reset; ADMIN_RESET is one with the key 0xA5C4 and WARM = 1, and nothing otherwise; the end of PWR_FAIL# restarts the device. Model's
readings: log entry 32. -/
def Obligations.ResetCommands : Prop :=
  (∀ (c : ColdStart) (s : State), c.selfTest = false →
    Gives (.coldReset c) s fun t => t.bootMode = 2 ∧ t.rd Reg.PTR_STATUS.HALT 0 = 1 ∧ t.rd Reg.DEV_STATUS.ADMIN_READY 0 = 1) ∧
  (∀ (c : ColdStart) (s : State), c.selfTest = true → c.marginal = [] → c.puf = true →
    Gives (.coldReset c) s (fun t => t.rd Reg.PTR_STATUS.STAGE 0 = 4 ∧ t.rd Reg.OTP_STATUS.READ_DONE 0 = 1 ∧ t.led.recs = [] ∧
      (∀ f q, t.qActive f q = false) ∧ t.power = 0 ∧ t.cfg.boot = 1) ∧
    Gives (.aonReset c) s fun t => t.rd Reg.PTR_STATUS.STAGE 0 = 4 ∧ t.rd Reg.AON_STATUS.AONPOR 0 = 1 ∧ t.key.secretS = 0 ∧ t.cfg.boot = 1) ∧
  (∀ s : State, (s.aon.watch = true → exec .resetPin s = .next s) ∧
    (s.aon.watch = false → s.isSet Reg.AON_STATUS.PWR_FAIL 0 = true → exec .resetPin s = .next { s with aon.heldReset := true }) ∧
    (s.aon.watch = false → s.isSet Reg.AON_STATUS.PWR_FAIL 0 = false → s.power ≠ 2 → Gives .resetPin s fun t =>
      t.rd Reg.PTR_STATUS.STAGE 0 = 4 ∧ t.cfg.boot = 2 ∧ t.led.recs = [] ∧ ∀ f q, t.qActive f q = false)) ∧
  (∀ (m : Fin 16) (v : BitVec 32) (s : State), Admitted s m 0x40080080 →
    (v.toNat / 2 ^ 16 = 0xA5C4 → v.getLsbD 0 = true → Gives (.adminReset m v) s fun t => t.rd Reg.PTR_STATUS.STAGE 0 = 4 ∧ t.cfg.boot = 2) ∧
    ((v.toNat / 2 ^ 16 ≠ 0xA5C4 ∨ v.getLsbD 0 = false) → exec (.adminReset m v) s = .next s)) ∧
  (∀ s : State, s.isSet Reg.AON_STATUS.PWR_FAIL 0 = true →
    (s.mainOn = true → Gives .pwrFailRestart s fun t => t.rd Reg.PTR_STATUS.STAGE 0 = 4 ∧ t.cfg.boot = 2) ∧
    (s.mainOn = false → s.aon.heldReset = false → exec .pwrFailRestart s = .next (s.wr Reg.AON_STATUS.PWR_FAIL 0 0)))

/-- The boot from step 5 (10, R368–R372, R389–R391; 05, R217): an unreadable boot record halts with cause 5; where neither copy verifies the mode is
IMAGE_RECOVERY and both reasons are shown; an image whose Keeper section is installed already or installs takes the boot to step 12; then drives are
waited for, and the restored table ends the boot ready, or read-only where a rollback condition holds. Model's readings: log entry 31. -/
def Obligations.BootCommands : Prop :=
  (∀ (r : PorterRead) (s : State), s.cfg.boot ≠ 0 → s.rd Reg.PTR_STATUS.STAGE 0 = 4 →
    (r.record = false → Gives (.porterCopyRead r) s fun t => t.bootMode = 2 ∧ t.rd Reg.PTR_STATUS.HALT 0 = 5) ∧
    (r.record = true → s.copyReason r.a ≠ 0 → s.copyReason r.b ≠ 0 → Gives (.porterCopyRead r) s fun t => t.bootMode = 1 ∧
      t.rd Reg.PTR_STATUS.AREASON 0 = s.copyReason r.a ∧ t.rd Reg.PTR_STATUS.BREASON 0 = s.copyReason r.b ∧
      t.rd Reg.DEV_STATUS.ADMIN_READY 0 = 1) ∧
    (∀ i, r.record = true → s.copyReason r.a = 0 → s.copyReason r.b ≠ 0 → r.a.image = some i →
      (i.keeper.digest = s.cfg.record.keeper.1 ∨ r.keeperOk = true) →
      Gives (.porterCopyRead r) s fun t => t.rd Reg.PTR_STATUS.STAGE 0 = 12)) ∧
  (∀ s : State, s.cfg.boot ≠ 0 → s.rd Reg.PTR_STATUS.STAGE 0 = 12 → Gives .mediaWaitEnd s fun t => t.rd Reg.PTR_STATUS.STAGE 0 = 13) ∧
  (∀ (r : TableRead) (s : State), s.cfg.boot ≠ 0 → s.rd Reg.PTR_STATUS.STAGE 0 = 13 →
    Gives (.extentTableRestore r) s fun t => t.rd Reg.PTR_STATUS.STAGE 0 = 15 ∧ t.rd Reg.DEV_STATUS.ADMIN_READY 0 = 1 ∧ t.cfg.boot = 0 ∧
      (s.rollbackCause r ≠ 0 → t.rd Reg.DEV_STATUS.ARCHIVE_RO 0 = 1 ∧ t.rd Reg.EXT_EVENT.ROLLBACK 0 = 1) ∧
      (s.rollbackCause r = 0 → t.rd Reg.EXT_STATUS.TABLE_VALID 0 = 1))

/-- WRITE_CONFIG_IMAGE and the fuses read again (10, R380–R382, R387): BEGIN opens the session and marks its copy written; WRITE adds its 4 KiB units;
FINISH of what verifies closes it and empties the settings journal, of what does not answers the reason; ABORT closes it without success. A fuse read
sets OTP_EVENT.REREAD_DONE. Model's readings: log entry 40. -/
def Obligations.ConfigImageCommands : Prop :=
  (∀ (f : Fn) (q : Q) (s : State) (x : FEntry), ConfigCmd s f q 1 x →
    Gives (.writeConfigImageBegin f q true) s fun t => t.cfg.session = some ⟨x.e.bytes 33 1, x.e.bytes 40 4, false, []⟩ ∧
      t.rd Reg.PTR_SESSION.OPEN 0 = 1 ∧ t.rd (if x.e.bytes 33 1 = 0 then Reg.PTR_STATUS.A_WRITTEN else Reg.PTR_STATUS.B_WRITTEN) 0 = 1) ∧
  (∀ (f : Fn) (q : Q) (s : State) (x : FEntry) (w : WSession), ConfigCmd s f q 2 x → s.cfg.session = some w →
    Gives (.writeConfigImageWrite f q true) s fun t => ∃ v, t.cfg.session = some v ∧ v.target = w.target ∧ v.total = w.total ∧
      (x.e.bytes 36 4 = 0 → x.e.length.toNat ≠ 0 → v.hdr = true) ∧
      ∀ k, k ∈ v.written ↔ k ∈ w.written ∨ (x.e.bytes 36 4 / 4096 ≤ k ∧ k < x.e.bytes 36 4 / 4096 + x.e.length.toNat / 4096)) ∧
  (∀ (f : Fn) (q : Q) (c : CopyRead) (s : State) (x : FEntry) (w : WSession), ConfigCmd s f q 3 x → s.cfg.session = some w →
    (w.hdr = true → s.copyReason c = 0 → Gives (.writeConfigImageFinish f q c true) s fun t => t.cfg.session = none ∧ t.set.journal = [] ∧
      t.rd Reg.PTR_EVENT.WRITE_DONE 0 = 1) ∧
    (w.hdr = true → s.copyReason c ≠ 0 → CqOpen s f q → Gives (.writeConfigImageFinish f q c true) s fun t => t.cfg.session = none ∧
      t.rd Reg.PTR_EVENT.WRITE_FAIL 0 = 1 ∧ Answered s t f q x Status.IMAGE_INVALID 0 (s.copyReason c))) ∧
  (∀ (f : Fn) (q : Q) (s : State) (x : FEntry) (w : WSession), ConfigCmd s f q 4 x → s.cfg.session = some w →
    Gives (.writeConfigImageAbort f q) s fun t => t.cfg.session = none ∧ t.rd Reg.PTR_EVENT.WRITE_FAIL 0 = 1 ∧ t.rd Reg.PTR_SESSION.OPEN 0 = 0) ∧
  (∀ (r : FuseRead) (s : State), s.mainOn = true → s.isSet Reg.OTP_STATUS.READ_DONE 0 = true → s.isSet Reg.KPR_STATUS.HALTED 0 = false →
    Gives (.fuseRereadTimer r) s fun t => t.rd Reg.OTP_EVENT.REREAD_DONE 0 = 1) ∧
  (∀ (m : Fin 16) (r : FuseRead) (s : State), Admitted s m 0x40F03060 → Gives (.otpReread m r) s fun t => t.rd Reg.OTP_EVENT.REREAD_DONE 0 = 1)

/-- Power states and the loss of power (01, R39; 05, R215; 11, R410–R415, R431): PWR_FAIL# is recorded, with its event in ACTIVE and READY, and ignored in
WATCH; the fall of PWR_GOOD ends in WATCH. SET_POWER_STATE waits while an item is under way, with the calendar armed; the row run again once the work
is done ends in the target state; a refused one answers why. Wakes (11, R416–R421): WAKE# starts one with cause 1; the steps follow one another; the
PLLs' lock ends it in READY, or releases the Keeper; a step that times out is counted and tried again, the fourth failure ends the wake with its
result; PWR_FAIL# ends it with result 4. Clocks, supplies and the calendar (11, R404–R409, R417, R421–R428): a lost clock holds the main domain and
starts the clocks again; XTAL32's failure and retry move the counter's source and TIME_DEGRADED; the trim and the failure counters are written; a
change of supply is logged, counted and dwelt on; a deadline that is reached disarms the calendar and drives WAKE# where setting 0x6001 asks for it; a
crossing's overrun is recorded; gating within a power state changes nothing. Model's readings: log entry 63. -/
def Obligations.PowerCommands : Prop :=
  ((∀ s : State, s.aon.wake = none →
      (s.mainOn = true → Gives .pwrFail s fun t => t.rd Reg.AON_STATUS.PWR_FAIL 0 = 1 ∧ t.rd Reg.AON_EVENT.PWR_FAIL 0 = 1 ∧
        t.rd Reg.EXT_STATUS.PERSIST_BUSY 0 = 0 ∧ t.key.persistNow = false) ∧
      (s.mainOn = false → s.aon.watch = false → Gives .pwrFail s fun t => t.rd Reg.AON_STATUS.PWR_FAIL 0 = 1 ∧ t.power = s.power) ∧
      (s.aon.watch = true → exec .pwrFail s = .next s)) ∧
    (∀ s : State, s.aon.pwrEn = true → Gives .pwrGoodFall s fun t => t.aon.watch = true ∧ t.rd Reg.SBD_STATUS.PWR_GOOD 0 = 0 ∧ t.aon.pwrEn = false) ∧
    (∀ (f : Fn) (q : Q) (s : State) (x : FEntry), Fetched s f q 0x82 x → s.aon.move = none → s.set.excl = false → s.powerRefused x.e = none →
      s.power = 0 → s.lane.items ≠ [] →
      Gives (.setPowerState f q) s fun t => t.aon.move = some ⟨x.e.bytes 32 1, s.ticks⟩ ∧ t.set.excl = true ∧ t.rd Reg.AON_CAL.ARMED 0 = 1) ∧
    (∀ (f : Fn) (q : Q) (s : State) (x : FEntry) (r : Nat × Nat × Nat), Fetched s f q 0x82 x → CqOpen s f q → s.aon.move = none → s.set.excl = false →
      s.powerRefused x.e = some r → Gives (.setPowerState f q) s fun t => Answered s t f q x r.1 r.2.1 r.2.2) ∧
    (∀ (f : Fn) (q : Q) (s : State) (m : Move), s.aon.move = some m → s.isSet Reg.AON_STATUS.PWR_FAIL 0 = false → s.moveReady m.target = true →
      Gives (.setPowerState f q) s fun t => t.aon.move = none ∧ (m.target ≤ 2 → t.power = m.target) ∧ (m.target = 3 → t.aon.watch = true)) ∧
    (∀ (p : Fin 2) (v : BitVec 32) (s : State), s.power = 2 → s.aon.watch = false → s.aon.wake = none → s.isSet Reg.AON_STATUS.PWR_FAIL 0 = false →
      (let f := if p.val = 0 then 0 else 128
       s.qActive f 0 = true ∧ s.isSet Reg.QCTRL.EN (qix f 0) = true ∧ v.toNat % 65536 < s.qDepth f 0) →
      Gives (.sleepAdminDoorbell p v) s fun t => (t.qrt (if p.val = 0 then 0 else 128) 0).sqTail = v.toNat % 65536 ∧ t.aon.wake ≠ none ∧
        t.rd Reg.AON_WAKE_STATUS.CAUSE 0 = 2)) ∧
  ((∀ s : State, s.isSet Reg.AON_STATUS.WAKE_DRIVE 0 = false →
      (s.mainOn = false → s.aon.wake = none → s.isSet Reg.AON_STATUS.PWR_FAIL 0 = false → Gives (.wakePin true) s fun t => t.aon.wake ≠ none ∧
        t.rd Reg.AON_WAKE_STATUS.CAUSE 0 = 1 ∧ t.rd Reg.AON_STATUS.WAKE_IN 0 = 1) ∧
      exec (.wakePin false) s = .next (s.wr Reg.AON_STATUS.WAKE_IN 0 0)) ∧
    (∀ s : State, s.aon.watch = true → s.aon.pwrEn = false → s.aon.wake = none → s.isSet Reg.AON_STATUS.PWR_FAIL 0 = false →
      Gives .pwrGoodUnasked s fun t => (∃ w, t.aon.wake = some w ∧ w.step = .crystal ∧ w.fromWatch = true) ∧ t.rd Reg.AON_WAKE_STATUS.CAUSE 0 = 4 ∧
        t.rd Reg.SBD_STATUS.PWR_GOOD 0 = 1) ∧
    (∀ (s : State) (w : Wake), s.aon.wake = some w →
      (w.step = .power → Gives .pwrGoodSeen s fun t => t.aon.wake = some { w with step := .crystal } ∧ t.rd Reg.SBD_STATUS.PWR_GOOD 0 = 1) ∧
      (w.step = .crystal → Gives .xtal25Running s fun t => t.aon.wake = some { w with step := .pll } ∧ t.rd Reg.AON_CLK_STATUS.XTAL25_OK 0 = 1) ∧
      (w.step = .pll → s.aon.clockLost = false → w.fromWatch = true → Gives .pllLocked s fun t => t.aon.wake = none ∧
        t.rd Reg.AON_WAKE_STATUS.RESULT 0 = 0 ∧ t.rd Reg.AON_EVENT.WAKE 0 = 1 ∧ t.power = s.power) ∧
      (w.step = .pll → s.aon.clockLost = false → w.fromWatch = false → s.aon.heldReset = false → s.tmp.lockDue = false → s.host.perstPending = [] →
        Gives .pllLocked s fun t => t.aon.wake = none ∧ t.power = 1) ∧
      (w.step = .power → w.power < 4 → Gives .pwrGoodTimeout s fun t => t.aon.pwrEn = false ∧ t.aon.wake = some { w with step := .powerWait, power := w.power + 1 } ∧
        t.rd Reg.AON_WAKE_FAILS.PWR 0 = min (s.rd Reg.AON_WAKE_FAILS.PWR 0 + 1) (2 ^ Reg.AON_WAKE_FAILS.PWR.width - 1)) ∧
      (w.step = .power → 4 ≤ w.power → Gives .pwrGoodTimeout s fun t => t.aon.wake = none ∧ t.rd Reg.AON_WAKE_STATUS.RESULT 0 = 1 ∧
        t.rd Reg.AON_EVENT.PWR_TIMEOUT 0 = 1) ∧
      (w.step = .crystal → w.crystal < 4 → Gives .xtal25Timeout s fun t => t.aon.wake = some { w with step := .crystalWait, crystal := w.crystal + 1 }) ∧
      (w.step = .crystal → 4 ≤ w.crystal → Gives .xtal25Timeout s fun t => t.aon.wake = none ∧ t.rd Reg.AON_WAKE_STATUS.RESULT 0 = 2 ∧
        t.rd Reg.AON_EVENT.XTAL_TIMEOUT 0 = 1) ∧
      (w.step = .pll → w.pll < 4 → Gives .pllTimeout s fun t => t.aon.wake = some { w with pll := w.pll + 1 }) ∧
      (w.step = .pll → 4 ≤ w.pll → Gives .pllTimeout s fun t => t.aon.wake = none ∧ t.rd Reg.AON_WAKE_STATUS.RESULT 0 = 3 ∧
        t.rd Reg.AON_EVENT.PLL_TIMEOUT 0 = 1) ∧
      (w.step = .powerWait → Gives .wakeRetryWaitEnd s fun t => t.aon.wake = some { w with step := .power } ∧ t.aon.pwrEn = true) ∧
      (w.step = .crystalWait → Gives .wakeRetryWaitEnd s fun t => t.aon.wake = some { w with step := .crystal }) ∧
      Gives .wakeAbort s fun t => t.aon.wake = none ∧ t.rd Reg.AON_WAKE_STATUS.RESULT 0 = 4)) ∧
  ((∀ s : State, s.mainOn = true → Gives .clockLoss s fun t => t.aon.clockLost = true ∧ t.key.clean = false ∧ t.rd Reg.AON_CLK_STATUS.XTAL25_OK 0 = 0 ∧
      ∃ w, t.aon.wake = some w ∧ w.step = .crystal ∧ w.fromWatch = false) ∧
    (∀ s : State, s.isSet Reg.AON_STATUS.RC_ACTIVE 0 = false → Gives .xtal32Fail s fun t => t.rd Reg.AON_STATUS.RC_ACTIVE 0 = 1 ∧
      t.rd Reg.AON_STATUS.XTAL32_OK 0 = 0 ∧ t.rd Reg.DEV_STATUS.TIME_DEGRADED 0 = 1 ∧ t.rd Reg.AON_EVENT.XTAL32_FAIL 0 = 1) ∧
    (∀ (m : Fin 16) (s : State), Admitted s m 0x40E00040 →
      (s.isSet Reg.AON_CLK_STATUS.XTAL25_OK 0 = true → s.isSet Reg.AON_STATUS.RC_ACTIVE 0 = true → Gives (.xtal32Retry m true) s fun t =>
        t.rd Reg.AON_STATUS.RC_ACTIVE 0 = 0 ∧ t.rd Reg.AON_STATUS.XTAL32_OK 0 = 1 ∧ t.rd Reg.DEV_STATUS.TIME_DEGRADED 0 = 0) ∧
      exec (.xtal32Retry m false) s = .next s ∧
      Gives (.clearFails m) s fun t => t.rd Reg.AON_WAKE_FAILS.PWR 0 = 0 ∧ t.rd Reg.AON_WAKE_FAILS.XTAL 0 = 0 ∧ t.rd Reg.AON_WAKE_FAILS.PLL 0 = 0 ∧
        t.rd Reg.AON_WAKE_FAILS.XTAL32 0 = 0 ∧ t.aon.fails = (0, 0, 0, 0)) ∧
    (∀ (ppm : BitVec 16) (s : State), s.isSet Reg.AON_CLK_STATUS.XTAL25_OK 0 = true →
      exec (.rc32Trim ppm) s = .next (s.wr Reg.AON_CLK_STATUS.RC_PPM 0 ppm.toNat)) ∧
    (∀ (a b : BitVec 16) (s : State), s.isSet Reg.AON_STATUS.SOURCE 0 = false →
      Gives (.supplyToVbat a b) s fun t => t.rd Reg.AON_STATUS.SOURCE 0 = 1 ∧ t.rd Reg.AON_STATUS.DWELL 0 = 1 ∧ t.rd Reg.AON_EVENT.TO_VBAT 0 = 1 ∧
        t.rd Reg.AON_SWITCH.COUNT 0 = min (s.rd Reg.AON_SWITCH.COUNT 0 + 1) (2 ^ Reg.AON_SWITCH.COUNT.width - 1)) ∧
    (∀ s : State, s.isSet Reg.AON_STATUS.DWELL 0 = true →
      exec .dwellEnd s = .next ((s.wr Reg.AON_STATUS.DWELL 0 0).wr Reg.AON_STATUS.QUALIFY 0 1)) ∧
    (∀ (a b : BitVec 16) (s : State), s.isSet Reg.AON_STATUS.QUALIFY 0 = true →
      Gives (.supplyToVaon a b) s fun t => t.rd Reg.AON_STATUS.SOURCE 0 = 0 ∧ t.rd Reg.AON_STATUS.QUALIFY 0 = 0 ∧ t.rd Reg.AON_EVENT.TO_VAON 0 = 1 ∧
        t.rd Reg.AON_SUPPLY.VAON 0 = a.toNat) ∧
    (∀ (v : BitVec 16) (s : State), v.toNat < s.setting 0x6002 → Gives (.vbatWarn v) s fun t => t.rd Reg.AON_EVENT.VBAT_WARN 0 = 1 ∧
      t.rd Reg.AON_SUPPLY.VBAT 0 = v.toNat) ∧
    (∀ s : State, s.isSet Reg.AON_CAL.ARMED 0 = true → (s.mainOn = false ∨ s.power ≠ 0) → s.rd Reg.AON_CAL.DEADLINE 0 ≤ s.ticks →
      Gives .calendarDeadline s fun t => t.rd Reg.AON_CAL.ARMED 0 = 0 ∧ t.rd Reg.AON_EVENT.REFRESH_DUE 0 = 1 ∧
        (s.setting 0x6001 = 1 → s.mainOn = false → t.rd Reg.AON_STATUS.WAKE_DRIVE 0 = 1 ∧ Out.pin "WAKE#" false ∈ t.out)) ∧
    (∀ s : State, s.isSet Reg.AON_STATUS.WAKE_DRIVE 0 = true → Gives .wakePulseEnd s fun t => t.rd Reg.AON_STATUS.WAKE_DRIVE 0 = 0 ∧
      Out.pin "WAKE#" true ∈ t.out) ∧
    (∀ (c : Fin 5) (p : Port) (s : State), Gives (.eventCrossingOverrun c p) s fun t => t.rd Reg.AON_EVENT.OVERRUN 0 = 1 ∧
      (c = 0 → t.rd Reg.AON_CDC_OVR.HOST 0 = 1) ∧ (c = 1 → t.rd Reg.AON_CDC_OVR.MEDIA 0 = 1 ∧ t.rd Reg.MPX_EVENT.OVERRUN 0 = 1) ∧
      (c = 2 → t.rd Reg.AON_CDC_OVR.FROM_AON 0 = 1) ∧ (c = 3 → t.rd Reg.AON_CDC_OVR.TO_AON 0 = 1) ∧ (c = 4 → t.rd Reg.AON_CDC_OVR.SVC 0 = 1)) ∧
    (∀ s : State, exec .crossingWakeBurst s = .next s))

/-- The register operations of Apulrum (12, R440–R442, R444): each writes its value to rd (a write to g0 is discarded) and goes on at pc + 4; no flag, no
other register and nothing outside the core changes. CLZ, POPC and BSWAP with rs2 ≠ 0 and shifts with imm[15:5] ≠ 0 raise ILLEGAL. The divisions (12,
R441, R442): DIV of 0x8000_0000 by −1 gives 0x7FFF_FFFF and REM 0; a divisor of 0 raises DIVIDE and writes nothing. Model's readings: log entry 87. -/
def Obligations.RegisterOperations : Prop :=
  (∀ (c : CoreId) (e : Ecc) (rd rs1 : G) (s : State), Fetches s c e →
      let x := s.core c.val;
      (∀ p, RegOp p → ∀ rs2, Gives (p.1 c e rd rs1 rs2) s fun t => Commits s t c (x.pc + 4) (x.sg rd (p.2 (x.rg rs1) (x.rg rs2)))) ∧
      (∀ p, UnaryOp p → Gives (p.1 c e rd rs1 0) s fun t => Commits s t c (x.pc + 4) (x.sg rd (p.2 (x.rg rs1)))) ∧
      (∀ p, ImmOp p → ∀ imm, Gives (p.1 c e rd rs1 imm) s fun t => Commits s t c (x.pc + 4) (x.sg rd (p.2 (x.rg rs1) imm))) ∧
      (∀ p, ShiftOp p → ∀ imm : Imm16, imm.toNat < 32 →
        Gives (p.1 c e rd rs1 imm) s fun t => Commits s t c (x.pc + 4) (x.sg rd (p.2 (x.rg rs1) imm.toNat))) ∧
      (x.Calm →
        (∀ p, UnaryOp p → ∀ rs2, rs2 ≠ 0 → Gives (p.1 c e rd rs1 rs2) s fun t => Raises s t c 1 none) ∧
        (∀ p, ShiftOp p → ∀ imm : Imm16, 32 ≤ imm.toNat → Gives (p.1 c e rd rs1 imm) s fun t => Raises s t c 1 none))) ∧
  (∀ (c : CoreId) (e : Ecc) (rd rs1 rs2 : G) (s : State), Fetches s c e → ∀ p, DivOp p →
      let x := s.core c.val;
      (x.rg rs2 ≠ 0 → Gives (p.1 c e rd rs1 rs2) s fun t => Commits s t c (x.pc + 4) (x.sg rd (p.2 (x.rg rs1) (x.rg rs2)))) ∧
      (x.rg rs2 = 0 → x.Calm → Gives (p.1 c e rd rs1 rs2) s fun t => Raises s t c 11 none))

/-- R446. B-format branches compare ra with rb and, if the condition holds, jump to pc + sx(offset) × 4, pc being the address of the branch itself;
otherwise they go on at pc + 4. J and CALL jump to pc + sx(offset) × 4, CALL writing pc + 4 to g1; a J with offset 0 loops on itself. Nothing else
changes. CALLR (12, R442): rd receives the address of the next instruction, and the jump goes to rs1, as it was before, with bits [1:0] cleared. -/
def Obligations.BranchesAndJumps : Prop :=
  (∀ (c : CoreId) (e : Ecc) (s : State), Fetches s c e →
      let x := s.core c.val;
      (∀ p, BranchOp p → ∀ (ra rb : G) (off : Imm16),
        (p.2 (x.rg ra) (x.rg rb) → Gives (p.1 c e ra rb off) s fun t => Commits s t c (x.pc + off.signExtend 32 * 4) x) ∧
        (¬ p.2 (x.rg ra) (x.rg rb) → Gives (p.1 c e ra rb off) s fun t => Commits s t c (x.pc + 4) x)) ∧
      (∀ off : BitVec 26, Gives (.isaJ c e off) s fun t => Commits s t c (x.pc + off.signExtend 32 * 4) x) ∧
      (∀ off : BitVec 26, Gives (.isaCall c e off) s fun t => Commits s t c (x.pc + off.signExtend 32 * 4) { x with g := x.g.set 1 (x.pc + 4) }) ∧
      (Gives (.isaJ c e 0) s fun t => (t.core c.val).pc = x.pc)) ∧
  (∀ (c : CoreId) (e : Ecc) (rd rs1 rs2 : G) (s : State), Fetches s c e →
      Gives (.isaCallr c e rd rs1 rs2) s fun t =>
        Commits s t c ((s.core c.val).rg rs1 &&& 0xFFFFFFFC) ((s.core c.val).sg rd ((s.core c.val).pc + 4)))

/-- Loads, stores and CSWP (12, R445): in the core's TCM, where the MPU admits the access, a load gives the bytes at base + sx(offset), extended as its
form says, and stores nothing; a store writes exactly the bytes of its width there; CSWP gives the word at rs1 and stores rs2 where that word was rd.
A misaligned access raises ALIGN with its address, and nothing is accessed. An uncorrectable error of a load raises MEMORY_ERROR. Model's readings:
log entry 87. -/
def Obligations.MemoryInstructions : Prop :=
  ∀ (c : CoreId) (e : Ecc) (rt base : G) (off : Imm16) (s : State), Fetches s c e → (s.core c.val).posted = [] →
    let x := s.core c.val;
    let a := x.rg base + off.signExtend 32;
    (∀ p, LoadOp p → a.toNat % p.2.1 = 0 → ownTcm c.val a.toNat = true → s.mpuCause c.val a.toNat 1 = none → e = .ok →
      Gives (p.1 c e rt base off) s fun t =>
        Commits s t c (x.pc + 4) (x.sg rt (p.2.2 (ofBytes ((List.range p.2.1).map fun i => s.peekByte c.val (a.toNat + i)))))) ∧
    (s.memWf = true → ∀ p, StoreOp p → a.toNat % p.2 = 0 → ownTcm c.val a.toNat = true → s.mpuCause c.val a.toNat 2 = none →
      Gives (p.1 c e rt base off) s fun t =>
        (∀ b : Nat, 0x10000000 ≤ b → b ≤ 0x1007FFFF → t.peekByte c.val b =
          if a.toNat ≤ b ∧ b < a.toNat + p.2 then (x.rg rt).toNat / 256 ^ (b - a.toNat) % 256 else s.peekByte c.val b) ∧
        Commits s t c (x.pc + 4) { x with tcm := (t.core c.val).tcm }) ∧
    (x.Calm →
      (∀ p, LoadOp p → a.toNat % p.2.1 ≠ 0 → Gives (p.1 c e rt base off) s fun t => Raises s t c 5 (some a)) ∧
      (∀ p, StoreOp p → a.toNat % p.2 ≠ 0 → Gives (p.1 c e rt base off) s fun t => Raises s t c 5 (some a)) ∧
      (c.val < 2 → e = .data → ∀ p, LoadOp p → a.toNat % p.2.1 = 0 → ownTcm c.val a.toNat = true → s.mpuCause c.val a.toNat 1 = none →
        Gives (p.1 c e rt base off) s fun t => Raises s t c 10 (some a))) ∧
    (∀ rd rs2 : G, s.memWf = true → (x.rg base).toNat % 4 = 0 → ownTcm c.val (x.rg base).toNat = true → s.mpuCause c.val (x.rg base).toNat 1 = none →
      s.mpuCause c.val (x.rg base).toNat 2 = none → e = .ok →
      let k := (x.rg base).toNat;
      let v := BitVec.ofNat 32 (ofBytes ((List.range 4).map fun i => s.peekByte c.val (k + i)));
      Gives (.isaCswp c e rd base rs2) s fun t =>
        (∀ b : Nat, 0x10000000 ≤ b → b ≤ 0x1007FFFF → t.peekByte c.val b =
          if v = x.rg rd ∧ k ≤ b ∧ b < k + 4 then (x.rg rs2).toNat / 256 ^ (b - k) % 256 else s.peekByte c.val b) ∧
        Commits s t c (x.pc + 4) ({ x with tcm := (t.core c.val).tcm }.sg rd v)) ∧
    (∀ rd rs2 : G, x.Calm → (x.rg base).toNat % 4 ≠ 0 → Gives (.isaCswp c e rd base rs2) s fun t => Raises s t c 5 (some (x.rg base)))

/-- System operations (12, R443; 13, R468, R477, R478): TRAP and BREAK take their exceptions; RETX restores pc, PRIV and IE; IDLE gates the core clock;
HOLD opens a window unless one is open; HOLDEND closes it; FENCE puts the MPU control last written in force. Below its privilege an operation raises
PRIVILEGED. Model's readings: log entries 28, 87. -/
def Obligations.SystemInstructions : Prop :=
  ∀ (c : CoreId) (e : Ecc) (s : State), Fetches s c e →
    let x := s.core c.val;
    (x.Calm → Gives (.isaTrap c e 0 0 0) s (fun t => Raises s t c 3 none) ∧ Gives (.isaBreak c e 0 0 0) s (fun t => Raises s t c 4 none)) ∧
    (x.posted = [] → Gives (.isaFence c e 0 0 0) s fun t => Commits s t c (x.pc + 4)
      (if c.val < 2 then { x with mpuEn := s.isSet Reg.MPU_CTRL.EN c.val, mpuPrivdef := s.isSet Reg.MPU_CTRL.PRIVDEF c.val } else x)) ∧
    (x.priv ≠ 0 →
      Gives (.isaRetx c e 0 0 0) s (fun t => Commits s t c x.epc
        { x with priv := x.ppriv, ie := x.pie, holdOpen := false, holdcnt := 0, df := false, impHold := x.impHold - 1 }) ∧
      Gives (.isaIflush c e 0 0 0) s (fun t => Commits s t c (x.pc + 4) x) ∧
      Gives (.isaHoldend c e 0 0 0) s (fun t => Commits s t c (x.pc + 4) { x with holdOpen := false, holdcnt := 0 }) ∧
      Gives (.isaIdle c e 0 0 0) s (fun t => Commits s t c (x.pc + 4) { x with holdOpen := false, holdcnt := 0, run := .idle }) ∧
      (∀ rs1 : G, 1 ≤ (x.rg rs1).toNat → (x.rg rs1).toNat ≤ 4096 → Gives (.isaHold c e 0 rs1 0) s fun t =>
        Commits s t c (x.pc + 4) { x with holdOpen := true } ∧ (x.holdOpen = false → (t.core c.val).holdcnt = (x.rg rs1).toNat)) ∧
      (∀ rs1 : G, x.Calm → ((x.rg rs1).toNat = 0 ∨ 4096 < (x.rg rs1).toNat) → Gives (.isaHold c e 0 rs1 0) s fun t => Raises s t c 1 none)) ∧
    (x.priv = 0 → x.Calm → ∀ i ∈ [Instr.isaRetx c e 0 0 0, .isaIdle c e 0 0 0, .isaIflush c e 0 0 0, .isaHold c e 0 1 0, .isaHoldend c e 0 0 0],
      Gives i s fun t => Raises s t c 2 none)

/-- Control registers (12, R451, R452): RDC reads the register, latching the high word of CYCLE or INSTRET; WRC writes it, a read-only one being left; an
unlisted number raises ILLEGAL, and one of the system's at U raises PRIVILEGED. Model's readings: log entry 87. -/
def Obligations.ControlRegisters : Prop :=
  ∀ (c : CoreId) (e : Ecc) (g rs1 : G) (s : State), Fetches s c e →
    let x := s.core c.val;
    (x.priv ≠ 0 → ∀ p ∈ [(1, x.epc), (2, x.ecause), (3, x.evbase), (5, x.dfsp), (7, x.scratch0), (8, x.scratch1), (0x11, BitVec.ofNat 32 x.cycleH),
        (0x13, BitVec.ofNat 32 x.instretH), (0x20, BitVec.ofNat 32 c.val), (0x22, BitVec.ofNat 32 x.epochAck), (0x30, BitVec.ofNat 32 x.wflags),
        (0x32, BitVec.ofNat 32 x.wexcLost)],
      Gives (.isaRdc c e g rs1 (BitVec.ofNat 16 p.1)) s fun t => Commits s t c (x.pc + 4) (x.sg g p.2)) ∧
    (Gives (.isaRdc c e g rs1 0x10) s fun t =>
      Commits s t c (x.pc + 4) ({ x with cycleH := x.cycle / 2 ^ 32 }.sg g (BitVec.ofNat 32 x.cycle))) ∧
    (x.priv ≠ 0 → let v := x.rg rs1;
      ∀ p ∈ [(1, { x with epc := v &&& 0xFFFFFFFC }), (3, { x with evbase := v &&& 0xFFFFF000 }), (5, { x with dfsp := v }), (7, { x with scratch0 := v }),
        (8, { x with scratch1 := v }), (0x30, { x with wflags := v.toNat % 8 }), (0x32, { x with wexcLost := 0 }), (4, x), (0x10, x), (0x20, x), (0x21, x)],
      Gives (.isaWrc c e 0 rs1 (BitVec.ofNat 16 p.1)) s fun t => Commits s t c (x.pc + 4) p.2) ∧
    (x.Calm → ∀ n : Imm16, controlSystem n.toNat = none →
      Gives (.isaRdc c e g rs1 n) s (fun t => Raises s t c 1 none) ∧ Gives (.isaWrc c e 0 rs1 n) s fun t => Raises s t c 1 none) ∧
    (x.Calm → x.priv = 0 → ∀ n ∈ [(0 : Imm16), 1, 2, 3, 4, 5, 6, 7, 8, 0x21, 0x22, 0x31, 0x32],
      Gives (.isaRdc c e g rs1 n) s (fun t => Raises s t c 2 none) ∧ Gives (.isaWrc c e 0 rs1 n) s fun t => Raises s t c 2 none)

/-- The wide operations (12, R447–R449): each issues its value and the flags it names; with PAM = 0 it is in flight until WIDE_COMMIT writes its register
and flags, and nothing else; with PAM = 1 it commits with the instruction. WMODMUL with w7 = 0 and PAM = 1 raises WIDE_DOMAIN and writes nothing. WLD
and WST take 32 aligned bytes of TCM. Model's readings: log entries 87, 90. -/
def Obligations.WideInstructions : Prop :=
  (∀ (c : CoreId) (e : Ecc) (wd wa wb : W) (gr : G) (s : State), Fetches s c e →
    let x := s.core c.val;
    let v (r : W) : Wide := x.w[r.val];
    let z (r : Wide) : Nat := if r = 0 then 2 else 0;
    (∀ p, WideOper p → Gives (p.1 c e wd wa wb 0) s fun t => Issues s t c wd.val (p.2 (v wa) (v wb) x.wflags)) ∧
    (let r := v wa <<< ((x.rg gr).toNat % 256); Gives (.isaWshl c e wd wa 0 gr) s fun t => Issues s t c wd.val (r, 2, z r)) ∧
    (let r := v wa >>> ((x.rg gr).toNat % 256); Gives (.isaWshr c e wd wa 0 gr) s fun t => Issues s t c wd.val (r, 2, z r)) ∧
    (v 7 ≠ 0 → Gives (.isaWmodmul c e wd wa wb 0) s fun t =>
      Issues s t c wd.val (BitVec.ofNat 256 ((v wa).toNat * (v wb).toNat % (v 7).toNat), 0, 0)) ∧
    (v 7 = 0 → x.pam = true → x.Calm → Gives (.isaWmodmul c e wd wa wb 0) s fun t => Raises s t c 9 none) ∧
    (Gives (.isaWcmp c e 0 wa wb 0) s fun t =>
      Issues s t c 40 (0, 6, (if v wa = v wb then 2 else 0) + (if (v wa).toNat < (v wb).toNat then 4 else 0))) ∧
    (gr ≠ 0 → Gives (.isaWget c e 0 wa wb gr) s fun t => Issues s t c (8 + gr.val) ((v wa >>> (32 * wb.val)) &&& 0xFFFFFFFF, 0, 0)) ∧
    (Gives (.isaWput c e wd 0 wb gr) s fun t =>
      Issues s t c wd.val ((v wd &&& ~~~((0xFFFFFFFF : Wide) <<< (32 * wb.val))) ||| ((x.rg gr).setWidth 256 <<< (32 * wb.val)), 0, 0)) ∧
    (let k := (x.rg gr).toNat;
      k % 32 = 0 → ownTcm c.val k = true →
      (s.mpuCause c.val k 1 = none → e = .ok → Gives (.isaWld c e wd 0 0 gr) s fun t =>
        Issues s t c wd.val (BitVec.ofNat 256 (ofBytes ((List.range 32).map fun i => s.peekByte c.val (k + i))), 0, 0)) ∧
      (s.memWf = true → s.mpuCause c.val k 2 = none → Gives (.isaWst c e 0 wa 0 gr) s fun t =>
        (∀ b : Nat, 0x10000000 ≤ b → b ≤ 0x1007FFFF → t.peekByte c.val b =
          if k ≤ b ∧ b < k + 32 then (v wa).toNat / 256 ^ (b - k) % 256 else s.peekByte c.val b) ∧
        Commits s t c (x.pc + 4) { x with tcm := (t.core c.val).tcm })) ∧
    (x.Calm → (x.rg gr).toNat % 32 ≠ 0 → Gives (.isaWld c e wd 0 0 gr) s fun t => Raises s t c 5 (some (x.rg gr)))) ∧
  (∀ (c : CoreId) (s : State) (o : WideOp) (r : List WideOp), s.executes c.val = true → (s.core c.val).wide = o :: r → o.fault = false →
    s.impDue c.val = none → exec (.wideCommit c 0) s = .next (s.setCore c.val ({ s.core c.val with wide := r }.takes o)))

/-- Entries at a boundary (13, R468, R473, R474, R478, R486): INTERRUPT_ENTRY claims the source that is to be taken and enters its level's vector; a
refused posted store raises the imprecise STORE_FAULT; a double fault keeps EPC, PPRIV and PIE and exchanges g2 with DFSP; an overrun window closes
and is counted. -/
def Obligations.EntriesAtBoundaries : Prop :=
  (∀ (c : CoreId) (s : State) (id : Nat), s.executes c.val = true → s.awake c.val = true → s.impDue c.val = none →
    s.canInterrupt c.val = some id →
    let x := s.core c.val;
    Gives (.interruptEntry c) s fun t => let y := t.core c.val;
      y.epc = x.pc &&& 0xFFFFFFFC ∧ y.ecause = BitVec.ofNat 32 (2 ^ 31 + id) ∧ y.ppriv = x.priv ∧ y.pie = x.ie ∧ y.ie = false ∧
      y.priv = (if c.val = 2 then 2 else 1) ∧ y.holdOpen = false ∧ y.pc = x.evbase + BitVec.ofNat 32 (0x100 + s.srcLevel c.val id * 0x40) ∧
      y.g = x.g ∧ y.w = x.w ∧ y.tcm = x.tcm ∧ Tab.find (c.val * 16 + s.srcLevel c.val id) t.cpu.claims = some id ∧ t.cpu.staging = s.cpu.staging) ∧
  (∀ (c : CoreId) (s : State) (a n : Nat), s.executes c.val = true → (s.core c.val).posted = [(a, n)] → (s.core c.val).Calm →
    (s.core c.val).impPending = none → (s.core c.val).impUnread = false →
    Gives (.postedStoreRefused c) s fun t => let y := t.core c.val;
      y.epc = (s.core c.val).pc &&& 0xFFFFFFFC ∧ y.ecause = BitVec.ofNat 32 (2 ^ 30 + 8) ∧ y.eaddr = BitVec.ofNat 32 a ∧
      y.pc = (s.core c.val).evbase + 0x80 ∧ y.posted = [] ∧ y.g = (s.core c.val).g ∧ y.ie = false ∧ y.pie = (s.core c.val).ie) ∧
  (∀ (c : PCore) (e : Ecc) (s : State), Fetches s ⟨c.val, by omega⟩ e → (s.core c.val).df = false → (s.core c.val).entrySpan = true →
    let x := s.core c.val;
    Gives (.isaTrap ⟨c.val, by omega⟩ e 0 0 0) s fun t => let y := t.core c.val;
      y.epc = x.epc ∧ y.ppriv = x.ppriv ∧ y.pie = x.pie ∧ y.df = true ∧ y.ie = false ∧ y.dfsp = x.rg 2 ∧ y.rg 2 = x.dfsp ∧
      y.ecause = BitVec.ofNat 32 (12 + x.entryCode * 2 ^ 24 + 3 * 2 ^ 16) ∧ y.pc = (if c.val = 0 then 0x00000800 else 0x00200800)) ∧
  (∀ (c : CoreId) (s : State), s.executes c.val = true → (s.core c.val).holdOpen = true →
    Gives (.holdOverrun c) s fun t => (t.core c.val).holdOpen = false ∧ (t.core c.val).holdcnt = 0 ∧
      t.rd Reg.ICU_HOLDPC.PC c.val = (s.core c.val).pc.toNat ∧
      t.rd Reg.ICU_HOLDOVR.COUNT c.val = min (s.rd Reg.ICU_HOLDOVR.COUNT c.val + 1) (2 ^ Reg.ICU_HOLDOVR.COUNT.width - 1) ∧
      (s.isSet Reg.ICU_PCFG.EN (c.val * 32 + 5) = true → t.rd Reg.ICU_PCFG.PEND (c.val * 32 + 5) = 1))

/-- The interrupt controller (13, R480–R488, R494): the COUNT-th assertion of a shared source, or the end of its coalescing time, makes it pending where
it is enabled; fewer are counted; a private source is pending at once. ICU_TAKE of the source that is to be taken claims it, another value sets
STALE_TAKE; ICU_RETIRE of a level that holds a claim ends it, of another sets BAD_RETIRE. The configuration writes set their fields, TARGET but for a
locked source. -/
def Obligations.InterruptCommands : Prop :=
  (∀ (n : Fin 480) (c : CoreId) (s : State), s.mainOn = true → sharedDefined n.val = true →
    let k := Tab.getD s.cpu.coal n.val 0 + 1;
    (max 1 (s.rd Reg.ICU_SRC_CFG.COUNT n.val) ≤ k → s.isSet Reg.ICU_SRC_CFG.EN n.val = true →
      Gives (.sourceAssert ⟨n.val + 32, by omega⟩ c) s fun t => t.rdBit Reg.ICU_PENDING.PEND (n.val / 32) (n.val % 32) = true) ∧
    (k < max 1 (s.rd Reg.ICU_SRC_CFG.COUNT n.val) →
      Gives (.sourceAssert ⟨n.val + 32, by omega⟩ c) s fun t => Tab.find n.val t.cpu.coal = some k ∧ t.regs = s.regs)) ∧
  (∀ (i : Fin 32) (c : CoreId) (s : State), s.mainOn = true → privateDefined c.val i.val = true → s.isSet Reg.ICU_PCFG.EN (c.val * 32 + i.val) = true →
    Gives (.sourceAssert ⟨i.val, by omega⟩ c) s fun t => t.rd Reg.ICU_PCFG.PEND (c.val * 32 + i.val) = 1) ∧
  (∀ (n : Fin 480) (s : State) (k : Nat), Tab.find n.val s.cpu.coal = some k → s.isSet Reg.ICU_SRC_CFG.EN n.val = true →
    Gives (.icuCoalTimer n) s fun t => t.rdBit Reg.ICU_PENDING.PEND (n.val / 32) (n.val % 32) = true) ∧
  (∀ (c : CoreId) (v : BitVec 32) (s : State), s.bankReached c.val = true →
    (s.bestSource c.val = some (v.toNat % 512) → Gives (.icuTakeWrite c v) s fun t =>
      Tab.find (c.val * 16 + s.srcLevel c.val (v.toNat % 512)) t.cpu.claims = some (v.toNat % 512) ∧ { t with regs := s.regs, cpu := s.cpu } = s) ∧
    (s.bestSource c.val ≠ some (v.toNat % 512) → Gives (.icuTakeWrite c v) s fun t => t = s.wr Reg.ICU_PSTAT.STALE_TAKE c.val 1)) ∧
  (∀ (c : CoreId) (v : BitVec 32) (s : State), s.bankReached c.val = true →
    let l := v.toNat % 16;
    (Tab.find (c.val * 16 + l) s.cpu.claims = none → Gives (.icuRetireWrite c v) s fun t => t = s.wr Reg.ICU_PSTAT.BAD_RETIRE c.val 1) ∧
    (∀ id, 32 ≤ id → Tab.find (c.val * 16 + l) s.cpu.claims = some id → Gives (.icuRetireWrite c v) s fun t =>
      t.rdBit Reg.ICU_NEST.NEST c.val l = false ∧ t.rdBit Reg.ICU_INSERVICE.INSVC ((id - 32) / 32) ((id - 32) % 32) = false)) ∧
  (∀ (m : Fin 16) (v : BitVec 32) (j : Fin 32) (s : State), Admitted s m 0x40C02080 → v.getLsbD j.val = true →
    s.isSet Reg.ICU_SRC_CFG.EN (448 + j.val) = true → s.rd Reg.ICU_SRC_CFG.COUNT (448 + j.val) ≤ 1 →
    Gives (.icuSwiWrite m v) s fun t => t.rdBit Reg.ICU_PENDING.PEND 14 j.val = true) ∧
  (∀ (m : Fin 16) (n : Fin 480) (v : BitVec 32) (s : State), Admitted s m (0x40C01000 + n.val * 8) → lockedSource n.val = false →
    s.inService n.val = false → v.toNat / 2 ^ 28 % 4 ≠ 3 →
    Gives (.icuSrcCfgWrite m n false v) s fun t => t.rd Reg.ICU_SRC_CFG.EN n.val = v.toNat / 2 ^ 31 ∧
      t.rd Reg.ICU_SRC_CFG.TARGET n.val = v.toNat / 2 ^ 28 % 4 ∧ t.rd Reg.ICU_SRC_CFG.LEVEL n.val = v.toNat / 2 ^ 20 % 2 ^ Reg.ICU_SRC_CFG.LEVEL.width ∧
      t.rd Reg.ICU_SRC_CFG.COUNT n.val = v.toNat % 2 ^ Reg.ICU_SRC_CFG.COUNT.width) ∧
  (∀ (m : Fin 16) (n : Fin 480) (v : BitVec 32) (s : State), Admitted s m (0x40C01000 + n.val * 8 + 4) →
    exec (.icuSrcCfgWrite m n true v) s = .next (s.wr Reg.ICU_SRC_COAL.TIME n.val v.toNat)) ∧
  (∀ (c : CoreId) (i : Fin 32) (v : BitVec 32) (s : State), s.bankReached c.val = true →
    Gives (.icuPcfgWrite c i v) s fun t =>
      t.rd Reg.ICU_PCFG.LEVEL (c.val * 32 + i.val) = v.toNat % 2 ^ Reg.ICU_PCFG.LEVEL.width ∧
      (privateDefined c.val i.val = true → t.rd Reg.ICU_PCFG.EN (c.val * 32 + i.val) = v.toNat / 2 ^ 31) ∧
      (v.getLsbD 30 = true → i.val ≠ 4 → t.rd Reg.ICU_PCFG.PEND (c.val * 32 + i.val) = 0))

/-- The protection units (14, R502, R506, R507, R509, R513, R515): MPU_CTRL takes force only at a FENCE; a region register is written only while
MPU_CTRL.EN = 0; a tag fill is taken, or refused while one runs or above 4,096 granules; its end colours every granule, or records the first that the
check pass refuses and colours none; a commit copies every staged window; a denied write is counted and changes neither the memories nor any lane, key
or ledger. Model's readings: log entries 18, 78. -/
def Obligations.ProtectionCommands : Prop :=
  (∀ (m : Fin 16) (c : PCore) (v : BitVec 32) (s : State), Admitted s m (mpuBase c.val) →
    Gives (.mpuCtrlWrite m c v) s fun t => t.rd Reg.MPU_CTRL.EN c.val = v.toNat % 2 ∧ t.rd Reg.MPU_CTRL.PRIVDEF c.val = v.toNat / 2 % 2 ∧ t.cpu = s.cpu) ∧
  (∀ (m : Fin 16) (c : PCore) (r : Fin 16) (k : Fin 3) (v : BitVec 32) (s : State), Admitted s m (mpuBase c.val + 0x100 + r.val * 0x10 + k.val * 4) →
    let i := c.val * 16 + r.val;
    (s.isSet Reg.MPU_CTRL.EN c.val = true → exec (.mpuRgnWrite m c r k v) s = .next (s.wr Reg.MPU_STATUS.RGN_WR_IGNORED c.val 1)) ∧
    (s.isSet Reg.MPU_CTRL.EN c.val = false →
      (k.val = 0 → exec (.mpuRgnWrite m c r k v) s = .next (s.wr Reg.MPU_RGN_BASE.ADDR i (v.toNat / 64))) ∧
      (k.val = 1 → exec (.mpuRgnWrite m c r k v) s = .next (s.wr Reg.MPU_RGN_LIMIT.ADDR i (v.toNat / 64))) ∧
      (k.val = 2 → Gives (.mpuRgnWrite m c r k v) s fun t => t.rd Reg.MPU_RGN_ATTR.EN i = v.toNat / 2 ^ 31 ∧
        t.rd Reg.MPU_RGN_ATTR.COLOUR i = v.toNat / 2 ^ 8 % 16 ∧ t.rd Reg.MPU_RGN_ATTR.SX i = v.toNat / 32 % 2 ∧ t.rd Reg.MPU_RGN_ATTR.SW i = v.toNat / 16 % 2 ∧
        t.rd Reg.MPU_RGN_ATTR.SR i = v.toNat / 8 % 2 ∧ t.rd Reg.MPU_RGN_ATTR.UX i = v.toNat / 4 % 2 ∧ t.rd Reg.MPU_RGN_ATTR.UW i = v.toNat / 2 % 2 ∧
        t.rd Reg.MPU_RGN_ATTR.UR i = v.toNat % 2))) ∧
  (∀ (m : Fin 16) (c : PCore) (v : BitVec 32) (s : State), Admitted s m (mpuBase c.val + 0x14) → v.getLsbD 31 = true →
    let n := v.toNat % 2 ^ 13;
    (s.isSet Reg.MPU_STATUS.TAG_BUSY c.val = false → n ≤ 4096 → Gives (.mpuTagSet m c v) s fun t => t.rd Reg.MPU_STATUS.TAG_BUSY c.val = 1 ∧
      t.cpu.fills = s.cpu.fills ++ [(c.val, s.rd Reg.MPU_TAG_ADDR.ADDR c.val * 64, (if n = 0 then 4096 else n), v.toNat / 2 ^ 16 % 16)]) ∧
    (s.isSet Reg.MPU_STATUS.TAG_BUSY c.val = true ∨ 4096 < n → exec (.mpuTagSet m c v) s = .next (s.wr Reg.MPU_STATUS.TAG_ERR c.val 1))) ∧
  (∀ (c : PCore) (s : State) (a n k : Nat), s.cpu.fills = [(c.val, a, n, k)] →
    (s.fillCheck c.val a n = none → k ≠ 0 → Gives (.tagFillDone c) s fun t => t.rd Reg.MPU_STATUS.TAG_BUSY c.val = 0 ∧ t.cpu.fills = [] ∧
      ∀ i < n, t.colourAt c.val (a + 64 * i) = some k) ∧
    (∀ b x, s.fillCheck c.val a n = some (b, x) → Gives (.tagFillDone c) s fun t => t.rd Reg.MPU_STATUS.TAG_BUSY c.val = 0 ∧
      t.rd Reg.MPU_STATUS.TAG_ERR c.val = 1 ∧ t.rd Reg.MPU_FAULT.VALID c.val = 1 ∧ t.rd Reg.MPU_FAULT.CAUSE c.val = x % 2 ^ Reg.MPU_FAULT.CAUSE.width ∧
      t.rd Reg.MPU_FAULT.ACCESS c.val = 3 ∧ t.rd Reg.MPU_FAULT_ADDR.ADDR c.val = b % 2 ^ 32 ∧ ∀ y, t.colourAt c.val y = s.colourAt c.val y)) ∧
  (∀ (m : Fin 16) (s : State), Admitted s m 0x40B01000 → s.isSet Reg.FWL_STATUS.BUSY 0 = false →
    Gives (.fwlCommit m) s fun t => t.rd Reg.FWL_STATUS.BUSY 0 = 1 ∧ ∀ w < 128,
      t.rd Reg.FWL_AWIN_BASE.PAGE w = s.rd Reg.FWL_SWIN_BASE.PAGE w % 2 ^ Reg.FWL_AWIN_BASE.PAGE.width ∧
      t.rd Reg.FWL_AWIN_BASE.EN w = s.rd Reg.FWL_SWIN_BASE.EN w % 2 ∧
      t.rd Reg.FWL_AWIN_LIMIT.PAGE w = s.rd Reg.FWL_SWIN_LIMIT.PAGE w % 2 ^ Reg.FWL_AWIN_LIMIT.PAGE.width ∧
      t.rd Reg.FWL_AWIN_PERM.RMASK w = s.rd Reg.FWL_SWIN_PERM.RMASK w % 2 ^ 16 ∧ t.rd Reg.FWL_AWIN_PERM.WMASK w = s.rd Reg.FWL_SWIN_PERM.WMASK w % 2 ^ 16) ∧
  (∀ (late : Nat) (s : State), s.isSet Reg.FWL_STATUS.BUSY 0 = true →
    Gives (.fwlCommitDone late) s fun t => t.rd Reg.FWL_STATUS.BUSY 0 = 0 ∧ t.rd Reg.FWL_EVENT.COMMIT 0 = 1 ∧
      (late ≠ 0 → t.rd Reg.FWL_EVENT.LATE 0 = 1)) ∧
  (∀ (m : Fin 16) (s : State), s.mainOn = true → m.val ≠ 0 → Gives (.fwlCommit m) s fun t =>
    t.rd Reg.FWL_DENY_COUNT.COUNT 0 = min (s.rd Reg.FWL_DENY_COUNT.COUNT 0 + 1) (2 ^ Reg.FWL_DENY_COUNT.COUNT.width - 1) ∧
    t.rd Reg.FWL_STATUS.BUSY 0 = s.rd Reg.FWL_STATUS.BUSY 0 ∧ t.rd Reg.FWL_EVENT.DENY 0 = 1 ∧ t.memWf = s.memWf ∧ t.key = s.key ∧ t.led = s.led ∧
    t.lane = s.lane)

/-- Policy commands, their DMA and the cores (12, R453, R454, R457, R458, R462–R466): a policy opcode enters its core's ring, or, while the core is held,
ends with OPCODE_INVALID; a DMA transfer that fits its command starts, and at its end moves its bytes; POL_CMD_DONE completes its tag; a core reset
holds the core, a release starts it under the present epoch; GO submits a request, which a halted Keeper ends at once; KCALL_DONE ends it; a second
lockstep mismatch within 1 s, or a failed self-test, halts the pair. Model's readings: log entries 74, 75, 76. -/
def Obligations.PolicyCommands : Prop :=
  (∀ (f : Fn) (q : Q) (s : State) (x : FEntry), 0xC0 ≤ x.e.opc.toNat → Fetched s f q x.e.opc.toNat x → s.cpu.polCmds.length < 65536 →
    let c := s.policyCore x.e.opc.toNat;
    (s.coreHeld c = false → s.ringFull c = false → Gives (.policyOpcode f q) s fun t =>
      t.rd Reg.POL_CMDQ_PTR.TAIL c = (s.rd Reg.POL_CMDQ_PTR.TAIL c + 1) % 256 ∧ ∃ p, t.cpu.polCmds = s.cpu.polCmds ++ [p] ∧ p.core = c ∧ p.fn = f.val ∧
        p.q = q.val ∧ p.cid = x.e.cid.toNat ∧ p.entry = x.e ∧ ∀ y ∈ s.cpu.polCmds, y.tag ≠ p.tag) ∧
    (s.coreHeld c = true → CqOpen s f q → Gives (.policyOpcode f q) s fun t => Answered s t f q x Status.OPCODE_INVALID 0 0)) ∧
  (∀ (m : Fin 16) (c : PCore) (v : BitVec 32) (s : State), Admitted s m (0x40C0002C + c.val * 0x100) → v.getLsbD 0 = true →
    s.isSet Reg.POL_DMA_STATUS.BUSY c.val = false →
    let tag := v.toNat / 2 ^ 16 % 65536;
    let n := if s.rd Reg.POL_DMA_LEN.LEN c.val = 0 then 1048576 else s.rd Reg.POL_DMA_LEN.LEN c.val;
    let off := s.rd Reg.POL_DMA_OFFSET.OFFSET c.val;
    (s.polCmd tag = none → Gives (.polDmaGo m c v) s fun t => t.rd Reg.POL_DMA_STATUS.ERR c.val = 2 ∧ t.rd Reg.POL_EVENT.BAD_TAG 0 = 1) ∧
    (∀ p, s.polCmd tag = some p →
      (p.entry.length.toNat < off + n → exec (.polDmaGo m c v) s = .next (s.wr Reg.POL_DMA_STATUS.ERR c.val 1)) ∧
      (off + n ≤ p.entry.length.toNat → Gives (.polDmaGo m c v) s fun t => t.rd Reg.POL_DMA_STATUS.BUSY c.val = 1 ∧
        Tab.find c.val t.cpu.poldma = some ⟨tag, v.toNat / 2 % 2, s.rd Reg.POL_DMA_LOCAL.ADDR c.val, off, n⟩))) ∧
  (∀ (c : PCore) (data : List (BitVec 8)) (s : State) (x : PolDma) (p : PolCmd), s.memWf = true → Tab.find c.val s.cpu.poldma = some x →
    s.polCmd x.tag = some p → inTcm x.addr x.len = true → x.dir = 0 → (s.fnRt p.fn).d3 = false →
    Gives (.polDmaDone c .ok data) s fun t => t.rd Reg.POL_DMA_STATUS.BUSY c.val = 0 ∧ t.rd Reg.POL_DMA_STATUS.ERR c.val = 0 ∧
      ∀ b : Nat, t.peekByte c.val b = if x.addr ≤ b ∧ b < x.addr + min x.len data.length then (data.getD (b - x.addr) 0).toNat else s.peekByte c.val b) ∧
  (∀ (m : Fin 16) (c : PCore) (v : BitVec 32) (f : Fn) (q : Q) (s : State) (p : PolCmd), Admitted s m (0x40C0004C + c.val * 0x100) →
    s.polCmd (v.toNat % 65536) = some p → p.fn = f.val → p.q = q.val → CqOpen s f q → v.toNat / 2 ^ 16 < 0x8000 →
    Gives (.polCmdDone m c v) s fun t => t.cpu.polCmds = s.cpu.polCmds.filter (fun y => y.tag ≠ p.tag) ∧
      Out.cqe f.val q.val (s.rd Reg.QSTATUS.CQTAIL (qix f.val q.val)) (s.rd Reg.POL_CMD_RES0.RES0 c.val) (s.rd Reg.POL_CMD_RES1.RES1 c.val) p.cid
        (v.toNat / 2 ^ 16) (s.qrt f.val q.val).phase ∈ t.out) ∧
  (∀ (m : Fin 16) (c : PCore) (v : BitVec 32) (s : State), Admitted s m (0x40C00000 + c.val * 0x100) →
    (v.getLsbD 0 = true → Gives (.polCoreReset m c v) s fun t => (t.core c.val).run = .held ∧ t.rd Reg.POL_CORE_CTRL.RESET c.val = 1 ∧
      (∀ p ∈ t.cpu.polCmds, p.core ≠ c.val) ∧ t.rd Reg.POL_DMA_STATUS.BUSY c.val = 0 ∧ (t.core c.val).tcm = (s.core c.val).tcm) ∧
    (v.getLsbD 0 = false → s.coreHeld c.val = true → Gives (.polCoreReset m c v) s fun t => (t.core c.val).run = .running ∧
      t.rd Reg.POL_CORE_CTRL.RESET c.val = 0 ∧ (t.core c.val).epochAck = s.epoch)) ∧
  (∀ (c : PCore) (k : Fin 4) (s : State), s.mainOn = true → s.coreHeld c.val = false →
    let i := c.val * 4 + k.val;
    (s.kslot i).state ≠ 1 → (s.kslot i).state ≠ 2 →
    (s.isSet Reg.KPR_STATUS.HALTED 0 = false → Gives (.kcallGo c k) s fun t => (t.kslot i).state = 1 ∧ t.cpu.korder = s.cpu.korder ++ [i]) ∧
    (s.isSet Reg.KPR_STATUS.HALTED 0 = true → Gives (.kcallGo c k) s fun t => (t.kslot i).state = 3 ∧ (t.kslot i).result = Status.DEVICE_LOCKED)) ∧
  (∀ (c : PCore) (k : Fin 4) (s : State), (s.kslot (c.val * 4 + k.val)).state = 2 → (s.kslot (c.val * 4 + k.val)).ready = true →
    (s.kslot (c.val * 4 + k.val)).drop = false →
    Gives (.kcallDone c k) s fun t => t.kslot (c.val * 4 + k.val) = { s.kslot (c.val * 4 + k.val) with state := 3 } ∧
      t.rd Reg.KPR_KCALL_COUNT.COUNT 0 = (s.rd Reg.KPR_KCALL_COUNT.COUNT 0 + 1) % 2 ^ Reg.KPR_KCALL_COUNT.COUNT.width) ∧
  (∀ s : State, s.mainOn = true → s.isSet Reg.KPR_STATUS.HALTED 0 = false →
    Gives (.lockstepMismatch false) s fun t => t.rd Reg.KPR_STATUS.HALTED 0 = 1 ∧ t.rd Reg.KPR_STATUS.RUNNING 0 = 0 ∧ (t.core 2).run = .held)

/-- The Keeper's services (12, R459, R460; 05, R196; 10, R394–R398; 03, R647; 09, R350): where a request is next, each runs and gives its result: settings
are set and read, random bytes asked for, tenants created, changed, deleted and described, policy keys made, deleted and used by their owner, a
verification queued, and the life cycle taken on. Model's readings: log entries 80, 82, 83. -/
def Obligations.KeeperServices : Prop :=
  (∀ (i : Fin 8) (s : State) (x : KSlot) (d : SettingDef), Requests s i.val 0x01 x → (s.lifecycle = 1 ∨ s.lifecycle = 2) →
    settingDef? (x.arg 0) = some d → d.sid = x.arg 0 → d.cls = .immediate → s.set.locks.contains d.sid = false → x.arg 1 % 2 = 0 →
    let v := x.arg 2 + 2 ^ 32 * x.arg 3;
    s.settingInRange d v = true → s.sumsHold d.sid v = true → s.needsQuorum d.sid v = false →
    Gives .settingSet s fun t => t.setting d.sid = v ∧ t.set.journal = s.set.journal ∧ (t.kslot i.val).result = Status.SUCCESS) ∧
  (∀ (i : Fin 8) (s : State) (x : KSlot), Requests s i.val 0x02 x →
    (∀ d v, settingDef? (x.arg 0) = some d → s.settingValue d (x.arg 1) = some v →
      Gives .settingGet s fun t => Returns t i.val Status.SUCCESS [v % 2 ^ 32, v / 2 ^ 32, s.settingFlags d, 0]) ∧
    (settingDef? (x.arg 0) = none → Gives .settingGet s fun t => Returns t i.val Status.FIELD_INVALID [0, 0, 0, 0])) ∧
  (∀ (i : Fin 8) (s : State) (x : KSlot), Requests s i.val 0x10 x → x.arg 0 ≤ 32 → 1 ≤ x.blen → x.blen ≤ 65536 → x.arg 0 ≤ x.blen →
    Gives .random s fun t => t.rng.reqs = s.rng.reqs ++ [⟨.kcall (i.val / 4) (i.val % 4) x.buf, 0, x.blen, 0⟩] ∧ (t.kslot i.val).state = 2) ∧
  (∀ (c k b n w g : Nat) (s : State), s.rng.reqs = [⟨.kcall c k b, n, w, g⟩] → (s.kslot (c * 4 + k)).state = 2 →
    Gives .randomWaitTimeout s fun t => t.rng.reqs = [] ∧ Returns t (c * 4 + k) Status.BUSY_RETRY [0, 0, 0, 0]) ∧
  (∀ (i : Fin 8) (s : State) (x : KSlot), Requests s i.val 0x20 x → s.lifecycle = 2 → x.blen = 5248 →
    let d := s.readDescriptor (i.val / 4) x.buf;
    d.ok = true → (s.tenant d.tenant).st = 0 → s.hasEscrow = true →
    Gives .tenantCreate s fun t => Returns t i.val Status.SUCCESS [d.tenant, 0, 0, 0] ∧ (t.tenant d.tenant).st = 1 ∧
      (t.tenant d.tenant).extQuota = d.extQuota ∧ (t.tenant d.tenant).ledQuota = d.ledQuota ∧ (t.tenant d.tenant).rankMask = d.rankMask ∧
      (t.slot d.tenant).ty = 1 ∧ t.rd Reg.STR_EVENT.TENANT_CHANGE 0 = 1) ∧
  (∀ (i : Fin 8) (s : State) (x : KSlot), Requests s i.val 0x21 x → s.lifecycle = 2 → x.blen = 64 →
    let d := s.readDescriptor (i.val / 4) x.buf;
    d.ok = true → (s.tenant d.tenant).st ≠ 0 →
    Gives .tenantSet s fun t => Returns t i.val Status.SUCCESS [0, 0, 0, 0] ∧ (t.tenant d.tenant).extQuota = d.extQuota ∧
      (t.tenant d.tenant).ledQuota = d.ledQuota ∧ (t.tenant d.tenant).st = (s.tenant d.tenant).st) ∧
  (∀ (i : Fin 8) (s : State) (x : KSlot), Requests s i.val 0x22 x → s.lifecycle = 2 →
    (s.tenantHeld (x.arg 0) = false → Gives .tenantDelete s fun t => Returns t i.val Status.SUCCESS [0, 0, 0, 0] ∧ (t.tenant (x.arg 0)).st = 0 ∧
      (t.slot (x.arg 0)).key = 0) ∧
    (s.tenantHeld (x.arg 0) = true → Gives .tenantDelete s fun t => Returns t i.val Status.FIELD_INVALID [0, 0, 0, 0] ∧ t.key = s.key)) ∧
  (∀ (i : Fin 8) (s : State) (x : KSlot), s.memWf = true → Requests s i.val 0x23 x → s.lifecycle = 2 → x.arg 0 ≤ 255 → x.blen = 128 →
    inTcm x.buf 128 = true →
    Gives .tenantQuery s fun t => Returns t i.val Status.SUCCESS [0, 0, 0, 0] ∧ t.peekByte (i.val / 4) (x.buf + 64) = (s.tenant (x.arg 0)).st % 256) ∧
  (∀ (i : Fin 8) (s : State) (x : KSlot) (n : Nat), Requests s i.val 0x30 x → x.arg 0 < 8 → s.key.kek ≠ 0 → s.freeSlot = some n →
    Gives .keyGenerate s fun t => Returns t i.val Status.SUCCESS [n, 0, 0, 0] ∧ (t.slot n).ty = 2 ∧ (t.slot n).owner = i.val / 4 ∧
      (t.slot n).usage = x.arg 0) ∧
  (∀ (i : Fin 8) (s : State) (x : KSlot), Requests s i.val 0x31 x → s.keyRefused (i.val / 4) (x.arg 0) 0 = none →
    Gives .keyDelete s fun t => Returns t i.val Status.SUCCESS [0, 0, 0, 0] ∧ (t.slot (x.arg 0)).ty = 0 ∧ (t.slot (x.arg 0)).key = 0) ∧
  (∀ (i : Fin 8) (s : State) (x : KSlot), Requests s i.val 0x32 x → 28 ≤ x.blen → x.blen ≤ 65564 →
    (s.keyRefused (i.val / 4) (x.arg 0) 1 = none → Gives .keySeal s fun t => Returns t i.val Status.SUCCESS [0, 0, 0, 0] ∧ t.key.slots = s.key.slots) ∧
    (∀ st, s.keyRefused (i.val / 4) (x.arg 0) 1 = some st → Gives .keySeal s fun t => Returns t i.val st [0, 0, 0, 0] ∧ t.key = s.key)) ∧
  (∀ (i : Fin 8) (s : State) (x : KSlot), Requests s i.val 0x33 x → 28 ≤ x.blen → x.blen ≤ 65564 →
    s.keyRefused (i.val / 4) (x.arg 0) 2 = none →
    let p := s.peekBytes (i.val / 4);
    let good := Config.gcmTag (s.slot (x.arg 0)).key (ofBytes (p x.buf 12)) (p (x.buf + 12) (x.blen - 28)) % 2 ^ 128 = ofBytes (p (x.buf + x.blen - 16) 16);
    (good → Gives .keyOpen s fun t => Returns t i.val Status.SUCCESS [0, 0, 0, 0]) ∧
    (s.memWf = true → inTcm x.buf x.blen = true → ¬ good → Gives .keyOpen s fun t => Returns t i.val Status.SEAL_MISMATCH [0, 0, 0, 0] ∧
      ∀ j < x.blen - 28, t.peekByte (i.val / 4) (x.buf + 12 + j) = 0)) ∧
  (∀ (i : Fin 8) (s : State) (x : KSlot), x.blen ≤ 65536 → s.keyRefused (i.val / 4) (x.arg 0) 4 = none →
    let t := Config.cmac (s.slot (x.arg 0)).key (s.peekBytes (i.val / 4) x.buf x.blen) % 2 ^ 128;
    (Requests s i.val 0x34 x → Gives .keyCmac s fun u =>
      Returns u i.val Status.SUCCESS [t % 2 ^ 32, t / 2 ^ 32 % 2 ^ 32, t / 2 ^ 64 % 2 ^ 32, t / 2 ^ 96 % 2 ^ 32]) ∧
    (Requests s i.val 0x35 x → Gives .keyCmacVerify s fun u => Returns u i.val
      (if x.arg 1 = t % 2 ^ 32 ∧ x.arg 2 = t / 2 ^ 32 % 2 ^ 32 ∧ x.arg 3 = t / 2 ^ 64 % 2 ^ 32 ∧ x.arg 4 = t / 2 ^ 96 % 2 ^ 32 then Status.SUCCESS
        else Status.SEAL_MISMATCH) [0, 0, 0, 0])) ∧
  (∀ (i : Fin 8) (s : State) (x : KSlot) (op : Nat × Nat), Requests s i.val 0x40 x → verifyOp (x.arg 0) (x.arg 3) = some op →
    x.arg 1 + x.arg 2 + x.arg 3 ≤ x.blen → (x.arg 0 = 5 ∨ x.arg 2 = 48) → s.scv.jobs = [] → s.rd Reg.PKE_STATUS.INSERVICE 0 = 0 →
    Gives .pkVerify s fun t => t.scv.jobs = [⟨3, op.1, op.2, .kcall (i.val / 4) (i.val % 4)⟩] ∧ (t.kslot i.val).ready = (s.kslot i.val).ready) ∧
  (∀ (i : Fin 8) (s : State) (x : KSlot), Requests s i.val 0x50 x → s.lifecycle = 0 → x.blen = 2145 → s.rngState = 2 →
    ofBytes (s.peekBytes (i.val / 4) x.buf 96) ≠ 0 → ((List.range 8).any fun j => s.fuse (8 + j) ≠ 0) = false →
    Gives (.lcProvision none) s fun t => Returns t i.val Status.SUCCESS [0, 0, 0, 0] ∧ t.lifecycle = 1 ∧ t.rd Reg.STR_STATUS.RK_VALID 0 = 1 ∧
      t.cfg.record.identity = true) ∧
  (∀ (i : Fin 8) (j : Fin 2) (s : State) (x : KSlot), Requests s i.val 0x51 x → s.lifecycle = 1 → x.arg 0 ≤ 1 → 1 ≤ x.blen → x.blen ≤ 8192 →
    Gives (.lcInstallCert ⟨true, some j⟩) s fun t => Returns t i.val Status.SUCCESS [0, 0, 0, 0] ∧ (x.arg 0, j.val) ∈ t.scv.certOf) ∧
  (∀ (i : Fin 8) (s : State) (x : KSlot), Requests s i.val 0x52 x → s.lifecycle = 1 → s.deployable = true →
    Gives (.lcDeploy false) s fun t => Returns t i.val Status.SUCCESS [0, 0, 0, 0] ∧ t.lifecycle = 2 ∧ (t.tenant 0).st = 1 ∧
      t.rd Reg.STR_STATUS.KEK_VALID 0 = 1) ∧
  (∀ (i : Fin 8) (s : State) (x : KSlot), Requests s i.val 0x53 x → s.lifecycle = 1 →
    Gives (.lcRetire false) s fun t => Returns t i.val Status.SUCCESS [0, 0, 0, 0] ∧ t.lifecycle = 4 ∧ t.key.kek = 0 ∧ t.key.secretS = 0)

/-- The embedded flash (15, R523–R528, R532, R535–R538): on an idle bank a program of an erased word, and an erase, start; an address that is wrong ends
with ERR 6, a protected sector with 4, a word that is not erased with 3. A program that verifies writes exactly its 32 bytes, an erase blanks exactly
its sector; a failed one ends with ERR 1 or 2. An erase of the same interface is suspended and resumed. The refresh walk moves on. Model's readings:
log entry 59. -/
def Obligations.FlashCommands : Prop :=
  (∀ (m : Fin 16) (b i : Fin 2) (s : State), Admitted s m (eflCmd b.val i.val) →
    let k := 2 * b.val + i.val;
    let a := s.rd Reg.EFL_IF_ADDR.ADDR k;
    (s.flashRefused b.val i.val 1 a = none → (s.bank b.val).state = 0 →
      (s.wordErased a = true → s.incomplete (flashSector a) = false → Gives (.flashProgram m b i) s fun t => t.rd Reg.EFL_IF_STATUS.BUSY k = 1 ∧
        t.rd Reg.EFL_BANK_STATUS.STATE b.val = 1 ∧ ∃ o, (t.bank b.val).run = some o ∧ o.iface = i.val ∧ o.op = 1 ∧ o.addr = a) ∧
      (s.wordErased a = false → Gives (.flashProgram m b i) s fun t => t.rd Reg.EFL_IF_STATUS.BUSY k = 0 ∧ t.rd Reg.EFL_IF_STATUS.ERR k = 3 ∧
        (t.bank b.val).run = none ∧ t.efl.mem = s.efl.mem)) ∧
    (∀ err, s.flashRefused b.val i.val 1 a = some err → exec (.flashProgram m b i) s = .next (s.wr Reg.EFL_IF_STATUS.ERR k err)) ∧
    (s.flashRefused b.val i.val 2 a = none → (s.bank b.val).state = 0 → Gives (.flashErase m b i) s fun t => t.rd Reg.EFL_IF_STATUS.BUSY k = 1 ∧
      t.rd Reg.EFL_BANK_STATUS.STATE b.val = 2 ∧ ∃ o, (t.bank b.val).run = some o ∧ o.iface = i.val ∧ o.op = 2 ∧ o.addr = a) ∧
    (∀ err, s.flashRefused b.val i.val 2 a = some err → exec (.flashErase m b i) s = .next (s.wr Reg.EFL_IF_STATUS.ERR k err))) ∧
  (∀ (b : Nat) (i : Fin 2) (op a : Nat) (s : State), 0x800000 ≤ a → s.flashRefused b i.val op a = some 6) ∧
  (∀ (b : Fin 2) (i : Fin 2) (s : State) (a : Nat), a < 0x400000 → flashBank a = b.val → a % 8192 = 0 → s.protectedSector (flashSector a) = true →
    s.flashRefused b.val i.val 2 a = some 4) ∧
  (∀ (b : Fin 2) (p : Fin 25) (s : State) (o : FlashOp), s.memWf = true → (s.bank b.val) = ⟨some o, none, false, []⟩ → o.op = 1 →
    (Gives (.flashProgramDone b p true) s fun t => (t.bank b.val).state = 0 ∧ t.rd Reg.EFL_IF_STATUS.ERR (2 * b.val + o.iface) = 0 ∧
      t.rd Reg.EFL_BANK_STATUS.PULSES b.val = p.val ∧
      ∀ x, t.flashByte x = if o.addr ≤ x ∧ x < o.addr + 32 then o.data / 2 ^ (8 * (x - o.addr)) % 256 else s.flashByte x) ∧
    (Gives (.flashProgramDone b p false) s fun t => (t.bank b.val).state = 0 ∧ t.rd Reg.EFL_IF_STATUS.ERR (2 * b.val + o.iface) = 1 ∧
      t.rd Reg.EFL_EVENT.FAIL 0 = 1 ∧ t.efl.mem = s.efl.mem)) ∧
  (∀ (b : Fin 2) (p : Fin 20) (s : State) (o : FlashOp), s.memWf = true → (s.bank b.val) = ⟨some o, none, false, []⟩ → o.op = 2 →
    (Gives (.flashEraseDone b p true) s fun t => (t.bank b.val).state = 0 ∧ t.rd Reg.EFL_IF_STATUS.ERR (2 * b.val + o.iface) = 0 ∧
      ∀ x, t.flashByte x = if sectorBase (flashSector o.addr) ≤ x ∧ x < sectorBase (flashSector o.addr) + sectorSize (flashSector o.addr) then 255
        else s.flashByte x) ∧
    (Gives (.flashEraseDone b p false) s fun t => t.rd Reg.EFL_IF_STATUS.ERR (2 * b.val + o.iface) = 2 ∧ t.rd Reg.EFL_EVENT.FAIL 0 = 1 ∧
      t.efl.mem = s.efl.mem)) ∧
  (∀ (m : Fin 16) (b i : Fin 2) (s : State) (o : FlashOp) (w : List FlashOp), Admitted s m (eflCmd b.val i.val) → o.op = 2 →
    (s.bank b.val = ⟨some o, none, false, w⟩ →
      (o.iface = i.val → Gives (.flashSuspend m b i) s fun t => (t.bank b.val).susDue = true ∧ (t.bank b.val).run = some o) ∧
      (o.iface ≠ i.val → exec (.flashSuspend m b i) s = .next (s.wr Reg.EFL_IF_STATUS.ERR (2 * b.val + i.val) 5))) ∧
    (s.bank b.val = ⟨some o, none, true, w⟩ → Gives (.flashSuspendEffect b) s fun t => t.bank b.val = ⟨none, some o, false, w⟩ ∧
      t.rd Reg.EFL_BANK_STATUS.STATE b.val = 3) ∧
    (s.bank b.val = ⟨none, some o, false, w⟩ → o.iface = i.val → Gives (.flashResume m b i) s fun t => t.bank b.val = ⟨some o, none, false, w⟩ ∧
      t.rd Reg.EFL_BANK_STATUS.STATE b.val = 2)) ∧
  (∀ (blank : Bool) (s : State), s.mainOn = true → 640 ≤ s.rd Reg.EFL_REFRESH.NEXT 0 → s.rd Reg.EFL_REFRESH.NEXT 0 ≤ 1407 →
    scratchSector (s.rd Reg.EFL_REFRESH.NEXT 0) = false → (s.bank (flashBank (sectorBase (s.rd Reg.EFL_REFRESH.NEXT 0)))).state = 0 →
    Gives (.flashRefreshWalk blank) s fun t => t.rd Reg.EFL_REFRESH.NEXT 0 = nextWalk (s.rd Reg.EFL_REFRESH.NEXT 0) ∧ t.efl.mem = s.efl.mem ∧
      (blank = false → Tab.find (s.rd Reg.EFL_REFRESH.NEXT 0) t.efl.dates = some s.ticks))

/-- Alarms (16, R543–R552, R561–R565): a sample is shown, and a mesh that fails in it is an alarm at once; a continuously watched source whose detector
trips is one; both latch; detectors that disagree are recorded; an enabled source that a stimulus test finds silent is TESTFAIL and latched; a latched
source not in alarm clears when written 1; the log's new entries are copied in ACTIVE and READY. Sessions and UNLOCK (16, R556–R559; 05, R200, R218):
OPEN starts gathering; STATUS answers 64 bytes; a session past its limit, or closed, is over; ACT UNLOCK ends LOCKED; ROLLBACK_ACCEPT makes the
archive writable with KEYGENs raised and a new root, ROLLBACK_REJECT only logs; RESTORE of a good token makes the tenant ACTIVE with the token's key.
Model's readings: log entries 56, 57. -/
def Obligations.TamperCommands : Prop :=
  ((∀ (x : Sample) (s : State), Gives (.tamperSample x) s fun t => t.rd Reg.TMP_TEMP.A 0 = x.tempA.toNat ∧ t.rd Reg.TMP_TEMP.B 0 = x.tempB.toNat ∧
      (x.mesh ≠ 0 → s.rdBit Reg.TMP_ALARM.ALARM 0 13 = false → t.rdBit Reg.TMP_ALARM.ALARM 0 13 = true ∧ t.rdBit Reg.TMP_LATCHED.LATCHED 0 13 = true ∧
        t.rd Reg.TMP_EVENT.ALARM 0 = 1)) ∧
    (∀ (src : Fin 20) (b : Bool) (va vb : BitVec 16) (s : State), (src = 8 ∨ src = 9 ∨ src = 12 ∨ src = 14 ∨ src = 15) →
      s.watched src.val = true → s.rdBit Reg.TMP_ALARM.ALARM 0 src.val = false →
      Gives (.envExcursion src true b va vb) s fun t => t.rdBit Reg.TMP_ALARM.ALARM 0 src.val = true ∧
        t.rdBit Reg.TMP_LATCHED.LATCHED 0 src.val = true ∧ t.rd Reg.TMP_EVENT.ALARM 0 = 1 ∧ t.rd Reg.AON_SUPPLY.VAON 0 = va.toNat) ∧
    (∀ (src : Fin 20) (a : Bool) (s : State), [8, 9, 10, 11, 12, 14, 15].contains src.val = true → s.watched src.val = true →
      Gives (.detectorDisagree src a (!a)) s fun t => t.rdBit Reg.TMP_DISAGREE.SRC 0 src.val = true ∧ t.rd Reg.TMP_EVENT.DISAGREE 0 = 1) ∧
    (∀ (failed : BitVec 20) (n : Nat) (s : State), (n < 8 ∨ n = 13 ∨ n = 16) → s.inputOn n = true → failed.getLsbD n = true →
      Gives (.stimulusTestTimer failed) s (fun t => t.rdBit Reg.TMP_TESTFAIL.SRC 0 n = true ∧ t.rdBit Reg.TMP_LATCHED.LATCHED 0 n = true ∧
        t.rd Reg.TMP_EVENT.TESTFAIL 0 = 1) ∧
      ∀ m, Admitted s m 0x40E01014 → Gives (.tmpTest m failed) s fun t => t.rdBit Reg.TMP_TESTFAIL.SRC 0 n = true ∧
        t.rdBit Reg.TMP_LATCHED.LATCHED 0 n = true) ∧
    (∀ (m : Fin 16) (v : BitVec 32) (s : State), Admitted s m 0x40E01008 →
      Gives (.tmpLatchedWrite m v) s fun t => ∀ n < 20, t.rdBit Reg.TMP_LATCHED.LATCHED 0 n =
        (s.rdBit Reg.TMP_LATCHED.LATCHED 0 n && (!v.getLsbD n || s.rdBit Reg.TMP_ALARM.ALARM 0 n))) ∧
    (∀ s : State, (s.mainOn = true → Gives .tamperLogCopy s fun t => t.tmp.uncopied = 0 ∧ t.tmp.bbram = s.tmp.bbram) ∧
      (s.mainOn = false → exec .tamperLogCopy s = .next s))) ∧
  ((∀ s : State, s.session ≠ 0 → s.sessionLimit ≤ s.ticks - s.tmp.opened →
      Gives .quorumSessionTimeout s fun t => t.session = 0 ∧ t.rd Reg.TMP_STATUS.COUNTED 0 = 0 ∧ t.rd Reg.TMP_EVENT.SESSION 0 = 1) ∧
    (∀ (f : Fn) (q : Q) (s : State) (x : FEntry), UnlockCmd s f q 1 0 x →
      Gives (.unlockOpen f q) s fun t => t.session = 1 ∧ t.tmp.opened = s.ticks ∧ t.tmp.cards = 0 ∧ t.rd Reg.TMP_EVENT.SESSION 0 = 1) ∧
    (∀ (f : Fn) (q : Q) (s : State) (x : FEntry), UnlockCmd s f q 2 0 x → CqOpen s f q →
      Gives (.unlockStatus f q) s fun t => Answered s t f q x Status.SUCCESS 0 64 ∧ t.tmp = s.tmp) ∧
    (∀ (f : Fn) (q : Q) (s : State) (x : FEntry), UnlockCmd s f q 3 1 x →
      Gives (.unlockActUnlock f q) s fun t => t.lifecycle = 2 ∧ t.rd Reg.TMP_STATUS.LOCK_FLAG 0 = 0 ∧ t.cfg.record.lock = false) ∧
    (∀ (f : Fn) (q : Q) (s : State) (x : FEntry), UnlockCmd s f q 3 2 x →
      Gives (.rollbackAccept f q) s fun t => t.archiveRo = false ∧ t.rd Reg.EXT_STATUS.READ_ONLY 0 = 0 ∧ t.key.freshGen = s.key.freshGen + 65536 ∧
        t.key.root.seq = s.key.root.seq + 1 ∧ t.key.candidate = false) ∧
    (∀ (f : Fn) (q : Q) (s : State) (x : FEntry), UnlockCmd s f q 3 3 x →
      Gives (.rollbackReject f q) s fun t => t.archiveRo = s.archiveRo ∧ t.key.ext = s.key.ext ∧ ∃ e ∈ t.key.roll, e.event = 3 ∧ e.ticks = s.ticks) ∧
    (∀ (f : Fn) (q : Q) (token : RestoreToken) (s : State) (x : FEntry) (k : Nat), UnlockCmd s f q 3 4 x → s.tokenGood (x.e.bytes 34 1) token = true →
      token.key = some k → Gives (.restore f q token) s fun t => (t.tenant (x.e.bytes 34 1)).st = 1 ∧ (t.slot (x.e.bytes 34 1)).key = k ∧
        (t.slot (x.e.bytes 34 1)).ty = 1 ∧ t.rd Reg.STR_EVENT.TENANT_CHANGE 0 = 1) ∧
    (∀ (f : Fn) (q : Q) (s : State) (x : FEntry), UnlockCmd s f q 4 0 x → Gives (.unlockClose f q) s fun t => t.session = 0))

/-- Insertion to rate (17, R567–R572): a card is seen in ACTIVE and READY, and activated in a gathering session; a good supply shows the class and waits
for the ATR; no answer leads to the next class or CARD_ERROR; an ATR without interface characters goes on to the first APDU, one with a wrong TS is
CARD_ERROR; PPS is answered by an echo, tried again once, and then CARD_ERROR. The APDUs and the ends of an exchange (17, R569, R574–R580; 16, R556):
SELECT, READ CERT, AUTHENTICATE and GET RESPONSE follow one another; an enrolled card is staged, and a card of the set counts once in a gathering
session; a silent card or an overcurrent is CARD_ERROR; DEACT cuts the exchange; the clock stops where the ATR permits it. The custodian set (17,
R581, R582): an admitted operation that R581 does not refuse enrols the card in the slot, removes a staged entry, commits the staged set with its k,
or discards the changes; each ends with SUCCESS, the enrolment when its exchange does. Model's readings: log entries 67, 68. -/
def Obligations.CardCommands : Prop :=
  ((∀ s : State, s.mainOn = true → s.isSet Reg.CRD_STATUS.PRESENT 0 = false → Gives .cardInsert s fun t => t.rd Reg.CRD_STATUS.PRESENT 0 = 1 ∧
      t.rd Reg.CRD_EVENT.INSERTED 0 = 1 ∧ (s.session = 1 → s.crd.ex = none → ∃ x, t.crd.ex = some x ∧ x.purpose = 1 ∧ x.step = .powering ∧ x.cls = 3)) ∧
    (∀ s : State, s.mainOn = true → s.isSet Reg.CRD_STATUS.PRESENT 0 = true → Gives .cardRemove s fun t => t.rd Reg.CRD_STATUS.PRESENT 0 = 0 ∧
      t.rd Reg.CRD_EVENT.REMOVED 0 = 1 ∧ t.crd.ex = none ∧ (s.crd.ex ≠ none → t.rd Reg.CRD_RESULT.STATUS 0 = Status.CARD_REMOVED)) ∧
    (∀ (s : State) (x : CardEx), s.mainOn = true → s.crd.ex = some x →
      (x.step = .powering → Gives (.cardActivate true) s fun t => t.rd Reg.CRD_STATUS.ACTIVE 0 = 1 ∧ t.rd Reg.CRD_STATUS.CLASS 0 = x.cls % 4 ∧
        t.crd.ex = some { x with step := .atr }) ∧
      (x.step = .powering → Gives (.cardActivate false) s fun t => t.crd.ex = none ∧ t.rd Reg.CRD_RESULT.STATUS 0 = Status.CARD_ERROR) ∧
      (∀ c, x.step = .atr → nextClass x.cls 7 = some c → Gives .atrTimeout s fun t => t.crd.ex = some { x with step := .gap, cls := c } ∧
        t.rd Reg.CRD_STATUS.ACTIVE 0 = 0) ∧
      (x.step = .atr → nextClass x.cls 7 = none → Gives .atrTimeout s fun t => t.crd.ex = none ∧ t.rd Reg.CRD_RESULT.STATUS 0 = Status.CARD_ERROR) ∧
      (x.step = .gap → Gives .classChangeWaitEnd s fun t => t.crd.ex = some { x with step := .powering }) ∧
      (∀ (a : AtrRead) (i : AtrInfo) (n : Nat) (b : BitVec 8) (r : List (BitVec 8)), x.step = .atr → a.failed = false → a.chars = b :: r →
        ((b ≠ 0x3B ∧ b ≠ 0x3F) → Gives (.atrReceived a) s fun t => t.crd.ex = none ∧ t.rd Reg.CRD_RESULT.STATUS 0 = Status.CARD_ERROR) ∧
        ((b = 0x3B ∨ b = 0x3F) → atrParse (a.chars.map BitVec.toNat) = some (i, n) → n ≤ 33 → n ≤ a.chars.length →
          atrBad ((a.chars.map BitVec.toNat).take n) i = false → i.global = none → i.ta1 = none →
          Gives (.atrReceived a) s fun t => t.crd.ex = some { x with step := .select } ∧ t.rd Reg.CRD_STATUS.ATRLEN 0 = n)) ∧
      (∀ r : List (BitVec 8), x.step = .pps → r.map BitVec.toNat = [0xFF, 0x10, x.pps1, 0xEF ^^^ x.pps1] →
        Gives (.ppsExchange r) s fun t => t.crd.ex = some { x with step := .select } ∧ t.rd Reg.CRD_STATUS.PPS1 0 = x.pps1) ∧
      (x.step = .pps → x.ppsFails = 0 → Gives (.ppsExchange []) s fun t => t.crd.ex = some { x with step := .powering, ppsFails := 1, pps1 := 0x11 }) ∧
      (x.step = .pps → x.ppsFails ≠ 0 → Gives (.ppsExchange []) s fun t => t.crd.ex = none ∧ t.rd Reg.CRD_RESULT.STATUS 0 = Status.CARD_ERROR))) ∧
  ((∀ (s : State) (x : CardEx) (a : CardAnswer), s.mainOn = true → s.crd.ex = some x → a.failed = false →
      (x.step = .select → a.sw = 0x9000 → Gives (.cardSelect a) s fun t => t.crd.ex = some { x with step := .cert, again := false }) ∧
      (∀ (c : CardCert) (g : Image), x.step = .cert → a.sw = 0x9000 → c.formOk = true → c.sigOk = true → s.cfg.image = some g → g.cardKey ≠ 0 →
        x.purpose ≠ 1 → Gives (.readCert a c) s fun t => t.crd.ex = some { x with
          card := some ⟨c.id.toNat, c.pub⟩, again := false, step := .auth }) ∧
      (∀ (c : CardCert) (g : Image) (i : Nat), x.step = .cert → a.sw = 0x9000 → c.formOk = true → c.sigOk = true → s.cfg.image = some g → g.cardKey ≠ 0 →
        x.purpose = 1 → s.cardIndex ⟨c.id.toNat, c.pub⟩ = some i → Gives (.readCert a c) s fun t => t.crd.ex = some { x with
          card := some ⟨c.id.toNat, c.pub⟩, again := false, index := i, step := .auth }) ∧
      (x.step = .auth → a.sw = 0x6140 → Gives (.authenticate a) s fun t => ∃ n, t.crd.ex = some { x with nonce := n, step := .resp }) ∧
      (∀ e, x.step = .resp → a.sw = 0x9000 → x.purpose = 2 → x.card = some e → (∀ y ∈ s.crd.staged, y.2.id ≠ e.id) →
        Gives (.getResponse a true) s fun t => t.crd.ex = none ∧ Tab.find x.idx t.crd.staged = some e ∧ t.rd Reg.CRD_RESULT.STATUS 0 = Status.SUCCESS ∧
          t.rd Reg.CRD_SET_STATUS.BUSY 0 = 0) ∧
      (∀ e, x.step = .resp → a.sw = 0x9000 → x.purpose = 1 → x.card = some e → s.session = 1 → s.tmp.cards.testBit x.index = false →
        s.rd Reg.TMP_STATUS.COUNTED 0 + 1 < s.crd.sessK → s.rd Reg.TMP_STATUS.COUNTED 0 < 7 →
        Gives (.getResponse a true) s fun t => t.crd.ex = none ∧ t.rd Reg.TMP_STATUS.COUNTED 0 = s.rd Reg.TMP_STATUS.COUNTED 0 + 1 ∧ t.session = 1 ∧
          t.tmp.cards.testBit x.index = true ∧ t.rd Reg.CRD_RESULT.COUNTED 0 = 1) ∧
      (x.step = .resp → a.sw = 0x9000 → x.purpose = 2 → Gives (.getResponse a false) s fun t => t.crd.ex = none ∧
        t.rd Reg.CRD_RESULT.STATUS 0 = Status.NOT_AUTHORISED ∧ t.crd.staged = s.crd.staged)) ∧
    (∀ (s : State) (x : CardEx), s.mainOn = true → s.crd.ex = some x →
      (x.step.apdu = true → Gives .cardWwtTimeout s fun t => t.crd.ex = none ∧ t.rd Reg.CRD_RESULT.STATUS 0 = Status.CARD_ERROR) ∧
      (x.step ≠ .gap → Gives .cardOvercurrent s fun t => t.crd.ex = none ∧ t.rd Reg.CRD_RESULT.STATUS 0 = Status.CARD_ERROR ∧
        t.rd Reg.CRD_STATUS.ACTIVE 0 = 0)) ∧
    (∀ s : State, s.mainOn = true → s.isSet Reg.CRD_STATUS.ACTIVE 0 = true → s.isSet Reg.CRD_STATUS.STOPOK 0 = true →
      exec .cardClockStop s = .next (s.wr Reg.CRD_STATUS.CLKSTOP 0 1)) ∧
    (∀ (m : Fin 16) (s : State), Admitted s m 0x40F00004 → Gives (.crdDeact m) s fun t => t.crd.ex = none ∧ t.rd Reg.CRD_STATUS.ACTIVE 0 = 0)) ∧
  (∀ (m : Fin 16) (s : State), Admitted s m 0x40F00008 → s.setRefused = none →
      (∀ idx : BitVec 3, s.session ≠ 1 → s.crd.ex = none → Tab.find idx.toNat s.crd.staged = none → s.isSet Reg.CRD_STATUS.PRESENT 0 = true →
        Gives (.enrol m idx) s fun t => t.rd Reg.CRD_SET_STATUS.BUSY 0 = 1 ∧ ∃ x, t.crd.ex = some x ∧ x.purpose = 2 ∧ x.idx = idx.toNat) ∧
      (∀ idx : BitVec 3, Gives (.revoke m idx) s fun t => t.crd.staged = Tab.del idx.toNat s.crd.staged ∧
        t.rd Reg.CRD_SET_STATUS.RESULT 0 = Status.SUCCESS ∧ t.crd.cards = s.crd.cards) ∧
      (∀ k : BitVec 3, 1 ≤ k.toNat → k.toNat ≤ 5 → k.toNat ≤ s.crd.staged.length → Gives (.custodianCommit m k) s fun t => t.crd.k = k.toNat ∧
        t.crd.cards = s.crd.staged ∧ t.rd Reg.TMP_STATUS.K 0 = k.toNat ∧ t.rd Reg.CRD_SET_STATUS.RESULT 0 = Status.SUCCESS) ∧
      Gives (.custodianDiscard m) s fun t => t.crd.staged = s.crd.cards ∧ t.rd Reg.CRD_SET_STATUS.RESULT 0 = Status.SUCCESS)

/-- The tag's states and selection (18, R588–R592): a field wakes it to IDLE, its loss ends everything; REQA answers in IDLE, WUPA also in HALT, with
ATQA; the cascade answers with its level's bits and SAK; HLTA halts it; with setting 0x8013 at 0 no frame changes anything. Nothing but the tag and
what it sends changes. Model's readings: log entry 20. -/
def Obligations.TagSelection : Prop :=
  (∀ s : State, s.npl.tag = .off → Gives .nfcFieldOn s fun t => t.npl.tag = .idle ∧ t.npl.auth = false ∧
    (s.mainOn = true → t.rd Reg.NPL_EVENT.FIELD_ON 0 = 1)) ∧
  (∀ s : State, Gives .nfcFieldLost s fun t => t.npl.tag = .off ∧ t.npl.auth = false ∧ t.npl.auth1 = none ∧ { t with npl := s.npl } = s) ∧
  (∀ s : State, s.npl.fieldOn = 0 → ∀ i, i ∈ [Instr.reqa, .wupa, .hlta, .nfcInvalidFrame .invalid, .read16 0 true, .auth1 0 true .aon] →
    exec i s = .next s) ∧
  (∀ s : State, s.npl.fieldOn ≠ 0 → s.npl.tag = .idle → ∀ i, (i = Instr.reqa ∨ i = .wupa) →
    Gives i s fun t => t.npl.tag = .ready ∧ t.out = .nfc [0x42, 0x00] :: s.out ∧ { t with npl := s.npl, out := s.out } = s) ∧
  (∀ s : State, s.npl.fieldOn ≠ 0 → s.npl.tag = .halt → exec .reqa s = .next s ∧
    Gives .wupa s fun t => t.npl.tag = .readyS ∧ t.out = .nfc [0x42, 0x00] :: s.out) ∧
  (∀ (n : Fin 41) (known : BitVec 40) (s : State), s.npl.fieldOn ≠ 0 → (s.npl.tag = .ready ∨ s.npl.tag = .readyS) →
    (known.toNat % 2 ^ n.val = cascadeBits s.npl.level1 % 2 ^ n.val → Gives (.anticollision s.npl.level1 n known) s fun t =>
      t = s.send (.nfc (leBytes (cascadeBits s.npl.level1 / 2 ^ n.val) ((47 - n.val) / 8)))) ∧
    (known.toNat % 2 ^ n.val ≠ cascadeBits s.npl.level1 % 2 ^ n.val → Gives (.anticollision s.npl.level1 n known) s fun t =>
      t.npl.tag = (if s.npl.tag = .ready then .idle else .halt) ∧ t.out = s.out)) ∧
  (∀ (uid : BitVec 40) (s : State), s.npl.fieldOn ≠ 0 → (s.npl.tag = .ready ∨ s.npl.tag = .readyS) →
    (s.npl.level1 = false → uid.toNat = cascadeBits false → Gives (.nfcSelect false uid) s fun t => t.npl.level1 = true ∧ t.npl.tag = s.npl.tag ∧
      t.out = .nfc ([0x04] ++ leBytes (crcA [0x04]) 2) :: s.out) ∧
    (s.npl.level1 = true → uid.toNat = cascadeBits true → Gives (.nfcSelect true uid) s fun t =>
      t.npl.tag = (if s.npl.tag = .ready then .active else .activeS) ∧ t.npl.auth = false ∧ t.out = .nfc ([0x00] ++ leBytes (crcA [0x00]) 2) :: s.out)) ∧
  (∀ s : State, s.npl.fieldOn ≠ 0 → s.selected = true → Gives .hlta s fun t => t.npl.tag = .halt ∧ t.npl.auth = false ∧ t.out = s.out) ∧
  (∀ s : State, s.npl.fieldOn ≠ 0 → s.npl.tag = .activeS → Gives (.nfcInvalidFrame .invalid) s fun t => t.npl.tag = .halt ∧ t.out = s.out) ∧
  (∀ s : State, s.npl.fieldOn ≠ 0 → s.selected = true → Gives (.nfcInvalidFrame .unknownCode) s fun t => t = s.tagReply [0x01])

/-- The tag's commands, pages and registers (18, R594, R598–R603, R605): READ16 answers with the page's version and 16 bytes, a log page only to a session
or where the setting frees them; WRITE4 writes its 4 bytes of the memo in a session; GET_INFO tells the state; AUTH1 counts and AUTH2 opens a session
only for the right token; an update takes the lock and, at its end, the other copy becomes current with the version one higher; the reader key is set
only where R602 allows. Model's readings: log entry 21. -/
def Obligations.TagCommands : Prop :=
  (∀ (addr : BitVec 16) (s : State), s.npl.fieldOn ≠ 0 → s.selected = true → addr.toNat % 16 = 0 → addr.toNat < 3840 →
    let p := addr.toNat / 256;
    ((p < 5 ∨ s.npl.auth = true ∨ s.npl.logsFree ≠ 0) → Gives (.read16 addr true) s fun t =>
      t = s.tagReply ([0x00, s.tagVer p % 256] ++ (List.range 16).map fun i => s.tagByte p (addr.toNat % 256 + i))) ∧
    (5 ≤ p → s.npl.auth = false → s.npl.logsFree = 0 → Gives (.read16 addr true) s fun t => t = s.tagReply [0x03])) ∧
  (∀ (addr : BitVec 16) (data : BitVec 32) (p : TagPower) (s : State), s.npl.fieldOn ≠ 0 → s.selected = true → addr.toNat % 4 = 0 →
    1152 ≤ addr.toNat → addr.toNat ≤ 1276 →
    (s.npl.auth = false → Gives (.write4 addr data true p) s fun t => t = s.tagReply [0x03]) ∧
    (Memory.wf 0 s.npl.fram = true → (∀ q < 15, s.tagSel q ≤ 1) → s.npl.auth = true → s.pageLocked 4 = false → p ≠ .fieldLow → s.npl.memoOn ≠ 0 →
      Gives (.write4 addr data true p) s fun t => t.npl.memos = min (s.npl.memos + 1) 0xFFFFFFFF ∧
        ∀ q < 15, ∀ i < 256, t.tagByte q i = if q = 4 ∧ addr.toNat % 256 ≤ i ∧ i < addr.toNat % 256 + 4 then data.toNat / 256 ^ (i - addr.toNat % 256) % 256
          else s.tagByte q i)) ∧
  (∀ (p : TagPower) (s : State), s.npl.fieldOn ≠ 0 → s.selected = true → Gives (.getInfo true p) s fun t =>
    { t with out := s.out } = s ∧ ∃ flags tail, t = s.tagReply ([0x00, 0x43, 0x58, 0x4E, 0x50, 1, s.lifecycle, flags, 15] ++ tail) ∧
      flags.testBit 4 = s.npl.auth ∧ flags.testBit 3 = decide (p = .aon)) ∧
  (∀ (r : BitVec 64) (p : TagPower) (s : State), s.npl.fieldOn ≠ 0 → s.selected = true → p ≠ .fieldLow → s.npl.key ≠ 0 → s.npl.ctr < 0xFFFFFFFF →
    Gives (.auth1 r true p) s fun t => t.npl.ctr = s.npl.ctr + 1 ∧ t.npl.auth1 = some r.toNat ∧ t.npl.auth = false) ∧
  (∀ (tr : BitVec 64) (s : State) (r : Nat), s.npl.fieldOn ≠ 0 → s.selected = true → s.npl.auth1 = some r → s.npl.key ≠ 0 →
    Gives (.auth2 tr true) s fun t => t.npl.auth1 = none ∧
      t.npl.auth = (if tr.toNat = s.tagToken 0x52 r then true else s.npl.auth) ∧
      t.npl.fails = (if tr.toNat = s.tagToken 0x52 r then s.npl.fails else min (s.npl.fails + 1) 0xFFFFFFFF)) ∧
  (∀ (m : Fin 16) (v : BitVec 32) (s : State), Admitted s m 0x40F01010 → v.getLsbD 31 = true → v.toNat % 4 ≠ 3 → s.kbusy = false →
    exec (.nplKupd m v) s = .next { s with npl.queue := s.npl.queue ++ [v.toNat % 4] }) ∧
  (∀ (m : Fin 16) (v : BitVec 32) (s : State), Admitted s m 0x40F01014 → v.getLsbD 31 = true → s.pbusy = false →
    exec (.nplPupd m v) s = .next { s with npl.queue := s.npl.queue ++ [4] }) ∧
  (∀ (us : BitVec 16) (s : State) (r : List Nat), s.npl.lock = none → s.mainOn = true → s.npl.queue = 1 :: r →
    Gives (.pageUpdate .requested false us) s fun t => ∃ l, t.npl.lock = some l ∧ l.page = 1 ∧ l.content = s.bufferBytes Reg.NPL_KBUF.DATA 64 ∧
      t.npl.queue = r ∧ t.npl.fram = s.npl.fram) ∧
  (∀ (u : PageUpd) (us : BitVec 16) (s : State) (l : TagLock), Memory.wf 0 s.npl.fram = true → s.npl.lock = some l → l.content.length = 256 →
    s.tagSel l.page ≤ 1 →
    Gives (.pageUpdate u true us) s fun t => t.npl.lock = none ∧ t.tagVer l.page = (s.tagVer l.page + 1) % 65536 ∧
      t.tagSel l.page = 1 - s.tagSel l.page ∧ ∀ i < 256, t.tagByte l.page i = l.content.getD i 0 % 256) ∧
  (∀ (m : Fin 16) (v : BitVec 32) (n : Fin 64) (s : State), Admitted s m 0x40F010B0 → v.getLsbD 31 = true → v.toNat % 16 ≠ 15 →
    Gives (.nplRdCtrl m v) s fun t => t.npl = s.npl ∧ t.rd Reg.NPL_RBUF.DATA n.val =
      s.tagByte (v.toNat % 16) (4 * n.val) + s.tagByte (v.toNat % 16) (4 * n.val + 1) * 256 + s.tagByte (v.toNat % 16) (4 * n.val + 2) * 65536 +
        s.tagByte (v.toNat % 16) (4 * n.val + 3) * 16777216) ∧
  (∀ (m : Fin 16) (s : State), Admitted s m 0x40F01030 →
    ((s.lifecycle ≤ 1 ∨ s.rd Reg.TMP_STATUS.SESSION 0 = 2) →
      (Gives (.nplKeySet m) s fun t => t.npl.key = s.rd Reg.NPL_KEY.KEY 0 + s.rd Reg.NPL_KEY.KEY 1 * 2 ^ 32 + s.rd Reg.NPL_KEY.KEY 2 * 2 ^ 64 +
        s.rd Reg.NPL_KEY.KEY 3 * 2 ^ 96 ∧ ∀ n < 4, t.rd Reg.NPL_KEY.KEY n = 0) ∧
      exec (.nplKeyClear m) s = .next { s with npl.key := 0 }) ∧
    (¬ (s.lifecycle ≤ 1 ∨ s.rd Reg.TMP_STATUS.SESSION 0 = 2) → ∀ i, (i = Instr.nplKeySet m ∨ i = .nplKeyClear m) →
      Gives i s fun t => t.npl = s.npl ∧ t.rd Reg.NPL_EVENT.KEY_REFUSED 0 = 1))

/-- The service ports on the board side (19, R625, R626): once the slave is on, each SMBus read sends what its code names and is counted, an invalid
access and a time-out set their events; the TAP instructions act in BLANK, and elsewhere change nothing. Model's readings: log entry 24. -/
def Obligations.BoardPorts : Prop :=
  (∀ s : State, s.smbOn = true → ∀ i b l, (i, b, l) ∈
      ([(.smbReadDevId, true, leBytes (s.readWord 0x40080000) 4), (.smbReadDevStatus, true, leBytes (s.readWord 0x40080004) 4),
        (.smbReadSerial, true, leBytes Config.serial 8), (.smbReadAonEvent, true, leBytes (s.readWord 0x40E00030) 4 ++ leBytes (s.readWord 0x40E00034) 4),
        (.smbReadTemp, false, leBytes (s.rd Reg.TMP_TEMP.A 0) 2), (.smbReadAonSupply, true, leBytes (s.readWord 0x40E00010) 4),
        (.smbReadTamper, true, leBytes (s.readWord 0x40E01004) 4 ++ leBytes (s.readWord 0x40E01008) 4),
        (.smbReadCfgDigest, true, s.words12 Reg.DEV_CFG_DIGEST.DIGEST)] : List (Instr × Bool × List Nat)) →
    Gives i s fun t => t.out = .smbus (if b then l.length :: l else l) :: s.out ∧
      t.rd Reg.SBD_SMB_READS.COUNT 0 = min (s.rd Reg.SBD_SMB_READS.COUNT 0 + 1) (2 ^ 32 - 1) ∧ { t with regs := s.regs, out := s.out } = s) ∧
  (∀ s : State, s.smbOn = true → Gives .smbInvalid s (fun t => t.rd Reg.SBD_EVENT.SMB_ERR 0 = 1 ∧ t.out = s.out) ∧
    Gives .smbTimeout s fun t => t.rd Reg.SBD_EVENT.SMB_TIMEOUT 0 = 1 ∧ t.out = s.out) ∧
  (∀ s : State, s.smbOn = false → ∀ i, i ∈ [Instr.smbReadDevId, .smbReadDevStatus, .smbReadSerial, .smbReadAonEvent, .smbReadTemp, .smbReadAonSupply,
    .smbReadTamper, .smbReadCfgDigest, .smbInvalid, .smbTimeout] → exec i s = .next s) ∧
  (∀ (s : State) (balls pre : List Bool),
    (s.mainOn = true → s.lifecycle = 0 →
      exec .bypass s = .next { s with sbd.tap := .bypass } ∧
      (Gives .idcode s fun t => t.sbd.tap = .idcode ∧ t.out = .tap idcode :: s.out) ∧
      exec (.samplePreload balls pre) s = .next { s with sbd.tap := .samplePreload, sbd.captured := balls, sbd.boundary := pre } ∧
      Gives .extest s fun t => t.sbd.tap = .extest ∧ t.out = .boundary s.sbd.boundary :: s.out) ∧
    (s.lifecycle ≠ 0 → ∀ i, i ∈ [Instr.bypass, .idcode, .samplePreload balls pre, .extest] → exec i s = .next s))

/-- Registers by address (00, R10, R11; 14, R513; 21, R639, R640): an admitted write of an address that names no register changes nothing; fields take the
write by their access types: RW is replaced, W1C is cleared where 1 is written, RWZ is cleared by 0, RO stays; the low word of a 64-bit register waits
for its high word, and a read of the low word latches the high word for the next read of it; a denied write is only recorded. -/
def Obligations.RegisterAccesses : Prop :=
  (∀ (m : Fin 16) (a : BitVec 32) (v : BitVec 64) (s : State), Admitted s m a.toNat → bankForeign m.val a.toNat = false →
    findReg (mapAddr m.val a.toNat) = none → exec (.registerWrite (.master m) a v) s = .next s) ∧
  (∀ (v : BitVec 64) (n : Fin 64) (s : State), s.mainOn = true → s.denied 0 (0x40F01100 + 4 * n.val) true = none →
    exec (.registerWrite (.master 0) (BitVec.ofNat 32 (0x40F01100 + 4 * n.val)) v) s = .next (s.wr Reg.NPL_KBUF.DATA n.val (v.toNat % 2 ^ 32))) ∧
  (∀ (v : BitVec 64) (s : State), Admitted s 0 0x40B01010 → Gives (.registerWrite (.master 0) 0x40B01010 v) s fun t =>
    t.rdBit Reg.FWL_EVENT.DENY 0 0 = (s.rdBit Reg.FWL_EVENT.DENY 0 0 && !v.getLsbD 0) ∧
    t.rdBit Reg.FWL_EVENT.COMMIT 0 0 = (s.rdBit Reg.FWL_EVENT.COMMIT 0 0 && !v.getLsbD 1) ∧ t.key = s.key ∧ t.led = s.led) ∧
  (∀ (v : BitVec 64) (s : State), Admitted s 0 0x40B01018 → Gives (.registerWrite (.master 0) 0x40B01018 v) s fun t =>
    t.rd Reg.FWL_DENY_COUNT.COUNT 0 = if v.toNat % 2 ^ 32 = 0 then 0 else s.rd Reg.FWL_DENY_COUNT.COUNT 0) ∧
  (∀ (m : Fin 16) (v : BitVec 64) (s : State), Admitted s m 0x40E00010 → exec (.registerWrite (.master m) 0x40E00010 v) s = .next s) ∧
  (∀ (m : Fin 16) (v : BitVec 32) (c : PCore) (s : State), let a := BitVec.ofNat 32 (0x40C00040 + c.val * 0x100);
    Admitted s m a.toNat → Gives (.reg64HalfAccess (.master m) a true v) s fun t => t.regs = s.regs ∧
      Tab.find (halfKey m.val a.toNat) t.cpu.halfWrite = some v.toNat) ∧
  (∀ (m : Fin 16) (v : BitVec 32) (low : Nat) (c : PCore) (s : State), let a := BitVec.ofNat 32 (0x40C00044 + c.val * 0x100);
    Admitted s m a.toNat → low < 2 ^ 32 → Tab.find (halfKey m.val (a.toNat - 4)) s.cpu.halfWrite = some low →
    Gives (.reg64HalfAccess (.master m) a true v) s fun t => t.rd Reg.POL_CMD_RES0.RES0 c.val = v.toNat * 2 ^ 32 + low) ∧
  (∀ (m : Fin 16) (a : BitVec 32) (v : BitVec 32) (d : RegDef) (i : Nat) (s : State), s.mainOn = true → s.denied m.val a.toNat false = none →
    bankForeign m.val a.toNat = false → d.width = 64 → d.name ≠ "RNG_RAW_DATA" →
    (findReg (mapAddr m.val a.toNat) = some (d, i, false) → Gives (.reg64HalfAccess (.master m) a false v) s fun t =>
      t.out = .regRead m.val a.toNat (s.readReg d i % 2 ^ 32) :: s.out ∧
      Tab.find (halfKey m.val (mapAddr m.val a.toNat)) t.cpu.halfRead = some (s.readReg d i / 2 ^ 32) ∧ t.regs = s.regs) ∧
    (∀ h, findReg (mapAddr m.val a.toNat) = some (d, i, true) → Tab.find (halfKey m.val (mapAddr m.val a.toNat - 4)) s.cpu.halfRead = some h →
      Gives (.reg64HalfAccess (.master m) a false v) s fun t => t.out = .regRead m.val a.toNat h :: s.out ∧ t.regs = s.regs)) ∧
  (∀ (m : Fin 16) (a : BitVec 32) (v : BitVec 64) (r : Nat) (s : State), s.mainOn = true → s.denied m.val a.toNat true = some r →
    Gives (.registerWrite (.master m) a v) s fun t =>
      t.rd Reg.FWL_DENY_COUNT.COUNT 0 = min (s.rd Reg.FWL_DENY_COUNT.COUNT 0 + 1) (2 ^ Reg.FWL_DENY_COUNT.COUNT.width - 1) ∧
      t.rd Reg.FWL_DENY_ADDR.ADDR (s.rd Reg.FWL_DENY_HEAD.NEXT 0) = a.toNat ∧ t.key = s.key ∧ t.led = s.led ∧ t.host = s.host)

/-- FRAME. Only the commands named write a byte of the embedded flash, of the tag's pages, of the test access port's registers, or of the TCMs and the
staging region: over every other command each byte of them is what it was. -/
def Obligations.OnlyNamedCommandsWriteMemory : Prop :=
  ∀ (i : Instr) (s t : State), exec i s = .next t →
    (¬ WritesFlash i → t.efl.mem = s.efl.mem) ∧ (¬ WritesPages i → t.npl.fram = s.npl.fram) ∧ (¬ WritesTap i → t.sbd = s.sbd) ∧
    (¬ WritesWork i → t.cpu.staging = s.cpu.staging ∧ t.cpu.core0.tcm = s.cpu.core0.tcm ∧ t.cpu.core1.tcm = s.cpu.core1.tcm ∧
      t.cpu.keeper.tcm = s.cpu.keeper.tcm)

/-- R644. A configuration write of NumVFs above TotalVFs (setting 0x1002 or 0x1003) stores TotalVFs, which NumVFs then reads, and VF Enable acts on that
value: the virtual functions that exist are those up to it. The write is not reported as an error: it answers the very state that a write of TotalVFs
answers. -/
def Obligations.NumVfsStoresTotalVfs : Prop :=
  ∀ (p : Fin 2) (en : Bool) (num : BitVec 16) (s : State), s.bootMode = 0 →
    let total := s.setting (if p.val = 0 then 0x1002 else 0x1003);
    total < num.toNat →
    exec (.vfEnableWrite p en num) s = exec (.vfEnableWrite p en (BitVec.ofNat 16 total)) s ∧
    Gives (.vfEnableWrite p en num) s fun t => (t.pfCfg p.val).numVfs = total ∧
      ∀ k : Nat, 1 ≤ k → k ≤ 127 → t.fnExists (128 * p.val + k) = (en && decide (k ≤ total))

/-- FRAME. Beside register fields, what it sends, the counter of free values, coalescing counts and the count of writes that the always-on shadow dropped,
each command that `mayChange` names changes at most the parts named with it: over it every other part (ports and queues, ledgers, settings, lanes,
keys and extents, Scrivener, media, assay, cores, random numbers, configuration, always-on, tamper, flash, card, tag, board) and the queue of commands
are what they were. -/
def Obligations.CommandsLeaveOtherParts : Prop :=
  ∀ (i : Instr) (s t : State) (parts : List Part), exec i s = .next t → mayChange i = some parts →
    t.pending = s.pending ∧ ∀ p : Part, p ∉ parts → p.same s t
end

