-- ==== Sys2Proof/Laws/Tab.lean ====
section
/-!
SUPPORT. Laws/Tab.lean: what the operations of a table do: a read after a write, and that each keeps the keys strictly rising.
-/

namespace Sys2Proof.Machine

variable {α β : Type}

@[simp] theorem Tab.find_nil (k : Nat) : Tab.find k ([] : Tab α) = none := rfl

@[simp] theorem Tab.find_put_self (k : Nat) (v : α) (t : Tab α) : Tab.find k (Tab.put k v t) = some v := by
  induction t with
  | nil => simp [Tab.put, Tab.find]
  | cons a t ih =>
    obtain ⟨j, w⟩ := a
    by_cases h : k = j
    · simp [Tab.put, Tab.find, h]
    · by_cases h2 : k < j
      · simp [Tab.put, Tab.find, h, h2]
      · simp [Tab.put, Tab.find, h, h2, ih]

theorem Tab.find_put_ne {k k' : Nat} (h : k' ≠ k) (v : α) (t : Tab α) : Tab.find k' (Tab.put k v t) = Tab.find k' t := by
  induction t with
  | nil => simp only [Tab.put, Tab.find]; split <;> simp_all
  | cons a t ih =>
    obtain ⟨j, w⟩ := a
    simp only [Tab.put]
    by_cases h1 : k = j
    · subst h1; simp [Tab.find, h]
    · by_cases h2 : k < j
      · rw [if_neg h1, if_pos h2]
        simp only [Tab.find, if_neg h]
        by_cases h3 : k' < k
        · have : k' ≠ j := by omega
          have : k' < j := by omega
          simp [*]
        · simp [h3]
      · rw [if_neg h1, if_neg h2]
        simp only [Tab.find, ih]

/-- Every key of the table is above `k`. -/
def Tab.above (k : Nat) (t : Tab α) : Prop := ∀ x ∈ t, k < x.1

theorem Tab.wf_cons {a : Nat × α} {t : Tab α} : Tab.wf (a :: t) = true ↔ Tab.above a.1 t ∧ Tab.wf t = true := by
  induction t generalizing a with
  | nil => simp [Tab.wf, Tab.above]
  | cons b t ih =>
    rw [Tab.wf, Bool.and_eq_true, decide_eq_true_iff]
    constructor
    · rintro ⟨h, hw⟩
      refine ⟨fun x hx => ?_, hw⟩
      rcases List.mem_cons.mp hx with rfl | hx
      · exact h
      · exact Nat.lt_trans h ((ih.mp hw).1 x hx)
    · rintro ⟨h, hw⟩
      exact ⟨h b (List.mem_cons_self ..), hw⟩

theorem Tab.above_put {k i : Nat} {v : α} {t : Tab α} (hk : k < i) (h : Tab.above k t) : Tab.above k (Tab.put i v t) := by
  induction t with
  | nil => intro x hx; simp only [Tab.put, List.mem_singleton] at hx; subst hx; exact hk
  | cons a t ih =>
    intro x hx
    simp only [Tab.put] at hx
    split at hx
    · rcases List.mem_cons.mp hx with rfl | hx
      · exact hk
      · exact h x (List.mem_cons_of_mem _ hx)
    · split at hx
      · rcases List.mem_cons.mp hx with rfl | hx
        · exact hk
        · exact h x hx
      · rcases List.mem_cons.mp hx with rfl | hx
        · exact h _ (List.mem_cons_self ..)
        · exact ih (fun y hy => h y (List.mem_cons_of_mem _ hy)) x hx

/-- Putting a value keeps the keys rising. -/
theorem Tab.wf_put {k : Nat} {v : α} {t : Tab α} (h : Tab.wf t = true) : Tab.wf (Tab.put k v t) = true := by
  induction t with
  | nil => rfl
  | cons a t ih =>
    obtain ⟨ha, ht⟩ := Tab.wf_cons.mp h
    simp only [Tab.put]
    split
    · rename_i e; exact Tab.wf_cons.mpr ⟨by simpa [e] using ha, ht⟩
    · split
      · rename_i hlt
        refine Tab.wf_cons.mpr ⟨fun x hx => ?_, h⟩
        rcases List.mem_cons.mp hx with rfl | hx
        · exact hlt
        · exact Nat.lt_trans hlt (ha x hx)
      · rename_i hne hnlt
        exact Tab.wf_cons.mpr ⟨Tab.above_put (by simp only at hne hnlt ⊢; omega) ha, ih ht⟩

theorem Tab.mem_of_del {k : Nat} {t : Tab α} {x : Nat × α} (h : x ∈ Tab.del k t) : x ∈ t := by
  induction t with
  | nil => simp [Tab.del] at h
  | cons a t ih =>
    simp only [Tab.del] at h
    split at h
    · exact List.mem_cons_of_mem _ h
    · split at h
      · exact h
      · rcases List.mem_cons.mp h with rfl | h
        · exact List.mem_cons_self ..
        · exact List.mem_cons_of_mem _ (ih h)

/-- Removing a key keeps the keys rising. -/
theorem Tab.wf_del {k : Nat} {t : Tab α} (h : Tab.wf t = true) : Tab.wf (Tab.del k t) = true := by
  induction t with
  | nil => rfl
  | cons a t ih =>
    obtain ⟨ha, ht⟩ := Tab.wf_cons.mp h
    simp only [Tab.del]
    split
    · exact ht
    · split
      · exact h
      · exact Tab.wf_cons.mpr ⟨fun x hx => ha x (Tab.mem_of_del hx), ih ht⟩

theorem Tab.mem_of_keep {p : Nat → α → Bool} {t : Tab α} {x : Nat × α} (h : x ∈ Tab.keep p t) : x ∈ t := by
  induction t with
  | nil => simp [Tab.keep] at h
  | cons a t ih =>
    simp only [Tab.keep] at h
    split at h
    · rcases List.mem_cons.mp h with rfl | h
      · exact List.mem_cons_self ..
      · exact List.mem_cons_of_mem _ (ih h)
    · exact List.mem_cons_of_mem _ (ih h)

/-- Keeping some of the entries keeps the keys rising. -/
theorem Tab.wf_keep {p : Nat → α → Bool} {t : Tab α} (h : Tab.wf t = true) : Tab.wf (Tab.keep p t) = true := by
  induction t with
  | nil => rfl
  | cons a t ih =>
    obtain ⟨ha, ht⟩ := Tab.wf_cons.mp h
    simp only [Tab.keep]
    split
    · exact Tab.wf_cons.mpr ⟨fun x hx => ha x (Tab.mem_of_keep hx), ih ht⟩
    · exact ih ht

theorem Tab.mem_put {k : Nat} {v : α} {t : Tab α} {x : Nat × α} (h : x ∈ Tab.put k v t) : x = (k, v) ∨ x ∈ t := by
  induction t with
  | nil => simpa [Tab.put] using h
  | cons a t ih =>
    simp only [Tab.put] at h
    split at h
    · rcases List.mem_cons.mp h with rfl | h
      · exact .inl rfl
      · exact .inr (List.mem_cons_of_mem _ h)
    · split at h
      · rcases List.mem_cons.mp h with rfl | h
        · exact .inl rfl
        · exact .inr h
      · rcases List.mem_cons.mp h with rfl | h
        · exact .inr (List.mem_cons_self ..)
        · exact (ih h).imp id (List.mem_cons_of_mem _)

/-- Storing a byte keeps a memory canonical. -/
theorem Memory.wf_store {d : Byte} {k : Nat} {v : Byte} {t : Tab Byte} (h : Memory.wf d t = true) : Memory.wf d (Tab.store d k v t) = true := by
  simp only [Memory.wf, Bool.and_eq_true, List.all_eq_true, bne_iff_ne] at h ⊢
  simp only [Tab.store]
  split
  · exact ⟨Tab.wf_del h.1, fun x hx => h.2 x (Tab.mem_of_del hx)⟩
  · rename_i hv
    refine ⟨Tab.wf_put h.1, fun x hx => ?_⟩
    rcases Tab.mem_put hx with rfl | hx
    · exact hv
    · exact h.2 x hx

/-- Keeping some of its bytes keeps a memory canonical. -/
theorem Memory.wf_keep {d : Byte} {p : Nat → Byte → Bool} {t : Tab Byte} (h : Memory.wf d t = true) : Memory.wf d (Tab.keep p t) = true := by
  simp only [Memory.wf, Bool.and_eq_true, List.all_eq_true, bne_iff_ne] at h ⊢
  exact ⟨Tab.wf_keep h.1, fun x hx => h.2 x (Tab.mem_of_keep hx)⟩

end Sys2Proof.Machine
end

