-- ==== Sys2Proof/Laws/State.lean ====
section
/-!
SUPPORT. Laws/State.lean: the register file and the small updates of a state: what each leaves and what it writes.
-/

namespace Sys2Proof.Machine

/-- A field reads the value just written to it, cut to its width. -/
@[simp] theorem State.rd_wr_self (s : State) (f : Fld) (i v : Nat) : (s.wr f i v).rd f i = v % 2 ^ f.width := by
  simp [State.rd, State.wr]

/-- A write leaves every register field with another key. -/
theorem State.rd_wr_ne {s : State} {f g : Fld} {i j v : Nat} (h : g.key j ≠ f.key i) : (s.wr f i v).rd g j = s.rd g j := by
  simp [State.rd, State.wr, Tab.find_put_ne h]

/-- A write leaves every other field, at any index. -/
theorem State.rd_wr_field {s : State} {f g : Fld} {i j v : Nat} (h : f.id % 1024 ≠ g.id % 1024) : (s.wr f i v).rd g j = s.rd g j :=
  State.rd_wr_ne (by simp only [Fld.key, fieldSpan]; omega)

/-- A write leaves the same field at another index. -/
theorem State.rd_wr_index {s : State} {f : Fld} {i j v : Nat} (h : j ≠ i) : (s.wr f i v).rd f j = s.rd f j :=
  State.rd_wr_ne (by simp only [Fld.key, fieldSpan]; omega)

/-! What each update leaves: every other part of the state. -/

@[simp] theorem State.wr_frame (s : State) (f : Fld) (i v : Nat) :
    (s.wr f i v).host = s.host ∧ (s.wr f i v).led = s.led ∧ (s.wr f i v).set = s.set ∧ (s.wr f i v).lane = s.lane ∧ (s.wr f i v).key = s.key ∧
    (s.wr f i v).scv = s.scv ∧ (s.wr f i v).media = s.media ∧ (s.wr f i v).asy = s.asy ∧ (s.wr f i v).cpu = s.cpu ∧ (s.wr f i v).rng = s.rng ∧
    (s.wr f i v).cfg = s.cfg ∧ (s.wr f i v).aon = s.aon ∧ (s.wr f i v).tmp = s.tmp ∧ (s.wr f i v).efl = s.efl ∧ (s.wr f i v).crd = s.crd ∧
    (s.wr f i v).npl = s.npl ∧ (s.wr f i v).sbd = s.sbd ∧ (s.wr f i v).fresh = s.fresh ∧ (s.wr f i v).out = s.out ∧
    (s.wr f i v).pending = s.pending :=
  ⟨rfl, rfl, rfl, rfl, rfl, rfl, rfl, rfl, rfl, rfl, rfl, rfl, rfl, rfl, rfl, rfl, rfl, rfl, rfl, rfl⟩

@[simp] theorem State.clr_frame (s : State) (f : Fld) (i : Nat) :
    (s.clr f i).host = s.host ∧ (s.clr f i).led = s.led ∧ (s.clr f i).set = s.set ∧ (s.clr f i).lane = s.lane ∧ (s.clr f i).key = s.key ∧
    (s.clr f i).scv = s.scv ∧ (s.clr f i).media = s.media ∧ (s.clr f i).asy = s.asy ∧ (s.clr f i).cpu = s.cpu ∧ (s.clr f i).rng = s.rng ∧
    (s.clr f i).cfg = s.cfg ∧ (s.clr f i).aon = s.aon ∧ (s.clr f i).tmp = s.tmp ∧ (s.clr f i).efl = s.efl ∧ (s.clr f i).crd = s.crd ∧
    (s.clr f i).npl = s.npl ∧ (s.clr f i).sbd = s.sbd ∧ (s.clr f i).fresh = s.fresh ∧ (s.clr f i).out = s.out ∧ (s.clr f i).pending = s.pending :=
  ⟨rfl, rfl, rfl, rfl, rfl, rfl, rfl, rfl, rfl, rfl, rfl, rfl, rfl, rfl, rfl, rfl, rfl, rfl, rfl, rfl⟩

@[simp] theorem State.send_frame (s : State) (o : Out) :
    (s.send o).regs = s.regs ∧ (s.send o).host = s.host ∧ (s.send o).led = s.led ∧ (s.send o).set = s.set ∧ (s.send o).lane = s.lane ∧
    (s.send o).key = s.key ∧ (s.send o).scv = s.scv ∧ (s.send o).media = s.media ∧ (s.send o).asy = s.asy ∧ (s.send o).cpu = s.cpu ∧
    (s.send o).rng = s.rng ∧ (s.send o).cfg = s.cfg ∧ (s.send o).aon = s.aon ∧ (s.send o).tmp = s.tmp ∧ (s.send o).efl = s.efl ∧
    (s.send o).crd = s.crd ∧ (s.send o).npl = s.npl ∧ (s.send o).sbd = s.sbd ∧ (s.send o).fresh = s.fresh ∧ (s.send o).pending = s.pending :=
  ⟨rfl, rfl, rfl, rfl, rfl, rfl, rfl, rfl, rfl, rfl, rfl, rfl, rfl, rfl, rfl, rfl, rfl, rfl, rfl, rfl⟩

@[simp] theorem State.setFn_frame (s : State) (f : Nat) (x : FnRt) :
    (s.setFn f x).regs = s.regs ∧ (s.setFn f x).led = s.led ∧ (s.setFn f x).set = s.set ∧ (s.setFn f x).lane = s.lane ∧ (s.setFn f x).key = s.key ∧
    (s.setFn f x).scv = s.scv ∧ (s.setFn f x).media = s.media ∧ (s.setFn f x).asy = s.asy ∧ (s.setFn f x).cpu = s.cpu ∧ (s.setFn f x).rng = s.rng ∧
    (s.setFn f x).cfg = s.cfg ∧ (s.setFn f x).aon = s.aon ∧ (s.setFn f x).tmp = s.tmp ∧ (s.setFn f x).efl = s.efl ∧ (s.setFn f x).crd = s.crd ∧
    (s.setFn f x).npl = s.npl ∧ (s.setFn f x).sbd = s.sbd ∧ (s.setFn f x).fresh = s.fresh ∧ (s.setFn f x).out = s.out ∧
    (s.setFn f x).pending = s.pending ∧ Tab.find f (s.setFn f x).host.fn = some x :=
  ⟨rfl, rfl, rfl, rfl, rfl, rfl, rfl, rfl, rfl, rfl, rfl, rfl, rfl, rfl, rfl, rfl, rfl, rfl, rfl, rfl, Tab.find_put_self _ _ _⟩

@[simp] theorem State.setPf_frame (s : State) (p : Nat) (x : PfCfg) :
    (s.setPf p x).regs = s.regs ∧ (s.setPf p x).led = s.led ∧ (s.setPf p x).set = s.set ∧ (s.setPf p x).lane = s.lane ∧ (s.setPf p x).key = s.key ∧
    (s.setPf p x).scv = s.scv ∧ (s.setPf p x).media = s.media ∧ (s.setPf p x).asy = s.asy ∧ (s.setPf p x).cpu = s.cpu ∧ (s.setPf p x).rng = s.rng ∧
    (s.setPf p x).cfg = s.cfg ∧ (s.setPf p x).aon = s.aon ∧ (s.setPf p x).tmp = s.tmp ∧ (s.setPf p x).efl = s.efl ∧ (s.setPf p x).crd = s.crd ∧
    (s.setPf p x).npl = s.npl ∧ (s.setPf p x).sbd = s.sbd ∧ (s.setPf p x).fresh = s.fresh ∧ (s.setPf p x).out = s.out ∧
    (s.setPf p x).pending = s.pending ∧ Tab.find p (s.setPf p x).host.pf = some x :=
  ⟨rfl, rfl, rfl, rfl, rfl, rfl, rfl, rfl, rfl, rfl, rfl, rfl, rfl, rfl, rfl, rfl, rfl, rfl, rfl, rfl, Tab.find_put_self _ _ _⟩

@[simp] theorem State.setVec_frame (s : State) (f v : Nat) (x : Vec) :
    (s.setVec f v x).regs = s.regs ∧ (s.setVec f v x).led = s.led ∧ (s.setVec f v x).set = s.set ∧ (s.setVec f v x).lane = s.lane ∧
    (s.setVec f v x).key = s.key ∧ (s.setVec f v x).scv = s.scv ∧ (s.setVec f v x).media = s.media ∧ (s.setVec f v x).asy = s.asy ∧
    (s.setVec f v x).cpu = s.cpu ∧ (s.setVec f v x).rng = s.rng ∧ (s.setVec f v x).cfg = s.cfg ∧ (s.setVec f v x).aon = s.aon ∧
    (s.setVec f v x).tmp = s.tmp ∧ (s.setVec f v x).efl = s.efl ∧ (s.setVec f v x).crd = s.crd ∧ (s.setVec f v x).npl = s.npl ∧
    (s.setVec f v x).sbd = s.sbd ∧ (s.setVec f v x).fresh = s.fresh ∧ (s.setVec f v x).out = s.out ∧ (s.setVec f v x).pending = s.pending ∧
    Tab.find (f * 65 + v) (s.setVec f v x).host.vec = some x :=
  ⟨rfl, rfl, rfl, rfl, rfl, rfl, rfl, rfl, rfl, rfl, rfl, rfl, rfl, rfl, rfl, rfl, rfl, rfl, rfl, rfl, Tab.find_put_self _ _ _⟩

@[simp] theorem State.setQ_frame (s : State) (f q : Nat) (x : QRt) :
    (s.setQ f q x).regs = s.regs ∧ (s.setQ f q x).led = s.led ∧ (s.setQ f q x).set = s.set ∧ (s.setQ f q x).lane = s.lane ∧
    (s.setQ f q x).key = s.key ∧ (s.setQ f q x).scv = s.scv ∧ (s.setQ f q x).media = s.media ∧ (s.setQ f q x).asy = s.asy ∧
    (s.setQ f q x).cpu = s.cpu ∧ (s.setQ f q x).rng = s.rng ∧ (s.setQ f q x).cfg = s.cfg ∧ (s.setQ f q x).aon = s.aon ∧ (s.setQ f q x).tmp = s.tmp ∧
    (s.setQ f q x).efl = s.efl ∧ (s.setQ f q x).crd = s.crd ∧ (s.setQ f q x).npl = s.npl ∧ (s.setQ f q x).sbd = s.sbd ∧
    (s.setQ f q x).fresh = s.fresh ∧ (s.setQ f q x).out = s.out ∧ (s.setQ f q x).pending = s.pending ∧
    Tab.find (qix f q) (s.setQ f q x).host.q = some x :=
  ⟨rfl, rfl, rfl, rfl, rfl, rfl, rfl, rfl, rfl, rfl, rfl, rfl, rfl, rfl, rfl, rfl, rfl, rfl, rfl, rfl, Tab.find_put_self _ _ _⟩

@[simp] theorem State.setLedger_frame (s : State) (l : Nat) (x : Ledger) :
    (s.setLedger l x).regs = s.regs ∧ (s.setLedger l x).host = s.host ∧ (s.setLedger l x).set = s.set ∧ (s.setLedger l x).lane = s.lane ∧
    (s.setLedger l x).key = s.key ∧ (s.setLedger l x).scv = s.scv ∧ (s.setLedger l x).media = s.media ∧ (s.setLedger l x).asy = s.asy ∧
    (s.setLedger l x).cpu = s.cpu ∧ (s.setLedger l x).rng = s.rng ∧ (s.setLedger l x).cfg = s.cfg ∧ (s.setLedger l x).aon = s.aon ∧
    (s.setLedger l x).tmp = s.tmp ∧ (s.setLedger l x).efl = s.efl ∧ (s.setLedger l x).crd = s.crd ∧ (s.setLedger l x).npl = s.npl ∧
    (s.setLedger l x).sbd = s.sbd ∧ (s.setLedger l x).fresh = s.fresh ∧ (s.setLedger l x).out = s.out ∧ (s.setLedger l x).pending = s.pending ∧
    Tab.find l (s.setLedger l x).led.tab = some x :=
  ⟨rfl, rfl, rfl, rfl, rfl, rfl, rfl, rfl, rfl, rfl, rfl, rfl, rfl, rfl, rfl, rfl, rfl, rfl, rfl, rfl, Tab.find_put_self _ _ _⟩

@[simp] theorem State.setRec_frame (s : State) (l n : Nat) (x : Rec) :
    (s.setRec l n x).regs = s.regs ∧ (s.setRec l n x).host = s.host ∧ (s.setRec l n x).set = s.set ∧ (s.setRec l n x).lane = s.lane ∧
    (s.setRec l n x).key = s.key ∧ (s.setRec l n x).scv = s.scv ∧ (s.setRec l n x).media = s.media ∧ (s.setRec l n x).asy = s.asy ∧
    (s.setRec l n x).cpu = s.cpu ∧ (s.setRec l n x).rng = s.rng ∧ (s.setRec l n x).cfg = s.cfg ∧ (s.setRec l n x).aon = s.aon ∧
    (s.setRec l n x).tmp = s.tmp ∧ (s.setRec l n x).efl = s.efl ∧ (s.setRec l n x).crd = s.crd ∧ (s.setRec l n x).npl = s.npl ∧
    (s.setRec l n x).sbd = s.sbd ∧ (s.setRec l n x).fresh = s.fresh ∧ (s.setRec l n x).out = s.out ∧ (s.setRec l n x).pending = s.pending ∧
    Tab.find (recKey l n) (s.setRec l n x).led.recs = some x :=
  ⟨rfl, rfl, rfl, rfl, rfl, rfl, rfl, rfl, rfl, rfl, rfl, rfl, rfl, rfl, rfl, rfl, rfl, rfl, rfl, rfl, Tab.find_put_self _ _ _⟩

@[simp] theorem State.setLane_frame (s : State) (n : Nat) (x : LaneRt) :
    (s.setLane n x).regs = s.regs ∧ (s.setLane n x).host = s.host ∧ (s.setLane n x).led = s.led ∧ (s.setLane n x).set = s.set ∧
    (s.setLane n x).key = s.key ∧ (s.setLane n x).scv = s.scv ∧ (s.setLane n x).media = s.media ∧ (s.setLane n x).asy = s.asy ∧
    (s.setLane n x).cpu = s.cpu ∧ (s.setLane n x).rng = s.rng ∧ (s.setLane n x).cfg = s.cfg ∧ (s.setLane n x).aon = s.aon ∧
    (s.setLane n x).tmp = s.tmp ∧ (s.setLane n x).efl = s.efl ∧ (s.setLane n x).crd = s.crd ∧ (s.setLane n x).npl = s.npl ∧
    (s.setLane n x).sbd = s.sbd ∧ (s.setLane n x).fresh = s.fresh ∧ (s.setLane n x).out = s.out ∧ (s.setLane n x).pending = s.pending ∧
    Tab.find n (s.setLane n x).lane.rt = some x :=
  ⟨rfl, rfl, rfl, rfl, rfl, rfl, rfl, rfl, rfl, rfl, rfl, rfl, rfl, rfl, rfl, rfl, rfl, rfl, rfl, rfl, Tab.find_put_self _ _ _⟩

@[simp] theorem State.setItem_frame (s : State) (i : Nat) (x : Item) :
    (s.setItem i x).regs = s.regs ∧ (s.setItem i x).host = s.host ∧ (s.setItem i x).led = s.led ∧ (s.setItem i x).set = s.set ∧
    (s.setItem i x).key = s.key ∧ (s.setItem i x).scv = s.scv ∧ (s.setItem i x).media = s.media ∧ (s.setItem i x).asy = s.asy ∧
    (s.setItem i x).cpu = s.cpu ∧ (s.setItem i x).rng = s.rng ∧ (s.setItem i x).cfg = s.cfg ∧ (s.setItem i x).aon = s.aon ∧
    (s.setItem i x).tmp = s.tmp ∧ (s.setItem i x).efl = s.efl ∧ (s.setItem i x).crd = s.crd ∧ (s.setItem i x).npl = s.npl ∧
    (s.setItem i x).sbd = s.sbd ∧ (s.setItem i x).fresh = s.fresh ∧ (s.setItem i x).out = s.out ∧ (s.setItem i x).pending = s.pending ∧
    Tab.find i (s.setItem i x).lane.items = some x :=
  ⟨rfl, rfl, rfl, rfl, rfl, rfl, rfl, rfl, rfl, rfl, rfl, rfl, rfl, rfl, rfl, rfl, rfl, rfl, rfl, rfl, Tab.find_put_self _ _ _⟩

@[simp] theorem State.setTenant_frame (s : State) (i : Nat) (x : Tenant) :
    (s.setTenant i x).regs = s.regs ∧ (s.setTenant i x).host = s.host ∧ (s.setTenant i x).led = s.led ∧ (s.setTenant i x).set = s.set ∧
    (s.setTenant i x).lane = s.lane ∧ (s.setTenant i x).scv = s.scv ∧ (s.setTenant i x).media = s.media ∧ (s.setTenant i x).asy = s.asy ∧
    (s.setTenant i x).cpu = s.cpu ∧ (s.setTenant i x).rng = s.rng ∧ (s.setTenant i x).cfg = s.cfg ∧ (s.setTenant i x).aon = s.aon ∧
    (s.setTenant i x).tmp = s.tmp ∧ (s.setTenant i x).efl = s.efl ∧ (s.setTenant i x).crd = s.crd ∧ (s.setTenant i x).npl = s.npl ∧
    (s.setTenant i x).sbd = s.sbd ∧ (s.setTenant i x).fresh = s.fresh ∧ (s.setTenant i x).out = s.out ∧ (s.setTenant i x).pending = s.pending ∧
    Tab.find i (s.setTenant i x).key.tenants = some x :=
  ⟨rfl, rfl, rfl, rfl, rfl, rfl, rfl, rfl, rfl, rfl, rfl, rfl, rfl, rfl, rfl, rfl, rfl, rfl, rfl, rfl, Tab.find_put_self _ _ _⟩

@[simp] theorem State.setRank_frame (s : State) (r : Nat) (x : RankRt) :
    (s.setRank r x).regs = s.regs ∧ (s.setRank r x).host = s.host ∧ (s.setRank r x).led = s.led ∧ (s.setRank r x).set = s.set ∧
    (s.setRank r x).lane = s.lane ∧ (s.setRank r x).key = s.key ∧ (s.setRank r x).scv = s.scv ∧ (s.setRank r x).asy = s.asy ∧
    (s.setRank r x).cpu = s.cpu ∧ (s.setRank r x).rng = s.rng ∧ (s.setRank r x).cfg = s.cfg ∧ (s.setRank r x).aon = s.aon ∧
    (s.setRank r x).tmp = s.tmp ∧ (s.setRank r x).efl = s.efl ∧ (s.setRank r x).crd = s.crd ∧ (s.setRank r x).npl = s.npl ∧
    (s.setRank r x).sbd = s.sbd ∧ (s.setRank r x).fresh = s.fresh ∧ (s.setRank r x).out = s.out ∧ (s.setRank r x).pending = s.pending ∧
    Tab.find r (s.setRank r x).media.rank = some x :=
  ⟨rfl, rfl, rfl, rfl, rfl, rfl, rfl, rfl, rfl, rfl, rfl, rfl, rfl, rfl, rfl, rfl, rfl, rfl, rfl, rfl, Tab.find_put_self _ _ _⟩

@[simp] theorem State.setPort_frame (s : State) (p : Nat) (x : PortRt) :
    (s.setPort p x).regs = s.regs ∧ (s.setPort p x).host = s.host ∧ (s.setPort p x).led = s.led ∧ (s.setPort p x).set = s.set ∧
    (s.setPort p x).lane = s.lane ∧ (s.setPort p x).key = s.key ∧ (s.setPort p x).scv = s.scv ∧ (s.setPort p x).asy = s.asy ∧
    (s.setPort p x).cpu = s.cpu ∧ (s.setPort p x).rng = s.rng ∧ (s.setPort p x).cfg = s.cfg ∧ (s.setPort p x).aon = s.aon ∧
    (s.setPort p x).tmp = s.tmp ∧ (s.setPort p x).efl = s.efl ∧ (s.setPort p x).crd = s.crd ∧ (s.setPort p x).npl = s.npl ∧
    (s.setPort p x).sbd = s.sbd ∧ (s.setPort p x).fresh = s.fresh ∧ (s.setPort p x).out = s.out ∧ (s.setPort p x).pending = s.pending ∧
    Tab.find p (s.setPort p x).media.port = some x :=
  ⟨rfl, rfl, rfl, rfl, rfl, rfl, rfl, rfl, rfl, rfl, rfl, rfl, rfl, rfl, rfl, rfl, rfl, rfl, rfl, rfl, Tab.find_put_self _ _ _⟩

@[simp] theorem State.setAcc_frame (s : State) (e : Nat) (x : SealRec) :
    (s.setAcc e x).regs = s.regs ∧ (s.setAcc e x).host = s.host ∧ (s.setAcc e x).led = s.led ∧ (s.setAcc e x).set = s.set ∧
    (s.setAcc e x).lane = s.lane ∧ (s.setAcc e x).key = s.key ∧ (s.setAcc e x).scv = s.scv ∧ (s.setAcc e x).media = s.media ∧
    (s.setAcc e x).cpu = s.cpu ∧ (s.setAcc e x).rng = s.rng ∧ (s.setAcc e x).cfg = s.cfg ∧ (s.setAcc e x).aon = s.aon ∧ (s.setAcc e x).tmp = s.tmp ∧
    (s.setAcc e x).efl = s.efl ∧ (s.setAcc e x).crd = s.crd ∧ (s.setAcc e x).npl = s.npl ∧ (s.setAcc e x).sbd = s.sbd ∧
    (s.setAcc e x).fresh = s.fresh ∧ (s.setAcc e x).out = s.out ∧ (s.setAcc e x).pending = s.pending ∧ Tab.find e (s.setAcc e x).asy.acc = some x :=
  ⟨rfl, rfl, rfl, rfl, rfl, rfl, rfl, rfl, rfl, rfl, rfl, rfl, rfl, rfl, rfl, rfl, rfl, rfl, rfl, rfl, Tab.find_put_self _ _ _⟩

@[simp] theorem State.setKslot_frame (s : State) (i : Nat) (x : KSlot) :
    (s.setKslot i x).regs = s.regs ∧ (s.setKslot i x).host = s.host ∧ (s.setKslot i x).led = s.led ∧ (s.setKslot i x).set = s.set ∧
    (s.setKslot i x).lane = s.lane ∧ (s.setKslot i x).key = s.key ∧ (s.setKslot i x).scv = s.scv ∧ (s.setKslot i x).media = s.media ∧
    (s.setKslot i x).asy = s.asy ∧ (s.setKslot i x).rng = s.rng ∧ (s.setKslot i x).cfg = s.cfg ∧ (s.setKslot i x).aon = s.aon ∧
    (s.setKslot i x).tmp = s.tmp ∧ (s.setKslot i x).efl = s.efl ∧ (s.setKslot i x).crd = s.crd ∧ (s.setKslot i x).npl = s.npl ∧
    (s.setKslot i x).sbd = s.sbd ∧ (s.setKslot i x).fresh = s.fresh ∧ (s.setKslot i x).out = s.out ∧ (s.setKslot i x).pending = s.pending ∧
    Tab.find i (s.setKslot i x).cpu.kslots = some x :=
  ⟨rfl, rfl, rfl, rfl, rfl, rfl, rfl, rfl, rfl, rfl, rfl, rfl, rfl, rfl, rfl, rfl, rfl, rfl, rfl, rfl, Tab.find_put_self _ _ _⟩

end Sys2Proof.Machine
end

