-- ==== Sys2Proof/Laws/Core.lean ====
section
/-!
SUPPORT. Laws/Core.lean: the registers of a core after an update, what an instruction comes to once nothing stands in its way, and what its commit leaves.
-/

namespace Sys2Proof.Machine

namespace State

variable {s : State}

@[simp] theorem core_setCore_self (s : State) (c : Nat) (x : Core) : (s.setCore c x).core c = x := by
  unfold core setCore; split
  · rfl
  · split <;> rfl

theorem core_setCore_ne {c d : CoreId} (h : d ≠ c) (x : Core) : (s.setCore c.val x).core d.val = s.core d.val := by
  have hv : d.val ≠ c.val := fun e => h (Fin.ext e)
  unfold core setCore
  by_cases h0 : c.val = 0 <;> by_cases h1 : c.val = 1 <;> by_cases k0 : d.val = 0 <;> by_cases k1 : d.val = 1 <;> simp_all <;> omega

@[simp] theorem setCore_core (s : State) (c : Nat) : s.setCore c (s.core c) = s := by
  unfold core setCore; split
  · rfl
  · split <;> rfl

@[simp] theorem setCore_regs (s : State) (c : Nat) (x : Core) : (s.setCore c x).regs = s.regs := by unfold setCore; split <;> (try split) <;> rfl
@[simp] theorem setCore_pending (s : State) (c : Nat) (x : Core) : (s.setCore c x).pending = s.pending := by
  unfold setCore; split <;> (try split) <;> rfl
@[simp] theorem setCore_fresh (s : State) (c : Nat) (x : Core) : (s.setCore c x).fresh = s.fresh := by unfold setCore; split <;> (try split) <;> rfl
@[simp] theorem rd_setCore (s : State) (c : Nat) (x : Core) (f : Fld) (i : Nat) : (s.setCore c x).rd f i = s.rd f i := by simp [rd]

/-- A pending imprecise exception would be taken at the boundary, so where none is due there nothing is. -/
theorem impDue_of_boundary {c : Nat} (h : s.boundary c = none) : s.impDue c = none := by
  unfold boundary at h
  split at h
  · cases h
  · assumption

/-- A running core is as it is. -/
theorem mapCore_running {c : Nat} (h : (s.core c).run = .running) : s.mapCore c (fun x => { x with run := .running }) = s := by
  have e : { s.core c with run := .running } = s.core c := by rw [← h]
  exact (congrArg (s.setCore c) e).trans (setCore_core s c)

/-- An instruction whose fetch, encoding and privilege pass, with no entry due and no wide operation in flight, does its own effect and nothing
besides (12, R466; 13, R472, R474). -/
theorem instr_eq {c : CoreId} {e : Ecc} {legal system : Bool} {waits : WideOp → Bool} {body : State → State} (h : Fetches s c e)
    (hl : legal = true) (hp : system = true → (s.core c.val).priv ≠ 0) : s.instr c e legal system waits body = body s := by
  obtain ⟨hx, hr, hb, hf, hw⟩ := h
  have ha : s.awake c.val = true := by simp [awake, hr]
  have hs := mapCore_running hr
  have hd : s.drain c.val waits = s := by simp [drain, hw, mustCommit]
  unfold instr
  simp only [hx, ha, Bool.not_true, Bool.or_self, Bool.false_eq_true, if_false, hs, hb, hf, hl, hd, impDue_of_boundary hb]
  split
  · rename_i hq
    simp only [Bool.and_eq_true, decide_eq_true_eq] at hq
    exact absurd hq.2 (hp hq.1)
  · rfl

/-- An encoding with a wrong must-be-zero field is an ILLEGAL exception (13, R472). -/
theorem instr_illegal {c : CoreId} {e : Ecc} {system : Bool} {waits : WideOp → Bool} {body : State → State} (h : Fetches s c e) :
    s.instr c e false system waits body = s.raise c.val 1 none := by
  obtain ⟨hx, hr, hb, hf, hw⟩ := h
  have ha : s.awake c.val = true := by simp [awake, hr]
  have hs := mapCore_running hr
  unfold instr
  simp only [hx, ha, Bool.not_true, Bool.or_self, Bool.false_eq_true, if_false, hs, hb, hf, Bool.not_false, if_true]

theorem core_timerRise (s t : State) (c d : Nat) : (s.timerRise c t).core d = t.core d := by
  unfold timerRise assertPrivate
  repeat' split
  all_goals rfl

/-- Time leaves every register of a core but CYCLE and HOLDCNT. -/
theorem core_elapse (s : State) (c : Nat) :
    (s.elapse c).core c = { s.core c with cycle := ((s.elapse c).core c).cycle, holdcnt := ((s.elapse c).core c).holdcnt } := by
  unfold elapse
  simp only [core_timerRise, mapCore, core_setCore_self]
  rfl

/-- The commit (12, R451, R466; 13, R475). -/
theorem core_finish (s : State) (c : Nat) (npc : Word) :
    (s.finish c npc).core c = { s.core c with
      lastPc := (s.core c).pc, pc := npc, entrySpan := false, instret := ((s.core c).instret + 1) % 2 ^ 64,
      cycle := ((s.finish c npc).core c).cycle, holdcnt := ((s.finish c npc).core c).holdcnt } := by
  conv => lhs; unfold finish; rw [core_elapse]
  simp only [mapCore, core_setCore_self]
  rfl

end State

end Sys2Proof.Machine
end

