-- ==== Sys2Proof/Laws/Ops.lean ====
section
/-!
SUPPORT. Laws/Ops.lean: what the operations that every host command shares can do at most: register fields, what the host interface holds,
coalescing counts, what is sent, the counter of free values.
-/

namespace Sys2Proof.Machine

/-- `t` differs from `s` at most in register fields, the host interface, the coalescing counts, what was sent and the counter of free values. -/
def State.Near (s t : State) : Prop :=
  ∃ r h c o n, t = { s with regs := r, host := h, cpu := { s.cpu with coal := c }, out := o, fresh := n }

namespace State

variable {s t u : State}

theorem Near.refl (s : State) : s.Near s := ⟨_, _, _, _, _, rfl⟩

theorem Near.trans (h : s.Near t) (k : t.Near u) : s.Near u := by
  obtain ⟨_, _, _, _, _, rfl⟩ := h
  obtain ⟨_, _, _, _, _, rfl⟩ := k
  exact ⟨_, _, _, _, _, rfl⟩

theorem Near.ite {p : Prop} [Decidable p] (h : s.Near t) (k : s.Near u) : s.Near (if p then t else u) := by split <;> assumption

theorem Near.foldl {α : Type} {g : State → α → State} (hg : ∀ (x : State) a, x.Near (g x a)) : ∀ (l : List α) (s : State), s.Near (l.foldl g s)
  | [], s => .refl s
  | a :: l, s => (hg s a).trans (Near.foldl hg l _)

/-! What two near states share. -/

theorem Near.pending (h : s.Near t) : t.pending = s.pending := by obtain ⟨_, _, _, _, _, rfl⟩ := h; rfl
theorem Near.led (h : s.Near t) : t.led = s.led := by obtain ⟨_, _, _, _, _, rfl⟩ := h; rfl
theorem Near.set (h : s.Near t) : t.set = s.set := by obtain ⟨_, _, _, _, _, rfl⟩ := h; rfl
theorem Near.lane (h : s.Near t) : t.lane = s.lane := by obtain ⟨_, _, _, _, _, rfl⟩ := h; rfl
theorem Near.key (h : s.Near t) : t.key = s.key := by obtain ⟨_, _, _, _, _, rfl⟩ := h; rfl
theorem Near.scv (h : s.Near t) : t.scv = s.scv := by obtain ⟨_, _, _, _, _, rfl⟩ := h; rfl
theorem Near.media (h : s.Near t) : t.media = s.media := by obtain ⟨_, _, _, _, _, rfl⟩ := h; rfl
theorem Near.asy (h : s.Near t) : t.asy = s.asy := by obtain ⟨_, _, _, _, _, rfl⟩ := h; rfl
theorem Near.core (h : s.Near t) (c : Nat) : t.core c = s.core c := by obtain ⟨_, _, _, _, _, rfl⟩ := h; rfl
theorem Near.staging (h : s.Near t) : t.cpu.staging = s.cpu.staging := by obtain ⟨_, _, _, _, _, rfl⟩ := h; rfl
theorem Near.rng (h : s.Near t) : t.rng = s.rng := by obtain ⟨_, _, _, _, _, rfl⟩ := h; rfl
theorem Near.cfg (h : s.Near t) : t.cfg = s.cfg := by obtain ⟨_, _, _, _, _, rfl⟩ := h; rfl
theorem Near.aon (h : s.Near t) : t.aon = s.aon := by obtain ⟨_, _, _, _, _, rfl⟩ := h; rfl
theorem Near.tmp (h : s.Near t) : t.tmp = s.tmp := by obtain ⟨_, _, _, _, _, rfl⟩ := h; rfl
theorem Near.efl (h : s.Near t) : t.efl = s.efl := by obtain ⟨_, _, _, _, _, rfl⟩ := h; rfl
theorem Near.crd (h : s.Near t) : t.crd = s.crd := by obtain ⟨_, _, _, _, _, rfl⟩ := h; rfl
theorem Near.npl (h : s.Near t) : t.npl = s.npl := by obtain ⟨_, _, _, _, _, rfl⟩ := h; rfl
theorem Near.sbd (h : s.Near t) : t.sbd = s.sbd := by obtain ⟨_, _, _, _, _, rfl⟩ := h; rfl

/-! What each operation can do. -/

theorem near_wr (s : State) (f : Fld) (i v : Nat) : s.Near (s.wr f i v) := ⟨_, _, _, _, _, rfl⟩
theorem near_wrBit (s : State) (f : Fld) (i b : Nat) (on : Bool) : s.Near (s.wrBit f i b on) := near_wr ..
theorem near_addSat (s : State) (f : Fld) (i n : Nat) : s.Near (s.addSat f i n) := near_wr ..
theorem near_addWrap (s : State) (f : Fld) (i n : Nat) : s.Near (s.addWrap f i n) := near_wr ..
theorem near_subFloor (s : State) (f : Fld) (i n : Nat) : s.Near (s.subFloor f i n) := near_wr ..
theorem near_send (s : State) (o : Out) : s.Near (s.send o) := ⟨_, _, _, _, _, rfl⟩
theorem near_draw (s : State) : s.Near s.draw.2 := ⟨_, _, _, _, _, rfl⟩
theorem near_tick (s : State) : s.Near s.tick := near_addWrap ..
theorem near_releaseShared (s : State) (n : Nat) : s.Near (s.releaseShared n) := .ite (near_wrBit ..) (.refl s)
theorem near_assertShared (s : State) (n : Nat) : s.Near (s.assertShared n) :=
  .ite (.ite (.trans ⟨_, _, _, _, _, rfl⟩ (near_releaseShared ..)) ⟨_, _, _, _, _, rfl⟩) (.refl s)
theorem Near.riseOf (h : s.Near t) (s0 : State) (n : Nat) : s.Near (s0.riseOf n t) := h.trans (.ite (near_assertShared ..) (.refl t))
theorem near_event (s : State) (e : Ev) : s.Near (s.event e) := (near_wr ..).riseOf _ _
theorem near_assertPrivate (s : State) (c i : Nat) : s.Near (s.assertPrivate c i) := .ite (near_wr ..) (.refl s)
theorem near_setFn (s : State) (f : Nat) (x : FnRt) : s.Near (s.setFn f x) := ⟨_, _, _, _, _, rfl⟩
theorem near_setPf (s : State) (p : Nat) (x : PfCfg) : s.Near (s.setPf p x) := ⟨_, _, _, _, _, rfl⟩
theorem near_setFnState (s : State) (f v : Nat) : s.Near (s.setFnState f v) := near_wr ..
theorem near_setVec (s : State) (f v : Nat) (x : Vec) : s.Near (s.setVec f v x) := ⟨_, _, _, _, _, rfl⟩
theorem near_setQ (s : State) (f q : Nat) (x : QRt) : s.Near (s.setQ f q x) := ⟨_, _, _, _, _, rfl⟩
theorem near_popFront (s : State) (f q : Nat) : s.Near (s.popFront f q) := near_setQ ..
theorem near_msix (s : State) (f v : Nat) : s.Near (s.msix f v) := .ite (.refl s) (.ite (near_setVec ..) (near_send ..))
theorem near_fnEvent (s : State) (f : Nat) (e : Fld) (b : Nat) : s.Near (s.fnEvent f e b) :=
  (near_wr ..).trans (.ite (near_msix ..) (.refl _))
theorem near_fnEventAll (s : State) (e : Fld) (b : Nat) : s.Near (s.fnEventAll e b) := .foldl (fun _ _ => near_fnEvent ..) _ _

theorem near_dlogPage (s : State) (slot page : Nat) : s.Near (s.dlogPage slot page) := by
  unfold dlogPage
  split
  · exact .refl s
  · refine .ite (.refl s) (.ite ((near_wr ..).trans (near_fnEvent ..)) (.trans ?_ ((near_wr ..).trans (near_send ..))))
    exact ⟨_, _, _, _, _, rfl⟩

theorem near_dlogWrite (s : State) (f addr len : Nat) : s.Near (s.dlogWrite f addr len) :=
  .foldl (fun _ _ => .foldl (fun _ _ => near_dlogPage ..) _ _) _ _

theorem near_hostWrite (s : State) (f addr len : Nat) (c : List Nat) : s.Near (s.hostWrite f addr len c) :=
  .ite (.refl s) ((near_dlogWrite ..).trans ((near_addWrap ..).trans (near_send ..)))

theorem near_hostScatter (s : State) (f : Nat) (l : List (Nat × Nat)) (c : List Nat) : s.Near (s.hostScatter f l c) := by
  induction l generalizing s c with
  | nil => exact .refl s
  | cons a l ih => exact .ite (.refl s) ((near_hostWrite ..).trans (ih ..))

theorem near_queueFault (s : State) (f q code : Nat) : s.Near (s.queueFault f q code) := by
  refine Near.trans (.ite (near_wr ..) (.refl s)) (.trans (.ite (near_setQ ..) (.refl _)) ((near_wrBit ..).trans (near_fnEvent ..)))

theorem near_hqdReturn (s : State) (f q n : Nat) : s.Near (s.hqdReturn f q n) := (near_subFloor ..).trans (near_setQ ..)

theorem near_linkError (s : State) (p : Nat) (how : LinkEnd) : s.Near (s.linkError p how) := by
  cases how
  · exact .refl s
  all_goals exact (near_wr ..).riseOf _ _

theorem near_discard (s : State) (f : Nat) : s.Near (s.discard f) := near_setFn ..

theorem near_hostReads (s : State) (f : Nat) (sg : List (Nat × Nat)) (off n : Nat) : s.Near (s.hostReads f sg off n) :=
  .foldl (fun _ _ => near_send ..) _ _

theorem near_silent (s : State) (f n : Nat) : s.Near (s.silent f n) := by
  unfold silent
  dsimp only
  split
  · exact near_setFn ..
  · exact .refl s

theorem near_writeCpl (s : State) (f q : Nat) (c : Cpl) : s.Near (s.writeCpl f q c) := by
  refine Near.trans (t := _) ?_ (.ite (near_msix ..) (.refl _))
  exact (near_wr ..).trans ((near_setQ ..).trans ((near_dlogWrite ..).trans ((near_addWrap ..).trans ((near_send ..).trans
    (near_hqdReturn ..)))))

theorem near_post (s : State) (f q : Nat) (c : Cpl) : s.Near (s.post f q c) :=
  .ite (.refl s) (.ite ((near_hqdReturn ..).trans (near_discard ..)) (.ite (near_setQ ..) (near_writeCpl ..)))

theorem near_complete (s : State) (f q cid st r0 r1 : Nat) : s.Near (s.complete f q cid st r0 r1) := near_post ..

theorem near_postHeld (s : State) (f q n : Nat) : s.Near (s.postHeld f q n) := by
  induction n generalizing s with
  | zero => exact .refl s
  | succ n ih =>
    unfold postHeld
    split
    · exact .refl s
    · exact .ite (.refl s) ((near_setQ ..).trans ((near_writeCpl ..).trans (ih _)))

theorem near_fail (s : State) (f q : Nat) (x : FEntry) (st : Nat) : s.Near (s.fail f q x st) := near_complete ..

/-- A relation that holds of near states and of what a host command's own part does holds of the whole command: turned away, not there, or run. -/
theorem frontCmd_keeps {R : State → State → Prop} (near : ∀ {a b}, a.Near b → R a b) (s : State) (f q opc : Nat) {run : FEntry → State → State}
    (h : ∀ x, s.front f q = some x → R s (run x s)) : R s (s.frontCmd f q opc run) := by
  have no (x : FEntry) (n : Nat) : R s ((s.popFront f q).complete f q x.e.cid.toNat n 0 0) := near ((near_popFront ..).trans (near_complete ..))
  unfold frontCmd
  split
  · rename_i x hx
    split
    · exact no ..
    split
    · split
      · exact no ..
      · split
        · exact no ..
        · split
          · exact no ..
          · exact h x hx
    · exact near (.refl s)
  · exact near (.refl s)

theorem hostCmd_keeps {R : State → State → Prop} (near : ∀ {a b}, a.Near b → R a b) (s : State) (f q opc : Nat) {run : FEntry → State → State}
    (h : ∀ x, s.front f q = some x → R s (run x (s.popFront f q))) : R s (s.hostCmd f q opc run) :=
  frontCmd_keeps near s f q opc h

theorem subCmd_keeps {R : State → State → Prop} (near : ∀ {a b}, a.Near b → R a b) (s : State) (f q opc sub n : Nat)
    {pre : FEntry → Option (Nat × Nat)} {run : FEntry → State → State} (h : ∀ x, s.front f q = some x → R s (run x (s.popFront f q))) :
    R s (s.subCmd f q opc sub n pre run) := by
  refine frontCmd_keeps near s f q opc fun x hx => ?_
  show R s (if _ then _ else _)
  split
  · exact h x hx
  · split
    · exact near ((near_popFront ..).trans (near_complete ..))
    · exact near (.refl s)

end State

end Sys2Proof.Machine
end

