-- ==== Sys2Proof/Laws/Gates.lean ====
section
/-!
SUPPORT. Laws/Gates.lean: where the checks that commands share let a command through: a host command's entry, a register write, a request to the Keeper, a
completion on an open queue.
-/

namespace Sys2Proof.Machine

namespace State

variable {s : State}

/-- A host command whose entry is first and is served runs on it. -/
theorem frontCmd_fetched {f : Fn} {q : Q} {opc : Nat} {x : FEntry} (run : FEntry → State → State) (h : Fetched s f q opc x) :
    s.frontCmd f.val q.val opc run = run x s := by
  obtain ⟨h1, h2, h3, h4, h5, h6, h7, h8⟩ := h
  simp only [frontCmd, h1, h2, h3, h4, h5, h6, h7, h8, Option.isSome_none, and_self, and_false, if_true, Bool.false_eq_true, if_false]

theorem hostCmd_fetched {f : Fn} {q : Q} {opc : Nat} {x : FEntry} (run : FEntry → State → State) (h : Fetched s f q opc x) :
    s.hostCmd f.val q.val opc run = run x (s.popFront f.val q.val) := frontCmd_fetched _ h

theorem subCmd_fetched {f : Fn} {q : Q} {opc sub n : Nat} {x : FEntry} (pre : FEntry → Option (Nat × Nat)) (run : FEntry → State → State)
    (h : Fetched s f q opc x) (hb : x.e.bytes 32 1 = sub) : s.subCmd f.val q.val opc sub n pre run = run x (s.popFront f.val q.val) :=
  (frontCmd_fetched _ h).trans (if_pos hb)

/-- A host command with no entry in front leaves the state (log entry 6). -/
theorem frontCmd_none {f q opc : Nat} (run : FEntry → State → State) (h : s.front f q = none) : s.frontCmd f q opc run = s := by
  simp only [frontCmd, h]

/-- A register write that the firewall and the power state admit has its effect (14, R511; 11, R415). -/
theorem guardWrite_admitted {m : Fin 16} {a : Nat} (effect : State → State) (h : Admitted s m a) : s.guardWrite m.val a effect = effect s := by
  simp only [guardWrite, h.1, h.2, Bool.not_true, Bool.false_eq_true, if_false]

/-- One that the firewall denies is refused and reported (14, R513). -/
theorem guardWrite_denied {m : Fin 16} {a r : Nat} (effect : State → State) (hm : s.mainOn = true) (h : s.denied m.val a true = some r) :
    s.guardWrite m.val a effect = s.refuseWrite m.val a r := by
  simp only [guardWrite, hm, h, Bool.not_true, Bool.false_eq_true, if_false]

/-- A service runs on the request that is next (12, R457). -/
theorem serve_requests {i svc : Nat} {x : KSlot} (run : Nat → Nat → KSlot → State → State) (h : Requests s i svc x) (hb : (s.startKcall i).bufOk x = true) :
    s.serve svc run = run (i / 4) (i % 4) x (s.startKcall i) := by
  obtain ⟨h1, h2, h3, h4, h5, h6, -⟩ := h
  obtain ⟨r, hr⟩ : ∃ r, s.cpu.korder = i :: r := by
    cases hk : s.cpu.korder with
    | nil => simp [hk] at h4
    | cons a r => simp only [hk, List.head?_cons, Option.some.injEq] at h4; exact ⟨r, by rw [h4]⟩
  have he : (exclusiveService svc && s.set.excl) = false := by
    cases hx : exclusiveService svc
    · rfl
    · rw [h3 hx]; rfl
  simp only [serve, h1, h2, he, hr, h5, h6, hb, Bool.not_true, Bool.or_self, Bool.false_eq_true, if_false, ne_eq, not_true_eq_false]

/-- Nothing that was sent is taken back. -/
theorem out_msix (s : State) (f v : Nat) : s.out ⊆ (s.msix f v).out := by
  unfold msix
  dsimp only
  split
  · exact fun _ => id
  · split
    · exact fun _ => id
    · exact fun _ => List.mem_cons_of_mem _

/-- A completion on an open queue is written at the tail (02, R59, R71). -/
theorem answered_complete {f : Fn} {q : Q} (x : FEntry) (st r0 r1 : Nat) (h : CqOpen s f q) :
    Answered s (s.complete f.val q.val x.e.cid.toNat st r0 r1) f q x st r0 r1 := by
  obtain ⟨h1, h2, h3, h4, h5⟩ := h
  have ho : s.fnOpen f.val = true := by simp only [fnLive, Bool.and_eq_true] at h1; exact h1.1
  have hn : ¬ s.qDepth f.val q.val ≤ s.cqUsed f.val q.val + 1 := by omega
  unfold Answered complete post
  simp only [ho, h1, h2, h3, h4, hn, Bool.not_true, Bool.or_self, Bool.false_eq_true, if_false, ne_eq, not_true_eq_false, decide_false]
  unfold writeCpl
  dsimp only
  have mem (t : State) (o : Out) : o ∈ ((t.send o).hqdReturn f.val q.val 1).out := List.mem_cons_self
  split
  · exact out_msix _ _ _ (mem _ _)
  · exact mem _ _

end State

end Sys2Proof.Machine
end

