-- ==== Sys2Proof/Laws/Memory.lean ====
section
/-!
SUPPORT. Laws/Memory.lean: reads after writes of a byte memory, and that every memory operation keeps the canonical form.
-/

namespace Sys2Proof.Machine

variable {α : Type}

theorem Tab.find_above {k k' : Nat} {t : Tab α} (h : Tab.above k t) (hk : k' ≤ k) : Tab.find k' t = none := by
  cases t with
  | nil => rfl
  | cons a t =>
    have := h a List.mem_cons_self
    simp only [Tab.find]
    rw [if_neg (by omega), if_pos (by omega)]

theorem Tab.find_del_self {k : Nat} {t : Tab α} (h : Tab.wf t = true) : Tab.find k (Tab.del k t) = none := by
  induction t with
  | nil => rfl
  | cons a t ih =>
    obtain ⟨j, w⟩ := a
    obtain ⟨ha, ht⟩ := Tab.wf_cons.mp h
    simp only [Tab.del]
    split
    · rename_i e; exact Tab.find_above ha (Nat.le_of_eq e)
    · split
      · simp only [Tab.find]; rw [if_neg ‹_›, if_pos ‹_›]
      · simp only [Tab.find]; rw [if_neg ‹_›, if_neg ‹_›]; exact ih ht

theorem Tab.find_del_ne {k k' : Nat} {t : Tab α} (h : Tab.wf t = true) (hk : k' ≠ k) : Tab.find k' (Tab.del k t) = Tab.find k' t := by
  induction t with
  | nil => rfl
  | cons a t ih =>
    obtain ⟨j, w⟩ := a
    obtain ⟨ha, ht⟩ := Tab.wf_cons.mp h
    simp only [Tab.del]
    split
    · rename_i e
      simp only [Tab.find]
      rw [if_neg (by omega)]
      split
      · exact Tab.find_above ha (by simp only; omega)
      · rfl
    · split
      · rfl
      · simp only [Tab.find, ih ht]

variable [DecidableEq α]

/-- A read after a write of the same place. -/
theorem Tab.getD_store_self {d v : α} {k : Nat} {t : Tab α} (h : Tab.wf t = true) : Tab.getD (Tab.store d k v t) k d = v := by
  unfold Tab.store Tab.getD
  split
  · rename_i e; rw [Tab.find_del_self h, e]; rfl
  · rw [Tab.find_put_self]; rfl

/-- A write leaves every other place. -/
theorem Tab.getD_store_ne {d v : α} {k k' : Nat} {t : Tab α} (h : Tab.wf t = true) (hk : k' ≠ k) :
    Tab.getD (Tab.store d k v t) k' d = Tab.getD t k' d := by
  unfold Tab.store Tab.getD
  split
  · rw [Tab.find_del_ne h hk]
  · rw [Tab.find_put_ne hk]

omit [DecidableEq α] in
/-- What canonical memories are made of. -/
theorem State.memWf_iff {s : State} : s.memWf = true ↔
    (∀ c, Memory.wf 0 (s.core c).tcm = true) ∧ Memory.wf 0 s.cpu.staging = true ∧ Memory.wf 0xFF s.efl.mem = true := by
  simp only [State.memWf, Bool.and_eq_true]
  constructor
  · rintro ⟨⟨⟨⟨h0, h1⟩, h2⟩, h3⟩, h4⟩
    refine ⟨fun c => ?_, h3, h4⟩
    unfold State.core
    split
    · exact h0
    · split <;> assumption
  · rintro ⟨h, h3, h4⟩
    exact ⟨⟨⟨⟨h 0, h 1⟩, h 2⟩, h3⟩, h4⟩

/-- A state with the same memories. -/
theorem State.memWf_congr {s t : State} (hc : ∀ c, (t.core c).tcm = (s.core c).tcm) (hs : t.cpu.staging = s.cpu.staging)
    (he : t.efl.mem = s.efl.mem) (h : s.memWf = true) : t.memWf = true := by
  rw [State.memWf_iff] at h ⊢
  simp only [hc, hs, he]
  exact h

theorem State.memWf_setFlashByte {s : State} (a v : Nat) (h : s.memWf = true) : (s.setFlashByte a v).memWf = true := by
  rw [State.memWf_iff] at h ⊢
  exact ⟨h.1, h.2.1, Memory.wf_store h.2.2⟩

theorem State.memWf_flashWrite {s : State} (a : Nat) (l : List Nat) (h : s.memWf = true) : (s.flashWrite a l).memWf = true := by
  induction l generalizing s a with
  | nil => exact h
  | cons v l ih => exact ih _ (State.memWf_setFlashByte a v h)

theorem State.memWf_flashBlank {s : State} (a n : Nat) (h : s.memWf = true) : (s.flashBlank a n).memWf = true := by
  rw [State.memWf_iff] at h ⊢
  exact ⟨h.1, h.2.1, Memory.wf_keep h.2.2⟩

/-- A core takes new registers whose TCM is canonical. -/
theorem State.memWf_setCore {s : State} (c : Nat) {x : Core} (hx : Memory.wf 0 x.tcm = true) (h : s.memWf = true) : (s.setCore c x).memWf = true := by
  simp only [State.memWf, Bool.and_eq_true] at h ⊢
  obtain ⟨⟨⟨⟨h0, h1⟩, h2⟩, h3⟩, h4⟩ := h
  unfold State.setCore
  split
  · exact ⟨⟨⟨⟨hx, h1⟩, h2⟩, h3⟩, h4⟩
  · split
    · exact ⟨⟨⟨⟨h0, hx⟩, h2⟩, h3⟩, h4⟩
    · exact ⟨⟨⟨⟨h0, h1⟩, hx⟩, h3⟩, h4⟩

theorem State.memWf_pokeByte {s : State} (c a v : Nat) (h : s.memWf = true) : (s.pokeByte c a v).memWf = true := by
  unfold State.pokeByte
  split
  · exact State.memWf_setCore c (Memory.wf_store ((State.memWf_iff.mp h).1 c)) h
  · split
    · rw [State.memWf_iff] at h ⊢
      exact ⟨h.1, Memory.wf_store h.2.1, h.2.2⟩
    · exact h

theorem State.memWf_pokeBytes {s : State} (c a : Nat) (l : List Nat) (h : s.memWf = true) : (s.pokeBytes c a l).memWf = true := by
  induction l generalizing s a with
  | nil => exact h
  | cons v l ih => exact ih _ (State.memWf_pokeByte c a v h)

end Sys2Proof.Machine
end

