-- ==== Sys2Proof/WellFormed.lean ====
section
/-!
DEFINITION. WellFormed.lean: the bounds that the rules put on a command's operands where their types do not: what a device of the spec can
be given. The meanings are total: they do not rest on these checks.
-/

namespace Sys2Proof

/-- A fetch burst brings at most 8 entries (02, R62). -/
def fetchOk : FetchEnd → Bool
  | .entries es => decide (es.length ≤ 8)
  | .error how => how != .ok

/-- A scatter list has at most 256 elements of a whole number of bytes (02, R68, R69). -/
def sgOk : SgEnd → Bool
  | .elems es => decide (es.length ≤ 256)
  | .error how => how != .ok

/-- A drive's NGUID has 16 bytes and its zones a capacity (07, R269). -/
def driveOk (d : Drive) : Bool := decide (d.nguid < 2 ^ 128) && decide (d.zones < 2 ^ 32) && decide (d.zcap < 2 ^ 32)

/-- A label names one of the four roles, a rank and a slot (07, R274). -/
def labelOk (l : Label) : Bool := decide (l.role ≤ 3) && decide (l.rank < 32) && decide (l.slot < 20) && decide (l.gen < 2 ^ 32)

/-- What a bring-up step gives (07, R271): a link rate of 2.5 to 32 GT/s, a drive or a label as above. -/
def bringOk : BringStep → Bool
  | .link rate => decide (1 ≤ rate.toNat ∧ rate.toNat ≤ 5)
  | .identified d => driveOk d
  | .label (.label l) => labelOk l
  | .label .empty => true
  | .label .invalid => true
  | .resetReleased => true
  | .ready => true
  | .queues => true

/-- The bays that a zones-changed event names are bay numbers (07, R267). -/
def asyncOk : AsyncEvent → Bool
  | .zonesChanged bays => bays.all fun b => b < 2 ^ 24
  | .fatal => true
  | .health => true
  | .namespaceChanged => true

/-- An append names an extent, a stripe and a slot that exist (07, R266). -/
def appendOk : AppendOf → Bool
  | .unit extent stripe slot _ => decide (extent < 4194304) && decide (stripe < 65536) && decide (slot < 20)
  | .metadata _ => true
  | .label _ => true

/-- The counted fields of an image fit theirs (10, R362–R367). -/
def imageOk (i : Image) : Bool :=
  decide (i.seq < 2 ^ 64) && decide (i.seqFloor < 2 ^ 64) && decide (i.extent < 2 ^ 32) && i.settings.all fun x => x.1 < 65536 && x.2.2 < 2 ^ 64

/-- A copy's chip size is a power of two that SFDP can give, and its image, if any, is as above (10, R368). -/
def copyOk (c : CopyRead) : Bool := decide (c.sizeLog ≤ 32) && (match c.image with | some i => imageOk i | none => true)

/-- What a start reads of the extent table names extents (05, R216). -/
def tableOk (t : TableRead) : Bool := t.open_.all fun x => x.1 < 4194304

/-- The marginal fuse words are among the 512 words (10, R383, R385). -/
def coldOk (c : ColdStart) : Bool := c.marginal.all fun x => x.1 < 512

/-- The words of a fuse read are among the 512 words (10, R385, R387). -/
def fuseOk (r : FuseRead) : Bool := (r.marginal.all fun x => x.1 < 512) && r.changed.all fun x => x.1 < 512

/-- A command's operands lie within the bounds of the rules. -/
def Instr.wellFormed (i : Instr) : Bool :=
  match i with
  | .aonReset c => coldOk c
  | .coldReset c => coldOk c
  | .resetPin => true
  | .adminReset _ _ => true
  | .porterCopyRead r => copyOk r.a && copyOk r.b
  | .mediaWaitEnd => true
  | .extentTableRestore t => tableOk t
  | .hostLinkUp _ rate width _ => decide (1 ≤ rate.toNat ∧ rate.toNat ≤ 6) && [1, 2, 4, 8, 16].contains width.toNat
  | .hostLinkLoss _ => true
  | .hostHotReset _ => true
  | .hostPerst _ => true
  | .vfEnableWrite _ _ _ => true
  | .flr _ => true
  | .dstateChange _ _ => true
  | .msixMaskWrite _ _ => true
  | .functionResetDone _ _ => true
  | .drainWindowExpire _ => true
  | .qctrlEnable _ _ _ => true
  | .qctrlDisable _ _ => true
  | .queueDisableDone _ _ => true
  | .fnSqtWrite _ _ _ => true
  | .fnCqhWrite _ _ _ => true
  | .sqFetch _ _ n => decide (1 ≤ n.val)
  | .sqFetchComplete _ _ r => fetchOk r
  | .scatterListFetch _ _ r => sgOk r
  | .dispatchRecord _ _ _ => true
  | .payloadSegmentArrive _ _ data => decide (data.length ≤ 1048576)
  | .payloadReadFail _ _ _ => true
  | .hostReadTimeout _ => true
  | .postCompletion _ _ => true
  | .cqCoalTimer _ _ => true
  | .fnEventEnWrite _ _ => true
  | .mbxPost _ _ => true
  | .mbxAck _ _ => true
  | .mbxOutWrite _ _ _ _ => true
  | .dirtyLogStart _ _ => true
  | .dirtyLogSync _ _ => true
  | .dirtyLogStop _ _ => true
  | .fnDlogHeadWrite _ _ _ => true
  | .vfStateSave _ _ => true
  | .vfStateRestore _ _ _ _ _ => true
  | .functionConfigure _ _ => true
  | .functionReset _ _ => true
  | .functionDiscard _ _ => true
  | .functionQuery _ _ => true
  | .append _ _ => true
  | .read _ _ => true
  | .verifyRange _ _ locs => decide (locs.length ≤ 4096)
  | .openLedgerCreate _ _ _ => true
  | .openLedgerRebind _ _ _ => true
  | .closeLedger _ _ => true
  | .checkpointNow _ _ => true
  | .getProof _ _ _ => true
  | .getRandom _ _ => true
  | .flush _ _ => true
  | .ledgerStatus _ _ => true
  | .readCheckpoint _ _ _ => true
  | .policyOpcode _ _ => true
  | .setSetting _ _ => true
  | .getSetting _ _ => true
  | .epochQuery _ _ => true
  | .getLog _ _ => true
  | .settingChangeWaitTimeout => true
  | .unitStallTimer => true
  | .epochConverged => true
  | .controlRecordResume => true
  | .laneAcceptWrite _ => true
  | .keyDerive _ _ => true
  | .laneRecordEnd _ _ _ => true
  | .laneAcceptRead _ _ => true
  | .laneReadVerdict _ _ => true
  | .readDmaComplete _ _ => true
  | .holdZeroDone _ => true
  | .laneParityError _ => true
  | .readItemRerun _ => true
  | .laneReset _ _ _ => true
  | .laneTest _ _ => true
  | .groupReset _ _ _ => true
  | .resetAll _ _ => true
  | .laneResetDone _ => true
  | .laneRetireWrite _ _ _ => true
  | .laneKatDone _ _ => true
  | .periodicKatDue _ => true
  | .groupPowerUpDone _ => true
  | .groupPowerDownDone _ => true
  | .voidSeal _ => true
  | .chainRecord _ _ => true
  | .checkpointTimeTrigger _ => true
  | .checkpointForm _ => true
  | .batchIntervalExpire => true
  | .batchSigned _ _ _ => true
  | .batchBlockStored => true
  | .metadataCopyRetry _ => true
  | .pkeJobDone _ _ _ _ => true
  | .setTimeAnchorNonce _ _ => true
  | .setTimeAnchorSubmit _ _ _ => true
  | .attest _ _ => true
  | .strEraseCache _ => true
  | .strDkcFlush _ => true
  | .journalCommitInterval => true
  | .journalCommitDone => true
  | .markBlockStored => true
  | .rootCommitInterval => true
  | .extPersist _ => true
  | .extJcommit _ => true
  | .persistDone _ => true
  | .ageDailyUpdate => true
  | .extentSramUe _ _ => true
  | .pwrFail => true
  | .pwrFailRestart => true
  | .mediaPresence _ => true
  | .driveBringupStep _ b => bringOk b
  | .driveAdmit _ => true
  | .bringupTimeout _ => true
  | .mediaLinkDownTimer _ => true
  | .mediaPresenceLost _ => true
  | .nvmeCommandTimeout _ _ => true
  | .driveAsyncEvent _ a => asyncOk a
  | .smartPoll _ _ _ => true
  | .unitAppendDone a _ => appendOk a
  | .unitAppendError a => appendOk a
  | .unitReadDone _ stripe _ _ _ => decide (stripe < 65536)
  | .reconstructStripe _ stripe _ _ => decide (stripe < 65536)
  | .stripeCloseTimer _ _ => true
  | .rebuildBayDone _ _ lost _ => lost.all fun x => x < 65536
  | .eventCrossingOverrun _ _ => true
  | .mpxPortReset _ _ => true
  | .rankCreate _ _ => true
  | .rankDelete _ _ => true
  | .rankAddSpare _ _ => true
  | .rankRemoveSpare _ _ => true
  | .rankReplace _ _ => true
  | .rankRejoin _ _ => true
  | .rankRecoverRead _ _ => true
  | .rankReleasePort _ _ => true
  | .rankQuery _ _ => true
  | .rankLocate _ _ => true
  | .patrolRead us => decide (us.length ≤ 20)
  | .patrolPace => true
  | .patrolPassEnd => true
  | .asyDailyScan => true
  | .migrationStart => true
  | .migrationStripeCopy _ us _ _ => decide (us.length ≤ 20)
  | .migrationDone _ => true
  | .bayZoneResetDone _ _ => true
  | .assayStart _ _ => true
  | .assayPause _ _ => true
  | .assayResume _ _ => true
  | .assayStop _ _ => true
  | .assayStatus _ _ => true
  | .assayEvacuate _ _ => true
  | .assayCancelEvacuate _ _ => true
  | .assaySlot _ _ => true
  | .assayExtentEnd => true
  | .assayBatchCheck _ => true
  | .assayRunEnd => true
  | .asyCtrlWrite _ _ => true
  | .releaseExtentsRelease _ _ list => decide (list.length ≤ 512)
  | .releaseExtentsHoldSet _ _ list => decide (list.length ≤ 512)
  | .releaseExtentsHoldClear _ _ list => decide (list.length ≤ 512)
  | .releaseExtentsQuery _ _ list => decide (list.length ≤ 512)
  | .rngSourceFail _ _ _ => true
  | .rngSourceRetry _ => true
  | .rngStartupPass _ => true
  | .rngBlockReady => true
  | .rngInstantiate _ => true
  | .rngReseed _ => true
  | .rngGenerateCall _ _ _ => true
  | .rngCtrlReseed _ _ => true
  | .rngRawCtrlWrite _ _ => true
  | .rngRawDataRead _ fresh => decide (fresh.length ≤ 65536)
  | .writeConfigImageBegin _ _ _ => true
  | .writeConfigImageWrite _ _ _ => true
  | .writeConfigImageFinish _ _ c _ => copyOk c
  | .writeConfigImageAbort _ _ => true
  | .fuseRereadTimer r => fuseOk r
  | .otpReread _ r => fuseOk r
  | .setPowerState _ _ => true
  | .sleepAdminDoorbell _ _ => true
  | .wakePin _ => true
  | .pwrGoodUnasked => true
  | .pwrGoodSeen => true
  | .xtal25Running => true
  | .pllLocked => true
  | .pwrGoodTimeout => true
  | .wakeRetryWaitEnd => true
  | .xtal25Timeout => true
  | .pllTimeout => true
  | .wakeAbort => true
  | .pwrGoodFall => true
  | .clockLoss => true
  | .rc32Trim _ => true
  | .supplyToVbat _ _ => true
  | .dwellEnd => true
  | .supplyToVaon _ _ => true
  | .vbatWarn _ => true
  | .xtal32Fail => true
  | .xtal32Retry _ _ => true
  | .clearFails _ => true
  | .calendarDeadline => true
  | .wakePulseEnd => true
  | .crossingWakeBurst => true
  | .isaAdd _ _ _ _ _ => true
  | .isaSub _ _ _ _ _ => true
  | .isaAnd _ _ _ _ _ => true
  | .isaAndn _ _ _ _ _ => true
  | .isaOr _ _ _ _ _ => true
  | .isaXor _ _ _ _ _ => true
  | .isaShl _ _ _ _ _ => true
  | .isaShr _ _ _ _ _ => true
  | .isaShra _ _ _ _ _ => true
  | .isaRotr _ _ _ _ _ => true
  | .isaLts _ _ _ _ _ => true
  | .isaLtu _ _ _ _ _ => true
  | .isaMul _ _ _ _ _ => true
  | .isaMulh _ _ _ _ _ => true
  | .isaMulhu _ _ _ _ _ => true
  | .isaDiv _ _ _ _ _ => true
  | .isaDivu _ _ _ _ _ => true
  | .isaRem _ _ _ _ _ => true
  | .isaRemu _ _ _ _ _ => true
  | .isaClz _ _ _ _ _ => true
  | .isaPopc _ _ _ _ _ => true
  | .isaBswap _ _ _ _ _ => true
  | .isaCallr _ _ _ _ _ => true
  | .isaCswp _ _ _ _ _ => true
  | .isaTrap _ _ _ _ _ => true
  | .isaBreak _ _ _ _ _ => true
  | .isaRetx _ _ _ _ _ => true
  | .isaIdle _ _ _ _ _ => true
  | .isaFence _ _ _ _ _ => true
  | .isaIflush _ _ _ _ _ => true
  | .isaHold _ _ _ _ _ => true
  | .isaHoldend _ _ _ _ _ => true
  | .isaAddi _ _ _ _ _ => true
  | .isaAndi _ _ _ _ _ => true
  | .isaOri _ _ _ _ _ => true
  | .isaXori _ _ _ _ _ => true
  | .isaLtsi _ _ _ _ _ => true
  | .isaLtui _ _ _ _ _ => true
  | .isaShli _ _ _ _ _ => true
  | .isaShri _ _ _ _ _ => true
  | .isaShrai _ _ _ _ _ => true
  | .isaAddh _ _ _ _ _ => true
  | .isaRdc _ _ _ _ _ => true
  | .isaWrc _ _ _ _ _ => true
  | .isaLb _ _ _ _ _ => true
  | .isaLbu _ _ _ _ _ => true
  | .isaLh _ _ _ _ _ => true
  | .isaLhu _ _ _ _ _ => true
  | .isaLw _ _ _ _ _ => true
  | .isaLwa _ _ _ _ _ => true
  | .isaSb _ _ _ _ _ => true
  | .isaSh _ _ _ _ _ => true
  | .isaSw _ _ _ _ _ => true
  | .isaSwr _ _ _ _ _ => true
  | .isaBeq _ _ _ _ _ => true
  | .isaBne _ _ _ _ _ => true
  | .isaBlt _ _ _ _ _ => true
  | .isaBle _ _ _ _ _ => true
  | .isaBltu _ _ _ _ _ => true
  | .isaBleu _ _ _ _ _ => true
  | .isaJ _ _ _ => true
  | .isaCall _ _ _ => true
  | .isaWadd _ _ _ _ _ _ => true
  | .isaWadc _ _ _ _ _ _ => true
  | .isaWsub _ _ _ _ _ _ => true
  | .isaWsbb _ _ _ _ _ _ => true
  | .isaWxor _ _ _ _ _ _ => true
  | .isaWand _ _ _ _ _ _ => true
  | .isaWor _ _ _ _ _ _ => true
  | .isaWshl _ _ _ _ _ _ => true
  | .isaWshr _ _ _ _ _ _ => true
  | .isaWmul _ _ _ _ _ _ => true
  | .isaWmulh _ _ _ _ _ _ => true
  | .isaWmodmul _ _ _ _ _ _ => true
  | .isaWclmul _ _ _ _ _ _ => true
  | .isaWgf8mul _ _ _ _ _ _ => true
  | .isaWcmp _ _ _ _ _ _ => true
  | .isaWld _ _ _ _ _ _ => true
  | .isaWst _ _ _ _ _ _ => true
  | .isaWget _ _ _ _ _ _ => true
  | .isaWput _ _ _ _ _ _ => true
  | .wideCommit _ _ => true
  | .postedStoreRefused _ => true
  | .interruptEntry _ => true
  | .holdOverrun _ => true
  | .sourceAssert _ _ => true
  | .icuCoalTimer _ => true
  | .icuTakeWrite _ _ => true
  | .icuRetireWrite _ _ => true
  | .icuSwiWrite _ _ => true
  | .icuSrcCfgWrite _ _ _ _ => true
  | .icuPcfgWrite _ _ _ => true
  | .lockstepMismatch _ => true
  | .kcallGo _ _ => true
  | .kcallDone _ _ => true
  | .settingSet => true
  | .settingGet => true
  | .random => true
  | .randomWaitTimeout => true
  | .tenantCreate => true
  | .tenantSet => true
  | .tenantDelete => true
  | .tenantQuery => true
  | .keyGenerate => true
  | .keyDelete => true
  | .keySeal => true
  | .keyOpen => true
  | .keyCmac => true
  | .keyCmacVerify => true
  | .pkVerify => true
  | .lcProvision _ => true
  | .lcInstallCert _ => true
  | .lcDeploy _ => true
  | .lcRetire _ => true
  | .polDmaGo _ _ _ => true
  | .polDmaDone _ _ data => decide (data.length ≤ 1048576)
  | .polCmdDone _ _ _ => true
  | .polCoreReset _ _ _ => true
  | .mpuCtrlWrite _ _ _ => true
  | .mpuRgnWrite _ _ _ _ _ => true
  | .mpuTagSet _ _ _ => true
  | .tagFillDone _ => true
  | .fwlCommit _ => true
  | .fwlCommitDone _ => true
  | .flashProgram _ _ _ => true
  | .flashErase _ _ _ => true
  | .flashSuspend _ _ _ => true
  | .flashResume _ _ _ => true
  | .flashProgramDone _ _ _ => true
  | .flashEraseDone _ _ _ => true
  | .flashSuspendEffect _ => true
  | .flashRefreshWalk _ => true
  | .tamperSample _ => true
  | .envExcursion _ _ _ _ _ => true
  | .detectorDisagree _ _ _ => true
  | .stimulusTestTimer _ => true
  | .tmpTest _ _ => true
  | .tmpLatchedWrite _ _ => true
  | .tamperLogCopy => true
  | .quorumSessionTimeout => true
  | .unlockOpen _ _ => true
  | .unlockStatus _ _ => true
  | .unlockActUnlock _ _ => true
  | .rollbackAccept _ _ => true
  | .rollbackReject _ _ => true
  | .restore _ _ _ => true
  | .unlockClose _ _ => true
  | .cardInsert => true
  | .cardRemove => true
  | .cardActivate _ => true
  | .atrReceived a => decide (a.chars.length ≤ 33)
  | .atrTimeout => true
  | .classChangeWaitEnd => true
  | .ppsExchange r => decide (r.length ≤ 6)
  | .cardSelect _ => true
  | .readCert _ _ => true
  | .authenticate _ => true
  | .getResponse _ _ => true
  | .cardWwtTimeout => true
  | .cardOvercurrent => true
  | .cardClockStop => true
  | .crdDeact _ => true
  | .enrol _ _ => true
  | .revoke _ _ => true
  | .custodianCommit _ _ => true
  | .custodianDiscard _ => true
  | .nfcFieldOn => true
  | .nfcFieldLost => true
  | .reqa => true
  | .wupa => true
  | .anticollision _ _ _ => true
  | .nfcSelect _ _ => true
  | .hlta => true
  | .nfcInvalidFrame _ => true
  | .read16 _ _ => true
  | .write4 _ _ _ _ => true
  | .getInfo _ _ => true
  | .auth1 _ _ _ => true
  | .auth2 _ _ => true
  | .nplKupd _ _ => true
  | .nplPupd _ _ => true
  | .pageUpdate _ _ _ => true
  | .nplRdCtrl _ _ => true
  | .nplKeySet _ => true
  | .nplKeyClear _ => true
  | .smbReadDevId => true
  | .smbReadDevStatus => true
  | .smbReadSerial => true
  | .smbReadAonEvent => true
  | .smbReadTemp => true
  | .smbReadAonSupply => true
  | .smbReadTamper => true
  | .smbReadCfgDigest => true
  | .smbInvalid => true
  | .smbTimeout => true
  | .bypass => true
  | .idcode => true
  | .samplePreload balls preload => decide (balls.length = preload.length)
  | .extest => true
  | .reg64HalfAccess _ _ _ _ => true
  | .registerWrite _ _ _ => true
  | .persistHoldoffEnd => true
  | .batchHoldoffEnd => true
  | .anchorStale => true
  | .unexpectedCompletion _ => true

end Sys2Proof
end

