-- ==== Sys2Proof/Tests/Slice0.lean ====
section
/-!
SUPPORT. Tests/Slice0.lean: small states; worked examples of the spec; an ill-formed command for each check of WellFormed.lean; and, for each
statement with hypotheses, a theorem `test_hyps_…` with one state and operands for each of its clauses that meet the hypotheses together.
-/

namespace Sys2Proof.Tests
open Sys2Proof.Machine

/-! ### Small states -/

def set (s : State) (l : List (Fld × Nat × Nat)) : State := l.foldl (fun t x => t.wr x.1 x.2.1 x.2.2) s
def cdw (l : List (Nat × Nat)) : BitVec 256 := BitVec.ofNat 256 (l.foldl (fun v x => v + x.2 * 2 ^ (8 * (x.1 - 32))) 0)
def en (opc : Nat) (l : List (Nat × Nat)) : Entry := { (default : Entry) with opc := BitVec.ofNat 8 opc, cid := 7, cdw := cdw l }
def fe (e : Entry) : FEntry := ⟨e, true, [(0x1000, 65536)], none⟩
def front (s : State) (f q : Nat) (x : FEntry) : State := s.setQ f q { QRt.empty with fetched := [x] }
/-- Booted, DEPLOYED, the PF of port A READY with queue 0 of depth 64, one firewall window over everything. -/
def base : State := set State.reset [(Reg.DEV_STATUS.ADMIN_READY, 0, 1), (Reg.DEV_STATUS.LIFECYCLE, 0, 2), (Reg.HIF_FN_CFG.STATE, 0, 1),
  (Reg.HIF_FN_CFG.QUOTA, 0, 64), (Reg.QCTRL.EN, 0, 1), (Reg.QCTRL.ACTIVE, 0, 1), (Reg.QCTRL.DEPTH, 0, 64), (Reg.PTR_STATUS.STAGE, 0, 12),
  (Reg.FWL_AWIN_BASE.EN, 0, 1), (Reg.FWL_AWIN_LIMIT.PAGE, 0, 0xFFFFF), (Reg.FWL_AWIN_PERM.RMASK, 0, 0xFFFF), (Reg.FWL_AWIN_PERM.WMASK, 0, 0xFFFF)]
def cmd (opc : Nat) (l : List (Nat × Nat)) : State := front base 0 0 (fe (en opc l))
def vf : State := { set base [(Reg.HIF_FN_CFG.STATE, 1, 1)] with host.pf := [(0, ⟨true, 4, false, 0, false⟩)] }
def lenE (n : Nat) (e : Entry) : Entry := { e with length := BitVec.ofNat 32 n }

def on (l : List (Fld × Nat × Nat)) : State := set base l
def q0 (x : QRt) : State := base.setQ 0 0 x
def led1 : State := base.setLedger 1 { (default : Ledger) with st := .bound, fn := 0, q := 0 }
def rec1 (r : Rec) : State := led1.setRec 1 0 r
/-- Tenant 0 with its key and one open, committed extent; ledger 1 bound to queue 0; lane group 0 in service; rank 0 of 2 + 1 units. -/
def full : State :=
  let s := led1.setTenant 0 ⟨1, 1, 10, 10, 1, 0, 0, [⟨6, 0⟩]⟩
  let s := { s with key.slots := [(0, ⟨1, 0, 1, 1, 1, 1⟩)], key.kek := 1 }
  let s := s.setExt 5 { Extent.blank with st := .openE, rank := 63, tenant := 0, keygen := 1, committed := true, next := 65536 }
  set s [(Reg.SLA_GRP_STATUS.POWERED, 0, 1), (Reg.SLA_GRP_STATUS.INSERVICE, 0, 1)]
def ios (s : State) (opc : Nat) (l : List (Nat × Nat)) (len : Nat) : State := front s 0 0 (fe { en opc l with ledger := 1, length := BitVec.ofNat 32 len })
def io (opc : Nat) (l : List (Nat × Nat)) (len : Nat) : State := ios full opc l len
def dl (s : State) : State := { s with host.dlog := [(0, ⟨0, 0, 9, false, []⟩)] }
def adm (s : State) (opc : Nat) (l : List (Nat × Nat)) (len : Nat) : State := front s 0 0 (fe (lenE len (en opc l)))
def sgl (s : State) (opc : Nat) (l : List (Nat × Nat)) (len : Nat) : State := front s 0 0 (fe { en opc l with length := BitVec.ofNat 32 len, sgcount := 1 })
def rank0 : RankRt := { (default : RankRt) with k := 2, m := 1, bays := 4, slots := [default, default, default] }
def item (x : Item) : State := { full.setItem 1 x with media.rank := [(0, rank0)] }
def hdr : Header := default
def dn : Dispatch → Nat | .done n _ => n | _ => 0
def du : Dispatch → State | .done _ u => u | _ => base
/-- Lane 0 READY in slot 0 of group 0, the record of ledger 1 waiting in the write queue. -/
def lane1 : State :=
  let s := set full [(Reg.SLA_LANE_STATUS.STATE, 0, 1), (Reg.SLA_LANE_STATUS.MAPPED, 0, 1), (Reg.SLA_GRP_MAP.VALID, 0, 1)]
  { s.setRec 1 0 { (default : Rec) with grp := 1, tenant := 0, extent := 5, keygen := 1 } with lane.wq := [recKey 1 0] }
def lane2 (r : Rec) : State := { lane1.setRec 1 0 r with lane.rt := [(0, { (default : LaneRt) with record := some (recKey 1 0), key := some (0, 5, 1) })] }
def item1 (x : Item) : State := { lane1.setItem 1 x with lane.rq := [1] }
def item2 (x : Item) : State := { lane1.setItem 1 x with lane.rt := [(0, { (default : LaneRt) with item := some 1, key := some (0, 5, 1) })], media.rank := [(0, rank0)] }
/-- Every lane IDLE. -/
def lane3 : State := { State.reset with regs := (List.range 256).map fun n => (n * 1024 + Reg.SLA_LANE_STATUS.STATE.id, 1) }
theorem lanes_find (c n : Nat) (l : List Nat) (hl : l.Pairwise (· < ·)) (hc : c < 1024) :
    Tab.find (n * 1024 + c) (l.map fun (k : Nat) => (k * 1024 + 89, 1)) = if c = 89 ∧ n ∈ l then some 1 else none := by
  induction l with
  | nil => simp [Tab.find]
  | cons k r ih =>
    have h := ih (List.Pairwise.of_cons hl)
    have hk : ∀ a ∈ r, k < a := fun a ha => List.rel_of_pairwise_cons hl ha
    simp only [List.map_cons, Tab.find, h]
    by_cases e : n * 1024 + c = k * 1024 + 89
    · rw [if_pos e, if_pos ⟨by omega, by have : n = k := (by omega); rw [this]; exact List.mem_cons_self⟩]
    · rw [if_neg e]
      by_cases q : n * 1024 + c < k * 1024 + 89
      · rw [if_pos q, if_neg]
        rintro ⟨h1, h2⟩
        rcases List.mem_cons.1 h2 with h2 | h2
        · omega
        · have := hk _ h2; omega
      · rw [if_neg q]
        have : (c = 89 ∧ n ∈ r) ↔ (c = 89 ∧ n ∈ k :: r) := by
          constructor
          · rintro ⟨a, b⟩; exact ⟨a, List.mem_cons_of_mem _ b⟩
          · rintro ⟨a, b⟩
            rcases List.mem_cons.1 b with b | b
            · omega
            · exact ⟨a, b⟩
        simp only [this]
theorem lanes_idle (g : Nat) (hg : g < 16) : ∀ n ∈ lane3.groupLanes g, lane3.laneState n = 1 := by
  intro n hn
  obtain ⟨i, hi, hx⟩ := List.mem_filterMap.1 hn
  have hi := List.mem_range.1 hi
  have f := fun c k => lanes_find c k (List.range 256) List.pairwise_lt_range
  have hl : lane3.rd Reg.SLA_GRP_MAP.LANE (g * 16 + i) = g * 16 + i := by
    show (Tab.find ((g * 16 + i) * 1024 + 106) _).getD (g * 16 + i) = _
    rw [show lane3.regs = (List.range 256).map fun (k : Nat) => (k * 1024 + 89, 1) from rfl, f 106 _ (by decide)]; simp
  split at hx
  · have : n = g * 16 + i := by rw [← hl]; exact (Option.some.inj hx).symm
    show (Tab.find (n * 1024 + 89) _).getD 0 = 1
    rw [show lane3.regs = (List.range 256).map fun (k : Nat) => (k * 1024 + 89, 1) from rfl, f 89 _ (by decide), if_pos ⟨rfl, List.mem_range.2 (by omega)⟩]; rfl
  · cases hx
def com : State := { full with key.journal := [.nextOffset 5 65536] }
def prt (st step : Nat) (l : Label) : State := { set full [(Reg.MPX_PORT_STATUS.STATE, 0, st)] with media.port := [(0, ⟨step, some ⟨9, 1, 1024, 8, 4, true⟩, l, false, 0⟩)] }
def rank1 : RankRt := { (default : RankRt) with k := 2, m := 1, gen := 3, bays := 4, slots := [⟨0, 9, 0⟩, ⟨0, 10, 1⟩, ⟨0, 11, 2⟩] }
def withRank (s : State) : State := { s with media.rank := [(0, rank1)] }
def stripe : State := { withRank full with media.stripes := [⟨5, 0, 0, 0, 65536, [], false, false⟩] }
def walk (l : List Nat) : State := { withRank full with media.walks := [⟨0, 0, l, false, none⟩], media.rank := [(0, { rank1 with logBays := l, slots := [⟨2, 9, 0⟩, ⟨0, 10, 1⟩, ⟨0, 11, 2⟩] })] }
def ck : CkEntry := { (default : CkEntry) with ledger := 1, seq := 2 }
def led3 : State := full.setLedger 1 { Ledger.blank with st := .bound, next := 3, unchained := 3 }
def pu : Place → State | .at _ _ u => u | .wait u => u | .noExtent u => u | .mediaFull => base
def drv (p : Nat) : PortRt := ⟨7, some ⟨100 + p, 2000, 1024, 8, 16, true⟩, default, false, 0⟩
def prts (l : List (Nat × Nat)) (s : State) : State := { set s (l.map fun x => (Reg.MPX_PORT_STATUS.STATE, x.1, x.2)) with media.port := l.map fun x => (x.1, drv x.1) }
def asy (r : AssayRun) (s : State) : State := { s with asy.run := some r }
def sealedExt (s : State) : State := s.setExt 5 { Extent.blank with st := .sealedE, rank := 0, bay := 0, tenant := 0, keygen := 1, committed := true, next := 2 ^ 20 }
def img : Image := { (default : Image) with formOk := true, kind := 2, seq := 5, extent := 8192, device := 0xC404, variants := 3, signer := 0, pub := 7, sigOk := true, tableOk := true, keysOk := true }
def copy : CopyRead := ⟨0x123456, 24, some img, true, false⟩
def boot (st : Nat) : State := { set full [(Reg.PTR_STATUS.STAGE, 0, st)] with cfg.boot := 1 }
def wake (w : Wake) : State := { full with aon.wake := some w }
def core0 (x : Core) : State := full.setCore 0 { x with run := .running }
def cpu : State := core0 (Core.reset 0)
/-- Core 0 running with two registers, a wide register and the start of its TCM filled. -/
def cpuR (a b : Word) : State := core0 { Core.reset 0 with g := ((Core.reset 0).g.set 1 a).set 2 b, w := ((Core.reset 0).w.set 1 5).set 2 7, tcm := [(0, 1), (1, 2), (4, 9)] }
def kc : State := { cpu with key.kek := 1 }
/-- A descriptor of tenant 9 at the start of core 0's TCM, and an image with an escrow key. -/
def kt : State := { kc with cpu.core0 := { kc.cpu.core0 with tcm := [(0, 9), (1, 1), (4, 4), (8, 4), (12, 1)] }, cfg.image := some { img with escrow := 1 } }
def kb : State := { kc with cpu.core0 := { kc.cpu.core0 with tcm := [(0x30, 9)] } }
def samp : Sample := default
def crd (st : CardStep) (x : CardEx) : State := { set full [(Reg.CRD_STATUS.PRESENT, 0, 1)] with crd.ex := some { x with step := st } }
def tagS (t : TagState) : State := { full with npl := { full.npl with fieldOn := 1, tag := t, logsFree := 1, memoOn := 1 } }
def ulk (sub act sess : Nat) : State := adm ((full.wr Reg.TMP_STATUS.SESSION 0 sess).wr Reg.AON_TICKS.TICKS 0 (2 ^ 40)) 0x8D [(32, sub), (33, act)] 0
theorem space : extentSpace = 2097152 ∨ extentSpace = 4194304 := by
  unfold extentSpace; cases Config.part128 <;> simp
theorem found (a : Nat) (b : Bool) (h : (findReg a).isSome = true) (h2 : ((findReg a).getD default).2.2 = b) :
    findReg a = some (((findReg a).getD default).1, ((findReg a).getD default).2.1, b) := by
  cases hf : findReg a with
  | none => rw [hf] at h; exact absurd h (by decide)
  | some x => rw [hf] at h2; subst h2; rfl
theorem fold_lt (l : List Nat) (h : ∀ x ∈ l, x < 256) : l.foldr (fun (b : Nat) (v : Nat) => b + 256 * v) 0 < 256 ^ l.length := by
  induction l with
  | nil => simp
  | cons a r ih =>
    have h1 := h a (List.mem_cons_self ..)
    have h2 := ih fun x hx => h x (List.mem_cons_of_mem _ hx)
    simp only [List.foldr_cons, List.length_cons, Nat.pow_succ]; omega
theorem xor_lt (l : List Nat) (a : Nat) (ha : a < 256) (h : ∀ x ∈ l, x < 256) : l.foldl (fun (a : Nat) (b : Nat) => a ^^^ b) a < 256 := by
  induction l generalizing a with
  | nil => exact ha
  | cons b r ih => exact ih (a ^^^ b) (Nat.xor_lt_two_pow (n := 8) ha (h b (List.mem_cons_self ..))) fun x hx => h x (List.mem_cons_of_mem _ hx)
theorem uid_lt : ∀ x ∈ tagUid, x < 256 := by
  simp [tagUid, leBytes]; omega
theorem cascade_lt (b : Bool) : cascadeBits b < 2 ^ 40 := by
  have hl : ∀ l : List Nat, (∀ x ∈ l, x < 256) → l.length = 4 → (l ++ [l.foldl (fun (a : Nat) (b : Nat) => a ^^^ b) 0]).foldr (fun (b : Nat) (v : Nat) => b + 256 * v) 0 < 2 ^ 40 := by
    intro l h hn
    have := fold_lt (l ++ [l.foldl (fun (a : Nat) (b : Nat) => a ^^^ b) 0]) (by
      intro x hx
      rcases List.mem_append.1 hx with hx | hx
      · exact h x hx
      · rw [List.mem_singleton.1 hx]; exact xor_lt l 0 (by decide) h)
    simpa [hn] using this
  have hu : tagUid.length = 7 := rfl
  cases b
  · refine hl (0x88 :: tagUid.take 3) ?_ (by simp [hu])
    intro x hx
    rcases List.mem_cons.1 hx with hx | hx
    · omega
    · exact uid_lt x (List.mem_of_mem_take hx)
  · exact hl (tagUid.drop 3) (fun x hx => uid_lt x (List.mem_of_mem_drop hx)) (by simp [hu])
/-- Core 0's TCM holds at 48–63 the tag of 36 zero bytes under key 1. -/
def kg : State := { kc with cpu.core0 := { kc.cpu.core0 with tcm := (List.range 16).map fun (i : Nat) => (48 + i, BitVec.ofNat 8 (Config.gcmTag 1 0 (List.replicate 36 0) % 2 ^ 128 / 256 ^ i)) } }
theorem bytes_read (n v : Nat) : ofBytes ((List.range n).map fun (i : Nat) => v / 256 ^ i % 256) = v % 256 ^ n := by
  induction n generalizing v with
  | zero => simp [ofBytes, Nat.mod_one]
  | succ n ih =>
    have h := ih (v / 256)
    rw [List.range_succ_eq_map, List.map_cons, List.map_map, ofBytes]
    have e : ((fun (i : Nat) => v / 256 ^ i % 256) ∘ Nat.succ) = fun (i : Nat) => v / 256 / 256 ^ i % 256 := by
      funext i; simp only [Function.comp, Nat.succ_eq_add_one, Nat.pow_succ', Nat.div_div_eq_div_mul]
    rw [e, h, Nat.pow_succ', Nat.mod_mul, Nat.pow_zero, Nat.div_one]
theorem tag_read (v : Nat) : v % 2 ^ 128 = ofBytes ((List.range 16).map fun (i : Nat) => (BitVec.ofNat 8 (v % 2 ^ 128 / 256 ^ i)).toNat) := by
  have h := bytes_read 16 (v % 2 ^ 128)
  simp only [BitVec.toNat_ofNat]
  rw [show (2 : Nat) ^ 8 = 256 from rfl, h, show (256 : Nat) ^ 16 = 2 ^ 128 from rfl, Nat.mod_mod]

/-! ### Worked examples of the spec -/

/-- The Orlacher record (03): 400,000 payload bytes are stored in 400,080. -/
theorem test_stored_size : storedSize 400000 = 400080 := by decide

/-- Extent 107,187 (05): its table entry. -/
theorem test_extent_entry :
    ({ Extent.blank with st := .sealedE, age := 37, rank := 2, bay := 1417, tenant := 5, keygen := 3, committed := true } : Extent).word =
      0x00004B00008001624205000000000003 := by decide +kernel

/-- The three addresses at Kessfurt (21): SLA_GRP_MAP[5][9], MPX_PORT_LAT of port 37, QMS_POOL[0]. -/
theorem test_register_addresses :
    ((findReg 0x40220564).map fun x => (x.1.name, x.2.1)) = some ("SLA_GRP_MAP", 5 * 16 + 9) ∧
    ((findReg 0x40925040).map fun x => (x.1.name, x.2.1)) = some ("MPX_PORT_LAT", 37) ∧
    ((findReg 0x40100200).map fun x => (x.1.name, x.2.1)) = some ("QMS_POOL", 0) := by decide +kernel

/-- Rank 6 of Sorvik (07): one zone to a bay of 4 + 2 with 64 KiB units in zones of 264 MiB; data unit 2 of stripe 381 lies in slot 5. -/
theorem test_rank_geometry :
    zonesPerBay 4 65536 264 = 1 ∧ ({ (default : RankRt) with k := 4, m := 2, unit64 := true } : RankRt).slotOf 381 2 = 5 := by decide

/-- Folding two tallies (12): 2^256 − 16 plus 0x25 is 0x15 with the carry set, and not zero. -/
theorem test_wadd_wraps : wideAdd (0 - 16) 0x25 0 = ⟨0x15, 3, 1⟩ := by decide +kernel

/-- The overrun at Sorvik (13): shared source 11 at level 6 is the one taken, ID 43, ahead of source 12 at level 3. -/
theorem test_interrupt_choice : (set (core0 { Core.reset 0 with ie := true }) [(Reg.ICU_SRC_CFG.EN, 11, 1), (Reg.ICU_SRC_CFG.LEVEL, 11, 6),
    (Reg.ICU_SRC_CFG.EN, 12, 1), (Reg.ICU_SRC_CFG.LEVEL, 12, 3), (Reg.ICU_PENDING.PEND, 0, 2 ^ 11 + 2 ^ 12)]).canInterrupt 0 = some 43 := by
  decide +kernel

/-- The card at Hallesund (17): its ATR leads to the PPS request with PPS1 0x95. -/
theorem test_atr : (match execAtrReceived ⟨[0x3B, 0xD5, 0x95, 0x00, 0x80, 0x1F, 0x47, 0x43, 0x55, 0x53, 0x31, 0x07, 0xEB], 0, 0, false⟩ (crd .atr default) with
    | .next t => t.crd.ex.map fun x => (x.step, x.pps1)
    | _ => none) = some (.pps, 0x95) := by decide +kernel

/-- No row of the table has bits, so no word spells a command. -/
theorem test_no_words : decodeTableWord 32 0 = none := rfl

/-! ### Ill-formed commands -/

theorem test_ill_cold : Instr.wellFormed (.coldReset ⟨true, [(512, 0)], true, true⟩) = false := by decide
theorem test_ill_copy : Instr.wellFormed (.porterCopyRead { (default : PorterRead) with a := ⟨0, 33, none, true, false⟩ }) = false := by decide
theorem test_ill_image :
    Instr.wellFormed (.porterCopyRead { (default : PorterRead) with b := ⟨0, 24, some { img with extent := 2 ^ 32 }, true, false⟩ }) = false := by decide
theorem test_ill_table : Instr.wellFormed (.extentTableRestore { (default : TableRead) with open_ := [(4194304, 0)] }) = false := by decide
theorem test_ill_link : Instr.wellFormed (.hostLinkUp 0 7 4 true) = false := by decide
theorem test_ill_width : Instr.wellFormed (.hostLinkUp 0 4 3 true) = false := by decide
theorem test_ill_fetch : Instr.wellFormed (.sqFetch 0 0 0) = false := by decide
theorem test_ill_burst : Instr.wellFormed (.sqFetchComplete 0 0 (.entries (List.replicate 9 default))) = false := by decide
theorem test_ill_list (l) (h : 256 < List.length l) : Instr.wellFormed (.scatterListFetch 0 0 (.elems l)) = false := decide_eq_false (by omega)
theorem test_ill_segment (l) (h : 1048576 < List.length l) : Instr.wellFormed (.payloadSegmentArrive 0 0 l) = false := decide_eq_false (by omega)
theorem test_ill_verify (l) (h : 4096 < List.length l) : Instr.wellFormed (.verifyRange 0 0 l) = false := decide_eq_false (by omega)
theorem test_ill_dma (l) (h : 1048576 < List.length l) : Instr.wellFormed (.polDmaDone 0 .ok l) = false := decide_eq_false (by omega)
theorem test_ill_raw (l) (h : 65536 < List.length l) : Instr.wellFormed (.rngRawDataRead 0 l) = false := decide_eq_false (by omega)
theorem test_ill_bringup : Instr.wellFormed (.driveBringupStep 0 (.link 6)) = false ∧
    Instr.wellFormed (.driveBringupStep 0 (.identified ⟨2 ^ 128, 1, 1, 1, 1, true⟩)) = false ∧
    Instr.wellFormed (.driveBringupStep 0 (.label (.label ⟨4, 0, 0, 0, 0⟩))) = false := by decide +kernel
theorem test_ill_async : Instr.wellFormed (.driveAsyncEvent 0 (.zonesChanged [2 ^ 24])) = false := by decide
theorem test_ill_append : Instr.wellFormed (.unitAppendDone (.unit 4194304 0 0 true) 0) = false ∧
    Instr.wellFormed (.unitAppendError (.unit 0 0 20 true)) = false := by decide
theorem test_ill_stripe : Instr.wellFormed (.unitReadDone 0 65536 0 .good none) = false ∧ Instr.wellFormed (.reconstructStripe 0 65536 0 none) = false ∧
    Instr.wellFormed (.rebuildBayDone 0 0 [65536] none) = false := by decide
theorem test_ill_checks : Instr.wellFormed (.patrolRead (List.replicate 21 .good)) = false ∧
    Instr.wellFormed (.migrationStripeCopy 0 (List.replicate 21 .good) none []) = false := by decide
theorem test_ill_release (l) (h : 512 < List.length l) : Instr.wellFormed (.releaseExtentsRelease 0 0 l) = false := decide_eq_false (by omega)
theorem test_ill_hold (l) (h : 512 < List.length l) : Instr.wellFormed (.releaseExtentsHoldSet 0 0 l) = false := decide_eq_false (by omega)
theorem test_ill_unhold (l) (h : 512 < List.length l) : Instr.wellFormed (.releaseExtentsHoldClear 0 0 l) = false := decide_eq_false (by omega)
theorem test_ill_query (l) (h : 512 < List.length l) : Instr.wellFormed (.releaseExtentsQuery 0 0 l) = false := decide_eq_false (by omega)
theorem test_ill_fuses : Instr.wellFormed (.fuseRereadTimer ⟨[], [(512, 0)]⟩) = false ∧ Instr.wellFormed (.otpReread 0 ⟨[(512, 0)], []⟩) = false ∧
    Instr.wellFormed (.aonReset ⟨true, [(512, 0)], true, true⟩) = false := by decide
theorem test_ill_atr : Instr.wellFormed (.atrReceived ⟨List.replicate 34 0, 0, 0, false⟩) = false ∧
    Instr.wellFormed (.ppsExchange (List.replicate 7 0)) = false := by decide
theorem test_ill_scan : Instr.wellFormed (.samplePreload [true] []) = false := by decide

/-! ### Hypotheses of the statements: each clause at a concrete state -/

section
set_option Elab.async false

theorem test_hyps_StepRunsFrontCommand : ∃ s : State, ∃ c : Instr, ∃ r : List Instr, s.pending = c :: r :=
  ⟨{ base with pending := [.hostPerst 0] }, .hostPerst 0, [], by decide +kernel⟩

theorem test_hyps_IdleStepTicks :
    (∃ s : State, s.pending = []) ∧
    (∃ s : State, ∃ g : Fld, ∃ j : Nat, s.pending = [] ∧ g.id % 1024 ≠ Reg.AON_TICKS.TICKS.id) :=
  ⟨⟨base, by decide +kernel⟩,
   ⟨base, Reg.DEV_STATUS.POWER, 0, by decide +kernel⟩⟩

theorem test_hyps_ExecLeavesQueue : ∃ c : Instr, ∃ s : State, ∃ t : State, exec c s = .next t :=
  ⟨.cardClockStop, base, base, rfl⟩

theorem test_hyps_StepKeepsMemoriesCanonical : ∃ s : State, ∃ t : State, s.memWf = true ∧ Machine.step s = .next t :=
  ⟨base, (base.tick), by decide +kernel, (rfl)⟩

theorem test_hyps_HostConfigurationCommands :
    (∃ p : Fin 2, ∃ rate : BitVec 3, ∃ width : BitVec 5, ∃ flit : Bool, ∃ s : State, (p.val = 0 ∨ s.setting 0x1001 ≠ 0)) ∧
    (∃ p : Fin 2, ∃ s : State, s.power = 2) ∧
    (∃ p : Fin 2, ∃ en : Bool, ∃ num : BitVec 16, ∃ s : State, s.bootMode = 0) ∧
    (∃ f : Fn, ∃ hot : Bool, ∃ s : State, isPf f.val = true) ∧
    (∃ f : Fn, ∃ v : Fin 65, ∃ m : Bool, ∃ s : State, s.fnExists f.val = true) ∧
    (∃ f : Fn, ∃ v : Fin 65, ∃ a : BitVec 64, ∃ d : BitVec 32, ∃ s : State, s.fnExists f.val = true) ∧
    (∃ f : Fn, ∃ on : Bool, ∃ s : State, s.fnExists f.val = true) :=
  ⟨⟨(0 : Fin 2), (default : BitVec 3), (default : BitVec 5), true, base, by decide +kernel⟩,
   ⟨(0 : Fin 2), on [(Reg.DEV_STATUS.POWER, 0, 2)], by decide +kernel⟩,
   ⟨(0 : Fin 2), true, (default : BitVec 16), base, by decide +kernel⟩,
   ⟨(0 : Fin 256), true, base, by decide +kernel⟩,
   ⟨(0 : Fin 256), (0 : Fin 65), true, base, by decide +kernel⟩,
   ⟨(0 : Fin 256), (0 : Fin 65), (default : BitVec 64), (default : BitVec 32), base, by decide +kernel⟩,
   ⟨(0 : Fin 256), true, base, by decide +kernel⟩⟩

theorem test_hyps_FunctionResets :
    (∃ p : Fin 2, ∃ s : State, s.power ≠ 2) ∧
    (∃ f : Fn, ∃ s : State, s.fnExists f.val = true ∧ s.fnState f.val ≤ 1) ∧
    (∃ f : Fn, ∃ q : Q, ∃ s : State, ∃ x : FEntry, Fetched s f q 0x83 x ∧ x.e.bytes 32 1 = 2 ∧ s.fnRefused f.val (entryFn x.e) = none ∧ onlyBytes x.e [(32, 4)] = true ∧ x.e.bytes 33 1 ≤ 1 ∧ s.fnState (entryFn x.e) ≤ 1) ∧
    (∃ f : Fn, ∃ us : BitVec 32, ∃ s : State, ∃ x : FnReset, (s.fnRt f.val).reset = some x ∧ x.drain = false ∧ ((s.recsOf f.val none).all fun k => match Tab.find k s.led.recs with | some r => r.tag.isSome || r.voidCause != 0 | none => true) = true) ∧
    (∃ f : Fn, ∃ s : State, ∃ x : FnReset, (s.fnRt f.val).reset = some x ∧ x.drain = true) ∧
    (∃ f : Fn, ∃ q : Q, ∃ s : State, (s.qrt f.val q.val).draining = true) ∧
    (∃ f : Fn, ∃ s : State, ∃ v : SaveRun, (s.fnRt f.val).save = some v ∧ (s.openFn f.val = true ∨ (s.fnRt v.reqFn).d3 = false)) :=
  ⟨⟨(0 : Fin 2), base, by decide +kernel⟩,
   ⟨(0 : Fin 256), base, by decide +kernel⟩,
   ⟨(0 : Fin 256), (0 : Fin 64), cmd 0x83 [(32,2)], ((cmd 0x83 [(32,2)] : State).qrt ((0 : Fin 256) : Fn).val ((0 : Fin 64) : Q).val).fetched.headD default, by decide +kernel⟩,
   ⟨(0 : Fin 256), (default : BitVec 32), base.setFn 0 { (default : FnRt) with reset := some default }, (((base.setFn 0 { (default : FnRt) with reset := some default } : State).fnRt ((0 : Fin 256) : Fn).val).reset).getD default, by decide +kernel⟩,
   ⟨(0 : Fin 256), base.setFn 0 { (default : FnRt) with reset := some { (default : FnReset) with drain := true } }, (((base.setFn 0 { (default : FnRt) with reset := some { (default : FnReset) with drain := true } } : State).fnRt ((0 : Fin 256) : Fn).val).reset).getD default, by decide +kernel⟩,
   ⟨(0 : Fin 256), (0 : Fin 64), q0 { QRt.empty with draining := true }, by decide +kernel⟩,
   ⟨(0 : Fin 256), base.setFn 0 { (default : FnRt) with save := some default }, (((base.setFn 0 { (default : FnRt) with save := some default } : State).fnRt ((0 : Fin 256) : Fn).val).save).getD default, by decide +kernel⟩⟩

theorem test_hyps_QueueCommands :
    (∃ f : Fn, ∃ q : Q, ∃ v : BitVec 32, ∃ s : State, s.fnExists f.val = true ∧ s.qActive f.val q.val = false ∧ v.getLsbD 31 = true ∧ s.fnState f.val = 1 ∧ s.activeQueues f.val < s.rd Reg.HIF_FN_CFG.QUOTA f.val ∧ v.toNat % 2 ^ 16 ≠ 1 ∧ v.toNat / 2 ^ 16 % 128 ≤ 63 ∧ (s.qrt f.val q.val).sqLow = 0 ∧ (s.qrt f.val q.val).cqLow = 0) ∧
    (∃ f : Fn, ∃ q : Q, ∃ v : BitVec 32, ∃ s : State, s.fnExists f.val = true ∧ s.qActive f.val q.val = false ∧ v.getLsbD 31 = true ∧ s.fnState f.val = 1 ∧ s.activeQueues f.val < s.rd Reg.HIF_FN_CFG.QUOTA f.val ∧ (v.toNat % 2 ^ 16 = 1 ∨ 63 < v.toNat / 2 ^ 16 % 128)) ∧
    (∃ f : Fn, ∃ q : Q, ∃ s : State, s.fnExists f.val = true ∧ s.qActive f.val q.val = true ∧ s.isSet Reg.QCTRL.EN (qix f.val q.val) = true) ∧
    (∃ f : Fn, ∃ q : Q, ∃ s : State, (s.qrt f.val q.val).draining = true ∧ ((s.qrt f.val q.val).expired = true ∨ s.openCmds f.val q.val = false)) ∧
    (∃ f : Fn, ∃ q : Q, ∃ v : BitVec 32, ∃ s : State, s.fnExists f.val = true ∧ s.qActive f.val q.val = true ∧ s.isSet Reg.QCTRL.EN (qix f.val q.val) = true ∧ v.toNat % 65536 < s.qDepth f.val q.val) ∧
    (∃ f : Fn, ∃ q : Q, ∃ v : BitVec 32, ∃ s : State, s.fnExists f.val = true ∧ s.qActive f.val q.val = true ∧ s.isSet Reg.QCTRL.EN (qix f.val q.val) = true ∧ s.qDepth f.val q.val ≤ v.toNat % 65536 ∧ s.rd Reg.QCTRL.FAULT (qix f.val q.val) = 0) ∧
    (∃ f : Fn, ∃ q : Q, ∃ v : BitVec 32, ∃ s : State, s.fnExists f.val = true ∧ s.qActive f.val q.val = true ∧ v.toNat % 65536 < s.qDepth f.val q.val ∧ (v.toNat % 65536 + s.qDepth f.val q.val - (s.qrt f.val q.val).cqHead) % s.qDepth f.val q.val ≤ s.cqUsed f.val q.val) ∧
    (∃ f : Fn, ∃ q : Q, ∃ n : Fin 9, ∃ s : State, ∃ at_ : Nat, ∃ d : Nat, d = s.qDepth f.val q.val ∧ at_ = (s.rd Reg.QSTATUS.SQHEAD (qix f.val q.val) + (s.qrt f.val q.val).inFetch.sum) % d ∧ n.val ≠ 0 ∧ n.val ≤ s.setting 0x1004 ∧ n.val ≤ ((s.qrt f.val q.val).sqTail + d - at_) % d ∧ s.qActive f.val q.val = true ∧ s.isSet Reg.QCTRL.EN (qix f.val q.val) = true ∧ s.rd Reg.QCTRL.FAULT (qix f.val q.val) = 0 ∧ s.fnExists f.val = true ∧ s.fnState f.val = 1 ∧ (s.fnRt f.val).d3 = false ∧ (s.fnRt f.val).save = none ∧ s.served f.val q.val = true ∧ s.aon.move = none ∧ s.rd Reg.HIF_FN_HQD.OCC f.val + n.val ≤ s.rd Reg.HIF_FN_HQD.POOL f.val) ∧
    (∃ f : Fn, ∃ q : Q, ∃ es : List Entry, ∃ rest : List Nat, ∃ s : State, (s.qrt f.val q.val).inFetch = es.length :: rest ∧ (s.fnRt f.val).d3 = false) ∧
    (∃ f : Fn, ∃ q : Q, ∃ es : List SgElem, ∃ s : State, ∃ y : FEntry, (s.qrt f.val q.val).fetched.find? (fun z => !z.sgOk) = some y ∧ es.length = y.e.sgcount.toNat ∧ sgWellFormed es y.e.length.toNat = true) :=
  ⟨⟨(0 : Fin 256), (0 : Fin 64), 0x80000040, on [(Reg.QCTRL.ACTIVE, 0, 0), (Reg.QCTRL.EN, 0, 0)], by decide +kernel⟩,
   ⟨(0 : Fin 256), (0 : Fin 64), 0x80000001, on [(Reg.QCTRL.ACTIVE, 0, 0), (Reg.QCTRL.EN, 0, 0)], by decide +kernel⟩,
   ⟨(0 : Fin 256), (0 : Fin 64), base, by decide +kernel⟩,
   ⟨(0 : Fin 256), (0 : Fin 64), q0 { QRt.empty with draining := true }, by decide +kernel⟩,
   ⟨(0 : Fin 256), (0 : Fin 64), (default : BitVec 32), base, by decide +kernel⟩,
   ⟨(0 : Fin 256), (0 : Fin 64), 64, base, by decide +kernel⟩,
   ⟨(0 : Fin 256), (0 : Fin 64), (default : BitVec 32), base, by decide +kernel⟩,
   ⟨(0 : Fin 256), (0 : Fin 64), 1, q0 { QRt.empty with sqTail := 5 }, ((q0 { QRt.empty with sqTail := 5 } : State).rd Reg.QSTATUS.SQHEAD (qix ((0 : Fin 256) : Fn).val ((0 : Fin 64) : Q).val) + ((q0 { QRt.empty with sqTail := 5 } : State).qrt ((0 : Fin 256) : Fn).val ((0 : Fin 64) : Q).val).inFetch.sum) % ((q0 { QRt.empty with sqTail := 5 } : State).qDepth ((0 : Fin 256) : Fn).val ((0 : Fin 64) : Q).val : Nat), (q0 { QRt.empty with sqTail := 5 } : State).qDepth ((0 : Fin 256) : Fn).val ((0 : Fin 64) : Q).val, by decide +kernel⟩,
   ⟨(0 : Fin 256), (0 : Fin 64), [default], [], q0 { QRt.empty with inFetch := [1] }, by decide +kernel⟩,
   ⟨(0 : Fin 256), (0 : Fin 64), [⟨0x1000, 4096, 0⟩], q0 { QRt.empty with fetched := [⟨{ (default : Entry) with length := 4096, sgcount := 1 }, false, [], none⟩] }, ((q0 { QRt.empty with fetched := [⟨{ (default : Entry) with length := 4096, sgcount := 1 }, false, [], none⟩] } : State).qrt ((0 : Fin 256) : Fn).val ((0 : Fin 64) : Q).val).fetched.headD default, by decide +kernel⟩⟩

theorem test_hyps_RecordTransferCommands :
    (∃ l : BitVec 16, ∃ n : BitVec 64, ∃ data : List (BitVec 8), ∃ s : State, ∃ r : Rec, s.rec? l.toNat n.toNat = some r ∧ r.voidCause = 0 ∧ r.tag = none ∧ r.data.length < r.length ∧ data.length = min 8192 (r.length - r.data.length) ∧ r.data.length + data.length ≤ r.asked) ∧
    (∃ l : BitVec 16, ∃ n : BitVec 64, ∃ how : LinkEnd, ∃ s : State, ∃ r : Rec, how ≠ .ok ∧ s.rec? l.toNat n.toNat = some r ∧ r.data.length < r.length ∧ r.voidCause = 0 ∧ r.tag = none ∧ r.chained = false) ∧
    (∃ f : Fn, ∃ q : Q, ∃ s : State, (s.qrt f.val q.val).inFetch ≠ [] ∧ s.rd Reg.QCTRL.FAULT (qix f.val q.val) = 0) ∧
    (∃ l : BitVec 16, ∃ how : LinkEnd, ∃ s : State, ∃ r : Rec, s.rec? l.toNat (s.ledger l.toNat).uncompleted = some r ∧ r.completed = false ∧ s.recReady l.toNat (s.ledger l.toNat).uncompleted r = true) ∧
    (∃ f : Fn, ∃ q : Q, ∃ s : State, (s.qrt f.val q.val).coal ≠ 0 ∧ s.qActive f.val q.val = true) :=
  ⟨⟨1, 0, List.replicate 10 0, rec1 { (default : Rec) with length := 10, asked := 10 }, ((rec1 { (default : Rec) with length := 10, asked := 10 } : State).rec? (1 : BitVec 16).toNat (0 : BitVec 64).toNat).getD default, by decide +kernel⟩,
   ⟨1, 0, LinkEnd.timeout, rec1 { (default : Rec) with length := 10 }, ((rec1 { (default : Rec) with length := 10 } : State).rec? (1 : BitVec 16).toNat (0 : BitVec 64).toNat).getD default, by decide +kernel⟩,
   ⟨(0 : Fin 256), (0 : Fin 64), q0 { QRt.empty with inFetch := [1] }, by decide +kernel⟩,
   ⟨1, (default : LinkEnd), rec1 { (default : Rec) with durable := true, owed := true, tag := some 0, chained := true }, ((rec1 { (default : Rec) with durable := true, owed := true, tag := some 0, chained := true } : State).rec? (1 : BitVec 16).toNat ((rec1 { (default : Rec) with durable := true, owed := true, tag := some 0, chained := true } : State).ledger (1 : BitVec 16).toNat).uncompleted).getD default, by decide +kernel⟩,
   ⟨(0 : Fin 256), (0 : Fin 64), q0 { QRt.empty with coal := 1 }, by decide +kernel⟩⟩

theorem test_hyps_MailboxCommands :
    (∃ f : Fn, ∃ v : BitVec 32, ∃ s : State, s.fnExists f.val = true) ∧
    (∃ f : Fn, ∃ s : State, s.fnExists f.val = true ∧ s.isSet Reg.MBX_STATUS.OUT_FULL f.val = false) ∧
    (∃ f : Fn, ∃ s : State, s.fnExists f.val = true ∧ s.isSet Reg.MBX_STATUS.IN_FULL f.val = false) ∧
    (∃ f : Fn, ∃ s : State, s.fnExists f.val = true ∧ s.isSet Reg.MBX_STATUS.OUT_FULL f.val = true) ∧
    (∃ f : Fn, ∃ s : State, s.fnExists f.val = true ∧ s.isSet Reg.MBX_STATUS.IN_FULL f.val = true) ∧
    (∃ f : Fn, ∃ n : Fin 16, ∃ v : BitVec 32, ∃ s : State, s.fnExists f.val = true ∧ s.isSet Reg.MBX_STATUS.OUT_FULL f.val = false) ∧
    (∃ f : Fn, ∃ n : Fin 16, ∃ v : BitVec 32, ∃ s : State, s.fnExists f.val = true ∧ s.isSet Reg.MBX_STATUS.OUT_FULL f.val = true) :=
  ⟨⟨(0 : Fin 256), (default : BitVec 32), base, by decide +kernel⟩,
   ⟨(0 : Fin 256), base, by decide +kernel⟩,
   ⟨(0 : Fin 256), base, by decide +kernel⟩,
   ⟨(0 : Fin 256), on [(Reg.MBX_STATUS.OUT_FULL, 0, 1), (Reg.MBX_STATUS.IN_FULL, 0, 1)], by decide +kernel⟩,
   ⟨(0 : Fin 256), on [(Reg.MBX_STATUS.OUT_FULL, 0, 1), (Reg.MBX_STATUS.IN_FULL, 0, 1)], by decide +kernel⟩,
   ⟨(0 : Fin 256), (0 : Fin 16), (default : BitVec 32), base, by decide +kernel⟩,
   ⟨(0 : Fin 256), (0 : Fin 16), (default : BitVec 32), on [(Reg.MBX_STATUS.OUT_FULL, 0, 1), (Reg.MBX_STATUS.IN_FULL, 0, 1)], by decide +kernel⟩⟩

theorem test_hyps_FunctionControlCommands :
    (∃ f : Fn, ∃ q : Q, ∃ s : State, ∃ x : FEntry, Fetched s f q 0x8A x ∧ x.e.bytes 32 1 = 1 ∧ s.fnRefused f.val (entryFn x.e) = none ∧ onlyBytes x.e [(32, 5)] = true ∧ isPf (entryFn x.e) = false ∧ x.e.bytes 33 1 ≤ 7 ∧ 9 ≤ x.e.bytes 36 1 ∧ x.e.bytes 36 1 ≤ 20 ∧ x.e.dptr.toNat % 4096 = 0 ∧ Tab.find (portOf f.val * 8 + x.e.bytes 33 1) s.host.dlog = none) ∧
    (∃ f : Fn, ∃ q : Q, ∃ s : State, ∃ x : FEntry, Fetched s f q 0x8A x ∧ CqOpen s f q ∧ x.e.bytes 32 1 = 2 ∧ s.fnRefused f.val (entryFn x.e) = none ∧ onlyBytes x.e [(32, 4)] = true ∧ x.e.bytes 33 1 ≤ 7 ∧ s.slotIdle (portOf f.val * 8 + x.e.bytes 33 1) (entryFn x.e) = false) ∧
    (∃ f : Fn, ∃ q : Q, ∃ s : State, ∃ x : FEntry, Fetched s f q 0x8A x ∧ x.e.bytes 32 1 = 3 ∧ s.fnRefused f.val (entryFn x.e) = none ∧ onlyBytes x.e [(32, 4)] = true ∧ x.e.bytes 33 1 ≤ 7 ∧ s.slotIdle (portOf f.val * 8 + x.e.bytes 33 1) (entryFn x.e) = false) ∧
    (∃ f : Fn, ∃ slot : Fin 8, ∃ v : BitVec 32, ∃ s : State, isPf f.val = true) ∧
    (∃ f : Fn, ∃ q : Q, ∃ s : State, ∃ x : FEntry, Fetched s f q 0x8B x ∧ s.fnRefused f.val (entryFn x.e) = none ∧ onlyBytes x.e [(34, 2)] = true ∧ isPf (entryFn x.e) = false ∧ x.e.length.toNat = 16384 ∧ x.e.sgcount.toNat = 1 ∧ s.fnState (entryFn x.e) = 1 ∧ (s.fnRt (entryFn x.e)).save = none ∧ s.openFn (entryFn x.e) = false) ∧
    (∃ f : Fn, ∃ q : Q, ∃ g : Fn, ∃ c : BitVec 64, ∃ s : State, ∃ x : FEntry, ∃ b : Blob, Fetched s f q 0x8C x ∧ entryFn x.e = g.val ∧ s.fnRefused f.val g.val = none ∧ onlyBytes x.e [(34, 2)] = true ∧ isPf g.val = false ∧ x.e.length.toNat = 16384 ∧ x.e.sgcount.toNat = 1 ∧ s.fnState g.val = 3 ∧ Tab.find g.val s.host.blobs = some b ∧ b.counter = c.toNat ∧ (s.fnRt g.val).blobValid = true ∧ b.queues.length ≤ 64 ∧ s.quotaSum - s.rd Reg.HIF_FN_CFG.QUOTA g.val + b.quota ≤ 4096) ∧
    (∃ f : Fn, ∃ q : Q, ∃ s : State, ∃ x : FEntry, Fetched s f q 0x83 x ∧ x.e.bytes 32 1 = 1 ∧ s.fnRefused f.val (entryFn x.e) = none ∧ (s.fnState (entryFn x.e) = 0 ∨ s.fnState (entryFn x.e) = 1) ∧ onlyBytes x.e [(32, 1), (34, 12)] = true ∧ (s.tenant (x.e.bytes 36 1)).st ≠ 0 ∧ x.e.bytes 37 1 ≤ 64 ∧ s.activeQueues (entryFn x.e) ≤ x.e.bytes 37 1 ∧ x.e.bytes 39 1 / 32 % 4 = 0 ∧ x.e.bytes 39 1 % 32 ≤ 20 ∧ x.e.bytes 40 4 < 2 ^ 20 ∧ x.e.bytes 40 4 % 2 ^ (x.e.bytes 39 1 % 32) = 0 ∧ 4 ≤ x.e.bytes 44 2 ∧ x.e.bytes 44 2 ≤ 256 ∧ s.activeQueues (entryFn x.e) = 0 ∧ s.quotaSum - s.rd Reg.HIF_FN_CFG.QUOTA (entryFn x.e) + x.e.bytes 37 1 ≤ 4096 ∧ s.hqdSum - s.rd Reg.HIF_FN_HQD.POOL (entryFn x.e) + x.e.bytes 44 2 ≤ 8192) ∧
    (∃ f : Fn, ∃ q : Q, ∃ s : State, ∃ x : FEntry, Fetched s f q 0x83 x ∧ x.e.bytes 32 1 = 3 ∧ s.fnRefused f.val (entryFn x.e) = none ∧ onlyBytes x.e [(32, 1), (34, 2)] = true ∧ s.fnState (entryFn x.e) = 3) ∧
    (∃ f : Fn, ∃ q : Q, ∃ s : State, ∃ x : FEntry, Fetched s f q 0x83 x ∧ CqOpen s f q ∧ x.e.bytes 32 1 = 4 ∧ s.fnRefused f.val (entryFn x.e) = none ∧ onlyBytes x.e [(32, 1), (34, 2)] = true) :=
  ⟨⟨(0 : Fin 256), (0 : Fin 64), front vf 0 0 (fe (en 0x8A [(32,1),(34,1),(36,9)])), ((front vf 0 0 (fe (en 0x8A [(32,1),(34,1),(36,9)])) : State).qrt ((0 : Fin 256) : Fn).val ((0 : Fin 64) : Q).val).fetched.headD default, by decide +kernel⟩,
   ⟨(0 : Fin 256), (0 : Fin 64), dl (cmd 0x8A [(32,2)]), ((dl (cmd 0x8A [(32,2)]) : State).qrt ((0 : Fin 256) : Fn).val ((0 : Fin 64) : Q).val).fetched.headD default, by decide +kernel⟩,
   ⟨(0 : Fin 256), (0 : Fin 64), dl (cmd 0x8A [(32,3)]), ((dl (cmd 0x8A [(32,3)]) : State).qrt ((0 : Fin 256) : Fn).val ((0 : Fin 64) : Q).val).fetched.headD default, by decide +kernel⟩,
   ⟨(0 : Fin 256), (0 : Fin 8), (default : BitVec 32), base, by decide +kernel⟩,
   ⟨(0 : Fin 256), (0 : Fin 64), sgl vf 0x8B [(34,1)] 16384, ((sgl vf 0x8B [(34,1)] 16384 : State).qrt ((0 : Fin 256) : Fn).val ((0 : Fin 64) : Q).val).fetched.headD default, by decide +kernel⟩,
   ⟨(0 : Fin 256), (0 : Fin 64), 1, 7, { sgl (set vf [(Reg.HIF_FN_CFG.STATE, 1, 3)]) 0x8C [(34,1)] 16384 with host.fn := [(1, { (default : FnRt) with blobValid := true })], host.blobs := [(1, { (default : Blob) with counter := 7 })] }, (({ sgl (set vf [(Reg.HIF_FN_CFG.STATE, 1, 3)]) 0x8C [(34,1)] 16384 with host.fn := [(1, { (default : FnRt) with blobValid := true })], host.blobs := [(1, { (default : Blob) with counter := 7 })] } : State).qrt ((0 : Fin 256) : Fn).val ((0 : Fin 64) : Q).val).fetched.headD default, (Tab.find (1 : Fn).val ({ sgl (set vf [(Reg.HIF_FN_CFG.STATE, 1, 3)]) 0x8C [(34,1)] 16384 with host.fn := [(1, { (default : FnRt) with blobValid := true })], host.blobs := [(1, { (default : Blob) with counter := 7 })] } : State).host.blobs).getD default, by decide +kernel⟩,
   ⟨(0 : Fin 256), (0 : Fin 64), adm { full with host.pf := [(0, ⟨true, 4, false, 0, false⟩)] } 0x83 [(32,1),(34,1),(37,8),(44,4)] 0, ((adm { full with host.pf := [(0, ⟨true, 4, false, 0, false⟩)] } 0x83 [(32,1),(34,1),(37,8),(44,4)] 0 : State).qrt ((0 : Fin 256) : Fn).val ((0 : Fin 64) : Q).val).fetched.headD default, by decide +kernel⟩,
   ⟨(0 : Fin 256), (0 : Fin 64), adm (set vf [(Reg.HIF_FN_CFG.STATE, 1, 3)]) 0x83 [(32,3),(34,1)] 0, ((adm (set vf [(Reg.HIF_FN_CFG.STATE, 1, 3)]) 0x83 [(32,3),(34,1)] 0 : State).qrt ((0 : Fin 256) : Fn).val ((0 : Fin 64) : Q).val).fetched.headD default, by decide +kernel⟩,
   ⟨(0 : Fin 256), (0 : Fin 64), adm vf 0x83 [(32,4),(34,1)] 0, ((adm vf 0x83 [(32,4),(34,1)] 0 : State).qrt ((0 : Fin 256) : Fn).val ((0 : Fin 64) : Q).val).fetched.headD default, by decide +kernel⟩⟩

theorem test_hyps_NumberingCommands :
    (∃ f : Fn, ∃ q : Q, ∃ s : State, ∃ u : State, ∃ x : FEntry, ∃ n : Nat, Fetched s f q 1 x ∧ s.appendRefused f.val q.val x = none ∧ s.dispatch (s.appendRecord f.val q.val x) = .done n u) ∧
    (∃ f : Fn, ∃ q : Q, ∃ s : State, ∃ u : State, ∃ x : FEntry, ∃ n : Nat, Fetched s f q 5 x ∧ s.ioChecks f.val q.val x true true true = none ∧ onlyBytes x.e [] = true ∧ s.dispatch (s.controlRecord f.val q.val x .close x.e.ledger.toNat 0 true) = .done n u) ∧
    (∃ f : Fn, ∃ q : Q, ∃ name : BitVec 128, ∃ s : State, ∃ u : State, ∃ x : FEntry, ∃ l : Nat, ∃ n : Nat, Fetched s f q 4 x ∧ x.e.bytes 32 1 = 1 ∧ s.ioChecks f.val q.val x false true false = none ∧ openFieldsOk x.e 1 = true ∧ x.e.ledger.toNat = 0 ∧ x.e.length.toNat = 0 ∧ s.freeLedger = some l ∧ s.ledgersHeld (s.fnTenant f.val) < (s.tenant (s.fnTenant f.val)).ledQuota ∧ (let c := initialChain l s.ticks (s.rd Reg.DEV_ARCHIVE_EPOCH.EPOCH 0); let v := (s.setLedger l { Ledger.blank with tenant := s.fnTenant f.val, openTicks := s.ticks, ckTicks := s.ticks, chain := c, firstChain := c }).bindLedger l f.val q.val x.e; v.dispatch (v.controlRecord f.val q.val x .openRec l 0 (v.ledger l).durableMode) = .done n u)) ∧
    (∃ f : Fn, ∃ q : Q, ∃ s : State, ∃ u : State, ∃ u1 : State, ∃ x : FEntry, ∃ n : Nat, ∃ n1 : Nat, Fetched s f q 4 x ∧ x.e.bytes 32 1 = 2 ∧ s.ioChecks f.val q.val x true true false = none ∧ openFieldsOk x.e 3 = true ∧ x.e.length.toNat = 0 ∧ (s.ledger x.e.ledger.toNat).st = .unbound ∧ (let l := x.e.ledger.toNat; let z := s.ledger l; let r := s.controlRecord f.val q.val x .bind l (bindLabel f.val q.val z.prevFn z.prevQ z.unbindCause) false; s.dispatch r = .done n1 u1 ∧ ((s.bindLedger l f.val q.val x.e).writeOrphans l).dispatch r = .done n u)) ∧
    (∃ f : Fn, ∃ q : Q, ∃ name : BitVec 128, ∃ s : State, ∃ x : FEntry, Fetched s f q 1 x) ∧
    (∃ f : Fn, ∃ q : Q, ∃ name : BitVec 128, ∃ s : State, ∃ x : FEntry, Fetched s f q 5 x) :=
  ⟨⟨(0 : Fin 256), (0 : Fin 64), io 1 [] 4096, du ((io 1 [] 4096 : State).dispatch ((io 1 [] 4096 : State).appendRecord ((0 : Fin 256) : Fn).val ((0 : Fin 64) : Q).val (((io 1 [] 4096 : State).qrt ((0 : Fin 256) : Fn).val ((0 : Fin 64) : Q).val).fetched.headD default : FEntry))), ((io 1 [] 4096 : State).qrt ((0 : Fin 256) : Fn).val ((0 : Fin 64) : Q).val).fetched.headD default, dn ((io 1 [] 4096 : State).dispatch ((io 1 [] 4096 : State).appendRecord ((0 : Fin 256) : Fn).val ((0 : Fin 64) : Q).val (((io 1 [] 4096 : State).qrt ((0 : Fin 256) : Fn).val ((0 : Fin 64) : Q).val).fetched.headD default : FEntry))), by decide +kernel⟩,
   ⟨(0 : Fin 256), (0 : Fin 64), io 5 [] 0, du ((io 5 [] 0 : State).dispatch ((io 5 [] 0 : State).controlRecord ((0 : Fin 256) : Fn).val ((0 : Fin 64) : Q).val (((io 5 [] 0 : State).qrt ((0 : Fin 256) : Fn).val ((0 : Fin 64) : Q).val).fetched.headD default : FEntry) .close (((io 5 [] 0 : State).qrt ((0 : Fin 256) : Fn).val ((0 : Fin 64) : Q).val).fetched.headD default : FEntry).e.ledger.toNat 0 true)), ((io 5 [] 0 : State).qrt ((0 : Fin 256) : Fn).val ((0 : Fin 64) : Q).val).fetched.headD default, dn ((io 5 [] 0 : State).dispatch ((io 5 [] 0 : State).controlRecord ((0 : Fin 256) : Fn).val ((0 : Fin 64) : Q).val (((io 5 [] 0 : State).qrt ((0 : Fin 256) : Fn).val ((0 : Fin 64) : Q).val).fetched.headD default : FEntry) .close (((io 5 [] 0 : State).qrt ((0 : Fin 256) : Fn).val ((0 : Fin 64) : Q).val).fetched.headD default : FEntry).e.ledger.toNat 0 true)), by decide +kernel⟩,
   ⟨(0 : Fin 256), (0 : Fin 64), (default : BitVec 128), adm full 4 [(32,1),(56,10)] 0, du (let c := initialChain (0 : Nat) (adm full 4 [(32,1),(56,10)] 0 : State).ticks ((adm full 4 [(32,1),(56,10)] 0 : State).rd Reg.DEV_ARCHIVE_EPOCH.EPOCH 0); let v := ((adm full 4 [(32,1),(56,10)] 0 : State).setLedger (0 : Nat) { Ledger.blank with tenant := (adm full 4 [(32,1),(56,10)] 0 : State).fnTenant ((0 : Fin 256) : Fn).val, openTicks := (adm full 4 [(32,1),(56,10)] 0 : State).ticks, ckTicks := (adm full 4 [(32,1),(56,10)] 0 : State).ticks, chain := c, firstChain := c }).bindLedger (0 : Nat) ((0 : Fin 256) : Fn).val ((0 : Fin 64) : Q).val (((adm full 4 [(32,1),(56,10)] 0 : State).qrt ((0 : Fin 256) : Fn).val ((0 : Fin 64) : Q).val).fetched.headD default : FEntry).e; v.dispatch (v.controlRecord ((0 : Fin 256) : Fn).val ((0 : Fin 64) : Q).val (((adm full 4 [(32,1),(56,10)] 0 : State).qrt ((0 : Fin 256) : Fn).val ((0 : Fin 64) : Q).val).fetched.headD default : FEntry) .openRec (0 : Nat) 0 (v.ledger (0 : Nat)).durableMode)), ((adm full 4 [(32,1),(56,10)] 0 : State).qrt ((0 : Fin 256) : Fn).val ((0 : Fin 64) : Q).val).fetched.headD default, 0, dn (let c := initialChain (0 : Nat) (adm full 4 [(32,1),(56,10)] 0 : State).ticks ((adm full 4 [(32,1),(56,10)] 0 : State).rd Reg.DEV_ARCHIVE_EPOCH.EPOCH 0); let v := ((adm full 4 [(32,1),(56,10)] 0 : State).setLedger (0 : Nat) { Ledger.blank with tenant := (adm full 4 [(32,1),(56,10)] 0 : State).fnTenant ((0 : Fin 256) : Fn).val, openTicks := (adm full 4 [(32,1),(56,10)] 0 : State).ticks, ckTicks := (adm full 4 [(32,1),(56,10)] 0 : State).ticks, chain := c, firstChain := c }).bindLedger (0 : Nat) ((0 : Fin 256) : Fn).val ((0 : Fin 64) : Q).val (((adm full 4 [(32,1),(56,10)] 0 : State).qrt ((0 : Fin 256) : Fn).val ((0 : Fin 64) : Q).val).fetched.headD default : FEntry).e; v.dispatch (v.controlRecord ((0 : Fin 256) : Fn).val ((0 : Fin 64) : Q).val (((adm full 4 [(32,1),(56,10)] 0 : State).qrt ((0 : Fin 256) : Fn).val ((0 : Fin 64) : Q).val).fetched.headD default : FEntry) .openRec (0 : Nat) 0 (v.ledger (0 : Nat)).durableMode)), by decide +kernel, by decide +kernel, by decide +kernel, by decide +kernel, by decide +kernel, by decide +kernel, by decide +kernel, by decide +kernel, (rfl)⟩,
   ⟨(0 : Fin 256), (0 : Fin 64), ios (full.setLedger 1 { Ledger.blank with st := .unbound }) 4 [(32,2),(56,10)] 0, du (let l := (((ios (full.setLedger 1 { Ledger.blank with st := .unbound }) 4 [(32,2),(56,10)] 0 : State).qrt ((0 : Fin 256) : Fn).val ((0 : Fin 64) : Q).val).fetched.headD default : FEntry).e.ledger.toNat; let z := (ios (full.setLedger 1 { Ledger.blank with st := .unbound }) 4 [(32,2),(56,10)] 0 : State).ledger l; let r := (ios (full.setLedger 1 { Ledger.blank with st := .unbound }) 4 [(32,2),(56,10)] 0 : State).controlRecord ((0 : Fin 256) : Fn).val ((0 : Fin 64) : Q).val (((ios (full.setLedger 1 { Ledger.blank with st := .unbound }) 4 [(32,2),(56,10)] 0 : State).qrt ((0 : Fin 256) : Fn).val ((0 : Fin 64) : Q).val).fetched.headD default : FEntry) .bind l (bindLabel ((0 : Fin 256) : Fn).val ((0 : Fin 64) : Q).val z.prevFn z.prevQ z.unbindCause) false; (((ios (full.setLedger 1 { Ledger.blank with st := .unbound }) 4 [(32,2),(56,10)] 0 : State).bindLedger l ((0 : Fin 256) : Fn).val ((0 : Fin 64) : Q).val (((ios (full.setLedger 1 { Ledger.blank with st := .unbound }) 4 [(32,2),(56,10)] 0 : State).qrt ((0 : Fin 256) : Fn).val ((0 : Fin 64) : Q).val).fetched.headD default : FEntry).e).writeOrphans l).dispatch r), du (let l := (((ios (full.setLedger 1 { Ledger.blank with st := .unbound }) 4 [(32,2),(56,10)] 0 : State).qrt ((0 : Fin 256) : Fn).val ((0 : Fin 64) : Q).val).fetched.headD default : FEntry).e.ledger.toNat; let z := (ios (full.setLedger 1 { Ledger.blank with st := .unbound }) 4 [(32,2),(56,10)] 0 : State).ledger l; let r := (ios (full.setLedger 1 { Ledger.blank with st := .unbound }) 4 [(32,2),(56,10)] 0 : State).controlRecord ((0 : Fin 256) : Fn).val ((0 : Fin 64) : Q).val (((ios (full.setLedger 1 { Ledger.blank with st := .unbound }) 4 [(32,2),(56,10)] 0 : State).qrt ((0 : Fin 256) : Fn).val ((0 : Fin 64) : Q).val).fetched.headD default : FEntry) .bind l (bindLabel ((0 : Fin 256) : Fn).val ((0 : Fin 64) : Q).val z.prevFn z.prevQ z.unbindCause) false; (ios (full.setLedger 1 { Ledger.blank with st := .unbound }) 4 [(32,2),(56,10)] 0 : State).dispatch r), ((ios (full.setLedger 1 { Ledger.blank with st := .unbound }) 4 [(32,2),(56,10)] 0 : State).qrt ((0 : Fin 256) : Fn).val ((0 : Fin 64) : Q).val).fetched.headD default, dn (let l := (((ios (full.setLedger 1 { Ledger.blank with st := .unbound }) 4 [(32,2),(56,10)] 0 : State).qrt ((0 : Fin 256) : Fn).val ((0 : Fin 64) : Q).val).fetched.headD default : FEntry).e.ledger.toNat; let z := (ios (full.setLedger 1 { Ledger.blank with st := .unbound }) 4 [(32,2),(56,10)] 0 : State).ledger l; let r := (ios (full.setLedger 1 { Ledger.blank with st := .unbound }) 4 [(32,2),(56,10)] 0 : State).controlRecord ((0 : Fin 256) : Fn).val ((0 : Fin 64) : Q).val (((ios (full.setLedger 1 { Ledger.blank with st := .unbound }) 4 [(32,2),(56,10)] 0 : State).qrt ((0 : Fin 256) : Fn).val ((0 : Fin 64) : Q).val).fetched.headD default : FEntry) .bind l (bindLabel ((0 : Fin 256) : Fn).val ((0 : Fin 64) : Q).val z.prevFn z.prevQ z.unbindCause) false; (((ios (full.setLedger 1 { Ledger.blank with st := .unbound }) 4 [(32,2),(56,10)] 0 : State).bindLedger l ((0 : Fin 256) : Fn).val ((0 : Fin 64) : Q).val (((ios (full.setLedger 1 { Ledger.blank with st := .unbound }) 4 [(32,2),(56,10)] 0 : State).qrt ((0 : Fin 256) : Fn).val ((0 : Fin 64) : Q).val).fetched.headD default : FEntry).e).writeOrphans l).dispatch r), dn (let l := (((ios (full.setLedger 1 { Ledger.blank with st := .unbound }) 4 [(32,2),(56,10)] 0 : State).qrt ((0 : Fin 256) : Fn).val ((0 : Fin 64) : Q).val).fetched.headD default : FEntry).e.ledger.toNat; let z := (ios (full.setLedger 1 { Ledger.blank with st := .unbound }) 4 [(32,2),(56,10)] 0 : State).ledger l; let r := (ios (full.setLedger 1 { Ledger.blank with st := .unbound }) 4 [(32,2),(56,10)] 0 : State).controlRecord ((0 : Fin 256) : Fn).val ((0 : Fin 64) : Q).val (((ios (full.setLedger 1 { Ledger.blank with st := .unbound }) 4 [(32,2),(56,10)] 0 : State).qrt ((0 : Fin 256) : Fn).val ((0 : Fin 64) : Q).val).fetched.headD default : FEntry) .bind l (bindLabel ((0 : Fin 256) : Fn).val ((0 : Fin 64) : Q).val z.prevFn z.prevQ z.unbindCause) false; (ios (full.setLedger 1 { Ledger.blank with st := .unbound }) 4 [(32,2),(56,10)] 0 : State).dispatch r), by decide +kernel⟩,
   ⟨(0 : Fin 256), (0 : Fin 64), (default : BitVec 128), io 1 [] 4096, ((io 1 [] 4096 : State).qrt ((0 : Fin 256) : Fn).val ((0 : Fin 64) : Q).val).fetched.headD default, by decide +kernel⟩,
   ⟨(0 : Fin 256), (0 : Fin 64), (default : BitVec 128), io 5 [] 0, ((io 5 [] 0 : State).qrt ((0 : Fin 256) : Fn).val ((0 : Fin 64) : Q).val).fetched.headD default, by decide +kernel⟩⟩

theorem test_hyps_LedgerCommands :
    (∃ f : Fn, ∃ q : Q, ∃ s : State, ∃ x : FEntry, Fetched s f q 6 x ∧ s.ioChecks f.val q.val x true true true = none ∧ onlyBytes x.e [(32, 1)] = true ∧ x.e.bytes 32 1 ≤ 1 ∧ (s.ledger x.e.ledger.toNat).unchained = (s.ledger x.e.ledger.toNat).next ∧ s.ckptFormed x.e.ledger.toNat ((s.ledger x.e.ledger.toNat).next - 1) = false ∧ (s.scv.calls.any fun c => c.ledger = x.e.ledger.toNat && c.seq = (s.ledger x.e.ledger.toNat).next - 1) = false) ∧
    (∃ f : Fn, ∃ q : Q, ∃ s : State, ∃ x : FEntry, Fetched s f q 9 x ∧ CqOpen s f q ∧ s.ioChecks f.val q.val x true false true = none ∧ onlyBytes x.e [(32, 1)] = true ∧ x.e.bytes 32 1 = 0 ∧ s.led.waits = [] ∧ s.durableTo x.e.ledger.toNat ((s.ledger x.e.ledger.toNat).next - 1) = true) ∧
    (∃ f : Fn, ∃ q : Q, ∃ s : State, ∃ x : FEntry, Fetched s f q 0x0A x ∧ CqOpen s f q ∧ s.ioChecks f.val q.val x true false false = none ∧ 128 ≤ x.e.length.toNat ∧ onlyBytes x.e [] = true) ∧
    (∃ f : Fn, ∃ q : Q, ∃ s : State, ∃ x : FEntry, Fetched s f q 2 x ∧ CqOpen s f q ∧ s.ioChecks f.val q.val x true false false = none ∧ s.archiveRo = false ∧ onlyBytes x.e [(32, 16), (56, 8)] = true ∧ x.e.bytes 56 8 % 8 = 0 ∧ s.keyAvailable (s.ledger x.e.ledger.toNat).tenant = true ∧ (s.ledger x.e.ledger.toNat).unchained ≤ x.e.bytes 32 8) ∧
    (∃ f : Fn, ∃ q : Q, ∃ s : State, ∃ x : FEntry, ∃ b : Nat, ∃ g : Nat, Fetched s f q 2 x ∧ s.ioChecks f.val q.val x true false false = none ∧ s.archiveRo = false ∧ onlyBytes x.e [(32, 16), (56, 8)] = true ∧ x.e.bytes 56 8 % 8 = 0 ∧ s.keyAvailable (s.ledger x.e.ledger.toNat).tenant = true ∧ x.e.bytes 32 8 < (s.ledger x.e.ledger.toNat).unchained ∧ s.locatorFault (s.ledger x.e.ledger.toNat).tenant (x.e.bytes 40 8) = none ∧ s.borrow .read (spanKib (storedSize x.e.length.toNat)) = some b ∧ s.readGroup .read = some g) ∧
    (∃ f : Fn, ∃ q : Q, ∃ locs : List (BitVec 64), ∃ s : State, ∃ x : FEntry, ∃ c : Nat, ∃ g : Nat, Fetched s f q 3 x ∧ s.ioChecks f.val q.val x true false false = none ∧ onlyBytes x.e [(32, 12)] = true ∧ 1 ≤ x.e.bytes 40 4 ∧ x.e.bytes 40 4 ≤ 4096 ∧ x.e.length.toNat = 8 * x.e.bytes 40 4 ∧ locs.length = x.e.bytes 40 4 ∧ s.keyAvailable (s.ledger x.e.ledger.toNat).tenant = true ∧ s.verifyStart x.e.ledger.toNat (x.e.bytes 32 8) = some c ∧ s.locatorFault (s.ledger x.e.ledger.toNat).tenant (locs.headD 0).toNat = none ∧ s.readGroup .read = some g) ∧
    (∃ s : State, s.led.gaps = [] ∧ 16 ≤ s.key.reserve.length) ∧
    (∃ s : State, ∃ g : Nat × Nat × Nat, s.led.gaps = [g] ∧ 16 ≤ s.key.reserve.length ∧ (s.ledger g.1).st = .closed) :=
  ⟨⟨(0 : Fin 256), (0 : Fin 64), ios (full.setLedger 1 { Ledger.blank with st := .bound, next := 3, unchained := 3 }) 6 [] 0, ((ios (full.setLedger 1 { Ledger.blank with st := .bound, next := 3, unchained := 3 }) 6 [] 0 : State).qrt ((0 : Fin 256) : Fn).val ((0 : Fin 64) : Q).val).fetched.headD default, by decide +kernel⟩,
   ⟨(0 : Fin 256), (0 : Fin 64), ios (full.setLedger 1 { Ledger.blank with st := .bound, next := 3, unchained := 3 }) 9 [] 0, ((ios (full.setLedger 1 { Ledger.blank with st := .bound, next := 3, unchained := 3 }) 9 [] 0 : State).qrt ((0 : Fin 256) : Fn).val ((0 : Fin 64) : Q).val).fetched.headD default, by decide +kernel⟩,
   ⟨(0 : Fin 256), (0 : Fin 64), io 0x0A [] 128, ((io 0x0A [] 128 : State).qrt ((0 : Fin 256) : Fn).val ((0 : Fin 64) : Q).val).fetched.headD default, by decide +kernel⟩,
   ⟨(0 : Fin 256), (0 : Fin 64), io 2 [] 4096, ((io 2 [] 4096 : State).qrt ((0 : Fin 256) : Fn).val ((0 : Fin 64) : Q).val).fetched.headD default, by decide +kernel⟩,
   ⟨(0 : Fin 256), (0 : Fin 64), ios (full.setLedger 1 { Ledger.blank with st := .bound, next := 3, unchained := 3 }) 2 [(40, 5 * 2 ^ 42 + 256)] 4096, ((ios (full.setLedger 1 { Ledger.blank with st := .bound, next := 3, unchained := 3 }) 2 [(40, 5 * 2 ^ 42 + 256)] 4096 : State).qrt ((0 : Fin 256) : Fn).val ((0 : Fin 64) : Q).val).fetched.headD default, 0, 0, by simp only [State.locatorFault]; rcases space with h | h <;> simp only [h] <;> decide +kernel⟩,
   ⟨(0 : Fin 256), (0 : Fin 64), [BitVec.ofNat 64 (5 * 2 ^ 42 + 256)], ios (full.setLedger 1 { Ledger.blank with st := .bound, next := 3, unchained := 3 }) 3 [(40, 1)] 8, ((ios (full.setLedger 1 { Ledger.blank with st := .bound, next := 3, unchained := 3 }) 3 [(40, 1)] 8 : State).qrt ((0 : Fin 256) : Fn).val ((0 : Fin 64) : Q).val).fetched.headD default, 0, 0, by simp only [State.locatorFault]; rcases space with h | h <;> simp only [h] <;> decide +kernel⟩,
   ⟨{ full with key.reserve := List.range 16 }, by decide +kernel⟩,
   ⟨{ full.setLedger 1 { Ledger.blank with st := .closed } with key.reserve := List.range 16, led.gaps := [(1, 0, 0)] }, (1, 0, 0), by decide +kernel⟩⟩

theorem test_hyps_SettingCommands :
    (∃ f : Fn, ∃ q : Q, ∃ s : State, ∃ x : FEntry, ∃ d : SettingDef, Fetched s f q 0x80 x ∧ s.set.excl = false ∧ onlyBytes x.e [(32, 3), (40, 8)] = true ∧ x.e.bytes 34 1 = 0 ∧ (s.lifecycle = 1 ∨ s.lifecycle = 2) ∧ settingDef? (x.e.bytes 32 2) = some d ∧ d.sid = x.e.bytes 32 2 ∧ d.cls = .immediate ∧ s.set.locks.contains d.sid = false ∧ s.settingInRange d (x.e.bytes 40 8) = true ∧ s.sumsHold d.sid (x.e.bytes 40 8) = true ∧ s.needsQuorum d.sid (x.e.bytes 40 8) = false) ∧
    (∃ f : Fn, ∃ q : Q, ∃ s : State, ∃ x : FEntry, ∃ d : SettingDef, Fetched s f q 0x80 x ∧ s.set.excl = false ∧ onlyBytes x.e [(32, 3), (40, 8)] = true ∧ x.e.bytes 34 1 = 1 ∧ (s.lifecycle = 1 ∨ s.lifecycle = 2) ∧ settingDef? (x.e.bytes 32 2) = some d ∧ d.sid = x.e.bytes 32 2 ∧ d.cls = .atRestart ∧ s.set.locks.contains d.sid = false ∧ s.settingInRange d (x.e.bytes 40 8) = true ∧ s.sumsHold d.sid (x.e.bytes 40 8) = true ∧ s.set.journal.length < 256 ∧ s.needsQuorum d.sid (x.e.bytes 40 8) = false) ∧
    (∃ f : Fn, ∃ q : Q, ∃ s : State, ∃ x : FEntry, ∃ d : SettingDef, ∃ v : Nat, Fetched s f q 0x81 x ∧ CqOpen s f q ∧ settingDef? (x.e.bytes 32 2) = some d ∧ s.settingValue d (x.e.bytes 34 1) = some v ∧ onlyBytes x.e [(32, 3)] = true) ∧
    (∃ f : Fn, ∃ q : Q, ∃ s : State, ∃ x : FEntry, Fetched s f q 0x86 x ∧ CqOpen s f q ∧ 16 ≤ x.e.length.toNat ∧ onlyBytes x.e [] = true) ∧
    (∃ s : State, ∃ w : SetWait, ∃ r : List SetWait, s.set.waiting = w :: r) ∧
    (∃ s : State, s.set.laggards ≠ [] ∧ s.isSet Reg.DEV_STATUS.EPOCH_MIXED 0 = true) ∧
    (∃ s : State, s.set.laggards = [] ∧ s.isSet Reg.DEV_STATUS.EPOCH_MIXED 0 = true ∧ s.set.waiting = []) :=
  ⟨⟨(0 : Fin 256), (0 : Fin 64), adm full 0x80 [(32, 0x0031),(40,100)] 0, ((adm full 0x80 [(32, 0x0031),(40,100)] 0 : State).qrt ((0 : Fin 256) : Fn).val ((0 : Fin 64) : Q).val).fetched.headD default, (settingDef? 0x0031).getD default, by decide +kernel⟩,
   ⟨(0 : Fin 256), (0 : Fin 64), adm full 0x80 [(32, 0x0001),(34,1),(40,1)] 0, ((adm full 0x80 [(32, 0x0001),(34,1),(40,1)] 0 : State).qrt ((0 : Fin 256) : Fn).val ((0 : Fin 64) : Q).val).fetched.headD default, (settingDef? 1).getD default, by decide +kernel⟩,
   ⟨(0 : Fin 256), (0 : Fin 64), adm full 0x81 [(32, 0x3010)] 0, ((adm full 0x81 [(32, 0x3010)] 0 : State).qrt ((0 : Fin 256) : Fn).val ((0 : Fin 64) : Q).val).fetched.headD default, (settingDef? 0x3010).getD default, ((adm full 0x81 [(32, 0x3010)] 0 : State).settingValue ((settingDef? 0x3010).getD default : SettingDef) ((((adm full 0x81 [(32, 0x3010)] 0 : State).qrt ((0 : Fin 256) : Fn).val ((0 : Fin 64) : Q).val).fetched.headD default : FEntry).e.bytes 34 1)).getD default, by decide +kernel⟩,
   ⟨(0 : Fin 256), (0 : Fin 64), adm full 0x86 [] 16, ((adm full 0x86 [] 16 : State).qrt ((0 : Fin 256) : Fn).val ((0 : Fin 64) : Q).val).fetched.headD default, by decide +kernel⟩,
   ⟨{ full with set.waiting := [⟨.admin 0 0 7, 0x3010, 100, false⟩] }, ⟨.admin 0 0 7, 0x3010, 100, false⟩, (({ full with set.waiting := [⟨.admin 0 0 7, 0x3010, 100, false⟩] } : State).set.waiting).tail, by decide +kernel⟩,
   ⟨{ set full [(Reg.DEV_STATUS.EPOCH_MIXED, 0, 1)] with set.laggards := [(1, 1)] }, by decide +kernel⟩,
   ⟨set full [(Reg.DEV_STATUS.EPOCH_MIXED, 0, 1)], by decide +kernel⟩⟩

theorem test_hyps_GetLogAnswers :
    (∃ f : Fn, ∃ q : Q, ∃ s : State, ∃ x : FEntry, ∃ b : List Nat, Fetched s f q 0x84 x ∧ CqOpen s f q ∧ onlyBytes x.e [(32, 1), (34, 2), (36, 4)] = true ∧ 4 ≤ x.e.length.toNat ∧ x.e.length.toNat % 4 = 0 ∧ x.e.bytes 36 4 % 4 = 0 ∧ x.e.bytes 32 1 ≠ 0x40 ∧ (s.popFront f.val q.val).logBytes f.val (x.e.bytes 32 1) (x.e.bytes 34 2) = some (b, s.popFront f.val q.val) ∧ x.e.bytes 36 4 < b.length) ∧
    (∃ f : Fn, ∃ q : Q, ∃ s : State, ∃ x : FEntry, Fetched s f q 0x84 x ∧ CqOpen s f q ∧ s.logBytes f.val (x.e.bytes 32 1) (x.e.bytes 34 2) = none) :=
  ⟨⟨(0 : Fin 256), (0 : Fin 64), { adm full 0x84 [(32,0x20)] 4 with host.report := [(0, default)] }, (({ adm full 0x84 [(32,0x20)] 4 with host.report := [(0, default)] } : State).qrt ((0 : Fin 256) : Fn).val ((0 : Fin 64) : Q).val).fetched.headD default, reportBytes 0 default, by decide +kernel, by decide +kernel, by decide +kernel, by decide +kernel, by decide +kernel, by decide +kernel, by decide +kernel, (rfl), by decide +kernel⟩,
   ⟨(0 : Fin 256), (0 : Fin 64), adm full 0x84 [(32,0x40)] 4, ((adm full 0x84 [(32,0x40)] 4 : State).qrt ((0 : Fin 256) : Fn).val ((0 : Fin 64) : Q).val).fetched.headD default, by decide +kernel⟩⟩

theorem test_hyps_LaneRecordCommands :
    (∃ n : Lane, ∃ s : State, ∃ k : Nat, ∃ r : Rec, s.laneReady n.val = true ∧ s.lane.voids = [] ∧ (s.lane.wq.find? fun j => match Tab.find j s.led.recs with | some z => z.grp = s.laneGroup n.val + 1 | none => false) = some k ∧ Tab.find k s.led.recs = some r) ∧
    (∃ n : Lane, ∃ s : State, ∃ k : Nat × Nat × Nat, (s.laneRt n.val).wantKey = some k ∧ s.keyAvailable k.1 = true) ∧
    (∃ n : Lane, ∃ c : BitVec 16, ∃ s : State, ∃ k : Nat, ∃ key : Nat × Nat × Nat, ∃ r : Rec, (s.laneRt n.val).record = some k ∧ (s.laneRt n.val).key = some key ∧ Tab.find k s.led.recs = some r ∧ r.voidCause = 0 ∧ r.data.length = r.length ∧ (r.crcv = false ∨ crc32c r.data = r.hcrc)) ∧
    (∃ n : Lane, ∃ c : BitVec 16, ∃ s : State, ∃ k : Nat, ∃ key : Nat × Nat × Nat, ∃ r : Rec, (s.laneRt n.val).record = some k ∧ (s.laneRt n.val).key = some key ∧ Tab.find k s.led.recs = some r ∧ r.voidCause = 0 ∧ r.data.length = r.length ∧ r.tag = none ∧ r.chained = false ∧ r.crcv = true ∧ crc32c r.data ≠ r.hcrc) ∧
    (∃ n : Lane, ∃ s : State, ∃ k : Nat, ∃ r : Rec, 2 ≤ s.laneState n.val ∧ s.laneState n.val ≤ 4 ∧ (s.laneRt n.val).record = some k ∧ Tab.find k s.led.recs = some r ∧ r.voidCause = 0 ∧ r.tag = none ∧ r.chained = false) :=
  ⟨⟨0, lane1, recKey 1 0, (Tab.find (recKey 1 0 : Nat) (lane1 : State).led.recs).getD default, by decide +kernel⟩,
   ⟨0, { lane1 with lane.rt := [(0, { (default : LaneRt) with wantKey := some (0, 5, 1) })] }, (0, 5, 1), by decide +kernel⟩,
   ⟨0, (default : BitVec 16), lane2 { (default : Rec) with length := 3, data := [1, 2, 3] }, recKey 1 0, (0, 5, 1), (Tab.find (recKey 1 0 : Nat) (lane2 { (default : Rec) with length := 3, data := [1, 2, 3] } : State).led.recs).getD default, by decide +kernel⟩,
   ⟨0, (default : BitVec 16), lane2 { (default : Rec) with length := 3, data := [1, 2, 3], crcv := true }, recKey 1 0, (0, 5, 1), (Tab.find (recKey 1 0 : Nat) (lane2 { (default : Rec) with length := 3, data := [1, 2, 3], crcv := true } : State).led.recs).getD default, by decide +kernel⟩,
   ⟨0, set (lane2 default) [(Reg.SLA_LANE_STATUS.STATE, 0, 2)], recKey 1 0, (Tab.find (recKey 1 0 : Nat) (set (lane2 default) [(Reg.SLA_LANE_STATUS.STATE, 0, 2)] : State).led.recs).getD default, by decide +kernel⟩⟩

theorem test_hyps_LaneItemCommands :
    (∃ n : Lane, ∃ assay : Bool, ∃ s : State, ∃ i : Nat, ∃ x : Item, s.laneReady n.val = true ∧ ((if assay then s.lane.aq else s.lane.rq).find? fun j => match s.item? j with | some z => z.grp = s.laneGroup n.val && (z.avoid ≠ n.val + 1 || (s.groupLanes (s.laneGroup n.val)).length ≤ 1) | none => false) = some i ∧ s.item? i = some x) ∧
    (∃ n : Lane, ∃ s : State, ∃ i : Nat, ∃ key : Nat × Nat × Nat, ∃ x : Item, ∃ c : Stored, ∃ f : Nat, ∃ q : Nat, ∃ cid : Nat, ∃ h : Nat, ∃ l : Nat, ∃ d : List (Nat × Nat), (s.laneRt n.val).item = some i ∧ (s.laneRt n.val).key = some key ∧ s.item? i = some x ∧ x.stored = some c ∧ x.use = .readCmd f q cid d h l ∧ c.hdr.ty ≠ 2 ∧ c.tag = recordTag (s.ek key) c.hdr c.payload ∧ s.fnLive f = true ∧ s.rd Reg.HIF_PORT_LHD.OCC (portOf x.fn) < s.setting 0x1011) ∧
    (∃ n : Lane, ∃ s : State, ∃ i : Nat, ∃ key : Nat × Nat × Nat, ∃ x : Item, ∃ c : Stored, ∃ f : Fn, ∃ q : Q, ∃ cid : Nat, ∃ h : Nat, ∃ l : Nat, ∃ d : List (Nat × Nat), (s.laneRt n.val).item = some i ∧ (s.laneRt n.val).key = some key ∧ s.item? i = some x ∧ x.stored = some c ∧ x.use = .readCmd f.val q.val cid d h l ∧ c.tag ≠ recordTag (s.ek key) c.hdr c.payload ∧ CqOpen s f q) ∧
    (∃ s : State, ∃ i : Nat, ∃ x : Item, ∃ c : Stored, ∃ f : Fn, ∃ q : Q, ∃ cid : Nat, ∃ h : Nat, ∃ l : Nat, ∃ d : List (Nat × Nat), s.item? i = some x ∧ x.phase = .leaving ∧ x.use = .readCmd f.val q.val cid d h l ∧ x.stored = some c ∧ CqOpen s f q) ∧
    (∃ s : State, ∃ i : Nat, ∃ x : Item, s.item? i = some x ∧ x.phase = .zeroing ∧ (x.rerun = false ∨ x.stored ≠ none) ∧ s.led.verify = [] ∧ s.asy.checks = []) ∧
    (∃ s : State, ∃ i : Nat, ∃ x : Item, ∃ r : RankRt, s.item? i = some x ∧ x.phase = .zeroing ∧ x.rerun = true ∧ x.stored = none ∧ s.rank? x.rank = some r) ∧
    (∃ i : Nat, ∃ stripe : Nat, ∃ unit : Fin 16, ∃ s : State, ∃ x : Item, s.item? i = some x ∧ x.phase = .media ∧ x.need.contains (stripe, unit.val) = true ∧ (s.media.stripes.any fun y => y.extent = x.extent && y.stripe = stripe) = false ∧ x.stored = none) ∧
    (∃ i : Nat, ∃ stripe : Nat, ∃ unit : Fin 16, ∃ s : State, ∃ x : Item, s.item? i = some x ∧ x.phase = .media ∧ x.need.contains (stripe, unit.val) = true ∧ (s.media.stripes.any fun y => y.extent = x.extent && y.stripe = stripe) = false) ∧
    (∃ i : Nat, ∃ stripe : Nat, ∃ unit : Fin 16, ∃ s : State, ∃ x : Item, ∃ k : RankRt, s.item? i = some x ∧ x.phase = .media ∧ x.need.contains (stripe, unit.val) = true ∧ (s.media.stripes.any fun y => y.extent = x.extent && y.stripe = stripe) = false ∧ s.rank? x.rank = some k) ∧
    (∃ i : Nat, ∃ stripe : Nat, ∃ good : BitVec 20, ∃ s : State, ∃ x : Item, ∃ k : RankRt, s.item? i = some x ∧ s.rank? x.rank = some k ∧ x.phase = .media ∧ (x.need.filter fun u => u.1 = stripe) ≠ [] ∧ (s.media.stripes.any fun y => y.extent = x.extent && y.stripe = stripe) = false ∧ x.stored = none ∧ k.k ≤ ((List.range (k.k + k.m)).filter fun j => good.getLsbD j).length) ∧
    (∃ i : Nat, ∃ stripe : Nat, ∃ good : BitVec 20, ∃ s : State, ∃ x : Item, ∃ k : RankRt, ∃ f : Fn, ∃ q : Q, ∃ c : Nat, ∃ h : Nat, ∃ l : Nat, ∃ d : List (Nat × Nat), s.item? i = some x ∧ s.rank? x.rank = some k ∧ x.phase = .media ∧ (x.need.filter fun u => u.1 = stripe) ≠ [] ∧ (s.media.stripes.any fun y => y.extent = x.extent && y.stripe = stripe) = false ∧ x.use = .readCmd f.val q.val c d h l ∧ CqOpen s f q ∧ ((List.range (k.k + k.m)).filter fun j => good.getLsbD j).length < k.k) :=
  ⟨⟨0, false, item1 { (default : Item) with phase := .runnable }, 1, ((item1 { (default : Item) with phase := .runnable } : State).item? (1 : Nat)).getD default, by decide +kernel⟩,
   ⟨0, item2 { (default : Item) with use := .readCmd 0 0 7 [(0, 64)] 0 0, phase := .onLane, stored := some ⟨hdr, [], recordTag (full.ek (0, 5, 1)) hdr []⟩ }, 1, (0, 5, 1), ((item2 { (default : Item) with use := .readCmd 0 0 7 [(0, 64)] 0 0, phase := .onLane, stored := some ⟨hdr, [], recordTag (full.ek (0, 5, 1)) hdr []⟩ } : State).item? (1 : Nat)).getD default, ⟨hdr, [], recordTag (full.ek (0, 5, 1)) hdr []⟩, 0, 0, 7, (default : Nat), (default : Nat), [(0, 64)], by decide +kernel, by decide +kernel, (rfl), (rfl), (rfl), by decide +kernel, (rfl), by decide +kernel, by decide +kernel⟩,
   ⟨0, item2 { (default : Item) with use := .readCmd 0 0 7 [(0, 64)] 0 0, phase := .onLane, stored := some ⟨hdr, [], recordTag (full.ek (0, 5, 1)) hdr [] + 1⟩ }, 1, (0, 5, 1), ((item2 { (default : Item) with use := .readCmd 0 0 7 [(0, 64)] 0 0, phase := .onLane, stored := some ⟨hdr, [], recordTag (full.ek (0, 5, 1)) hdr [] + 1⟩ } : State).item? (1 : Nat)).getD default, ⟨hdr, [], recordTag (full.ek (0, 5, 1)) hdr [] + 1⟩, 0, 0, 7, (default : Nat), (default : Nat), [(0, 64)], by decide +kernel, by decide +kernel, (rfl), (rfl), (rfl), (Nat.succ_ne_self _), by decide +kernel⟩,
   ⟨item2 { (default : Item) with use := .readCmd 0 0 7 [(0, 64)] 0 0, phase := .leaving, stored := some ⟨hdr, [], 0⟩ }, 1, ((item2 { (default : Item) with use := .readCmd 0 0 7 [(0, 64)] 0 0, phase := .leaving, stored := some ⟨hdr, [], 0⟩ } : State).item? (1 : Nat)).getD default, ⟨hdr, [], 0⟩, 0, 0, 7, (default : Nat), (default : Nat), [(0, 64)], by decide +kernel⟩,
   ⟨item2 { (default : Item) with phase := .zeroing }, 1, ((item2 { (default : Item) with phase := .zeroing } : State).item? (1 : Nat)).getD default, by decide +kernel⟩,
   ⟨item2 { (default : Item) with phase := .zeroing, rerun := true }, 1, ((item2 { (default : Item) with phase := .zeroing, rerun := true } : State).item? (1 : Nat)).getD default, ((item2 { (default : Item) with phase := .zeroing, rerun := true } : State).rank? (((item2 { (default : Item) with phase := .zeroing, rerun := true } : State).item? (1 : Nat)).getD default : Item).rank).getD default, by decide +kernel⟩,
   ⟨1, (default : Nat), (0 : Fin 16), item { (default : Item) with phase := .media, need := [(0, 0)] }, ((item { (default : Item) with phase := .media, need := [(0, 0)] } : State).item? (1 : Nat)).getD default, by decide +kernel⟩,
   ⟨1, (default : Nat), (0 : Fin 16), item { (default : Item) with phase := .media, need := [(0, 0)] }, ((item { (default : Item) with phase := .media, need := [(0, 0)] } : State).item? (1 : Nat)).getD default, by decide +kernel⟩,
   ⟨1, (default : Nat), (0 : Fin 16), item { (default : Item) with phase := .media, need := [(0, 0)] }, ((item { (default : Item) with phase := .media, need := [(0, 0)] } : State).item? (1 : Nat)).getD default, ((item { (default : Item) with phase := .media, need := [(0, 0)] } : State).rank? (((item { (default : Item) with phase := .media, need := [(0, 0)] } : State).item? (1 : Nat)).getD default : Item).rank).getD default, by decide +kernel⟩,
   ⟨1, (default : Nat), 7, item { (default : Item) with phase := .media, need := [(0, 0)] }, ((item { (default : Item) with phase := .media, need := [(0, 0)] } : State).item? (1 : Nat)).getD default, ((item { (default : Item) with phase := .media, need := [(0, 0)] } : State).rank? (((item { (default : Item) with phase := .media, need := [(0, 0)] } : State).item? (1 : Nat)).getD default : Item).rank).getD default, by decide +kernel⟩,
   ⟨1, (default : Nat), 1, item { (default : Item) with phase := .media, need := [(0, 0)], use := .readCmd 0 0 7 [(0, 64)] 0 0 }, ((item { (default : Item) with phase := .media, need := [(0, 0)], use := .readCmd 0 0 7 [(0, 64)] 0 0 } : State).item? (1 : Nat)).getD default, ((item { (default : Item) with phase := .media, need := [(0, 0)], use := .readCmd 0 0 7 [(0, 64)] 0 0 } : State).rank? (((item { (default : Item) with phase := .media, need := [(0, 0)], use := .readCmd 0 0 7 [(0, 64)] 0 0 } : State).item? (1 : Nat)).getD default : Item).rank).getD default, 0, 0, 7, (default : Nat), (default : Nat), [(0, 64)], by decide +kernel⟩⟩

theorem test_hyps_LaneTestCommands :
    (∃ m : Fin 16, ∃ n : Lane, ∃ abort : Bool, ∃ s : State, Admitted s m (0x40200008 + n.val * 0x100) ∧ (s.laneState n.val = 1 ∨ s.laneState n.val = 5)) ∧
    (∃ m : Fin 16, ∃ n : Lane, ∃ abort : Bool, ∃ s : State, Admitted s m (0x40200008 + n.val * 0x100) ∧ 2 ≤ s.laneState n.val ∧ s.laneState n.val ≤ 4 ∧ abort = false ∧ (s.laneRt n.val).resetWait = 0) ∧
    (∃ m : Fin 16, ∃ n : Lane, ∃ abort : Bool, ∃ s : State, Admitted s m (0x40200008 + n.val * 0x100) ∧ 2 ≤ s.laneState n.val ∧ s.laneState n.val ≤ 4 ∧ abort = true) ∧
    (∃ m : Fin 16, ∃ n : Lane, ∃ s : State, Admitted s m (0x40200008 + n.val * 0x100) ∧ s.laneState n.val = 1) ∧
    (∃ m : Fin 16, ∃ n : Lane, ∃ s : State, Admitted s m (0x40200008 + n.val * 0x100) ∧ 2 ≤ s.laneState n.val ∧ s.laneState n.val ≤ 4) ∧
    (∃ m : Fin 16, ∃ g : Grp, ∃ abort : Bool, ∃ s : State, Admitted s m (0x40220004 + g.val * 0x100) ∧ (∀ n ∈ s.groupLanes g.val, s.laneState n = 1)) ∧
    (∃ m : Fin 16, ∃ abort : Bool, ∃ s : State, Admitted s m 0x40230000 ∧ (∀ g < 16, ∀ n ∈ s.groupLanes g, s.laneState n = 1)) ∧
    (∃ n : Lane, ∃ s : State, s.laneState n.val = 6) ∧
    (∃ m : Fin 16, ∃ k : Fin 9, ∃ v : BitVec 32, ∃ s : State, Admitted s m (0x40230020 + k.val * 4) ∧ (∀ j < 32, v.getLsbD j = true → s.laneState (k.val * 32 + j) ≤ 1)) ∧
    (∃ n : Lane, ∃ s : State, s.laneState n.val = 5 ∧ (s.laneRt n.val).subst = none) ∧
    (∃ n : Lane, ∃ s : State, ∃ i : Nat, s.laneState n.val = 5 ∧ i < 256 ∧ (s.laneRt n.val).subst = some i) ∧
    (∃ n : Lane, ∃ s : State, s.laneState n.val = 5 ∧ (s.laneRt n.val).katCause < 8) ∧
    (∃ n : Lane, ∃ s : State, s.laneState n.val = 1) ∧
    (∃ n : Lane, ∃ s : State, 2 ≤ s.laneState n.val ∧ s.laneState n.val ≤ 4) ∧
    (∃ g : Grp, ∃ s : State, s.lane.entering.contains g.val = true ∧ (∀ n ∈ s.groupLanes g.val, s.laneState n ≠ 5) ∧ (∀ j < 8, ∀ i, (s.laneRt (256 + j)).subst = some i → i / 16 ≠ g.val)) ∧
    (∃ g : Grp, ∃ s : State, s.lane.leaving.contains g.val = true ∧ (∀ n ∈ s.groupLanes g.val, s.laneState n ≤ 1 ∨ s.laneState n = 7) ∧ (∀ x ∈ s.led.recs, x.2.grp ≠ g.val + 1) ∧ (∀ x ∈ s.lane.items, x.2.grp ≠ g.val)) :=
  ⟨⟨(0 : Fin 16), 0, true, lane1, by decide +kernel⟩,
   ⟨(0 : Fin 16), 0, false, set lane1 [(Reg.SLA_LANE_STATUS.STATE, 0, 2)], by decide +kernel⟩,
   ⟨(0 : Fin 16), 0, true, set lane1 [(Reg.SLA_LANE_STATUS.STATE, 0, 2)], by decide +kernel⟩,
   ⟨(0 : Fin 16), 0, lane1, by decide +kernel⟩,
   ⟨(0 : Fin 16), 0, set lane1 [(Reg.SLA_LANE_STATUS.STATE, 0, 2)], by decide +kernel⟩,
   ⟨(0 : Fin 16), (default : Grp), true, lane3, by decide +kernel⟩,
   ⟨(0 : Fin 16), true, lane3, by decide +kernel, (lanes_idle)⟩,
   ⟨0, set lane1 [(Reg.SLA_LANE_STATUS.STATE, 0, 6)], by decide +kernel⟩,
   ⟨(0 : Fin 16), (0 : Fin 9), 1, lane1, by decide +kernel⟩,
   ⟨0, set lane1 [(Reg.SLA_LANE_STATUS.STATE, 0, 5)], by decide +kernel⟩,
   ⟨0, { set lane1 [(Reg.SLA_LANE_STATUS.STATE, 0, 5)] with lane.rt := [(0, { (default : LaneRt) with subst := some 3 })] }, 3, by decide +kernel⟩,
   ⟨0, set lane1 [(Reg.SLA_LANE_STATUS.STATE, 0, 5)], by decide +kernel⟩,
   ⟨0, set lane1 [(Reg.SLA_LANE_STATUS.STATE, 0, 1)], by decide +kernel⟩,
   ⟨0, set lane1 [(Reg.SLA_LANE_STATUS.STATE, 0, 2)], by decide +kernel⟩,
   ⟨0, { lane1 with lane.entering := [0] }, by decide +kernel⟩,
   ⟨0, { lane1 with lane.leaving := [0], led.recs := [] }, by decide +kernel⟩⟩

theorem test_hyps_AppendNeedsHostCrc : ∃ f : Fn, ∃ q : Q, ∃ s : State, ∃ x : FEntry, Fetched s f q 1 x ∧ s.ioChecks f.val q.val x true true true = none ∧ s.setting 0x2003 = 1 ∧ x.e.crcv = false ∧ CqOpen s f q :=
  ⟨(0 : Fin 256), (0 : Fin 64), { io 1 [] 4096 with set.live := [(0x2003, 1)] }, (({ io 1 [] 4096 with set.live := [(0x2003, 1)] } : State).qrt ((0 : Fin 256) : Fn).val ((0 : Fin 64) : Q).val).fetched.headD default, by decide +kernel⟩

theorem test_hyps_KeysAndJournal :
    (∃ m : Fin 16, ∃ s : State, Admitted s m 0x40300040) ∧
    (∃ s : State, s.key.journal ≠ [] ∧ s.key.committing = false ∧ s.archiveRo = false) ∧
    (∃ s : State, s.key.journal = []) ∧
    (∃ m : Fin 16, ∃ s : State, Admitted s m 0x40500060 ∧ s.key.committing = false ∧ s.archiveRo = false) ∧
    (∃ s : State, s.scv.mark = true) ∧
    (∃ s : State, s.key.committing = true ∧ s.scv.markStored = true ∧ s.archiveRo = false ∧ s.key.more = false) ∧
    (∃ s : State, s.key.committing = true) ∧
    (∃ s : State, (s.scv.batches.any fun b => b.signed.isSome && !b.stored) = true) :=
  ⟨⟨0, base, by decide +kernel⟩,
   ⟨com, by decide +kernel⟩,
   ⟨base, by decide +kernel⟩,
   ⟨0, com, by decide +kernel⟩,
   ⟨{ com with scv.mark := true }, by decide +kernel⟩,
   ⟨{ com with key.committing := true, scv.markStored := true }, by decide +kernel⟩,
   ⟨{ com with key.committing := true }, by decide +kernel⟩,
   ⟨{ com with scv.batches := [{ (default : Batch) with signed := some 1 }] }, by decide +kernel⟩⟩

theorem test_hyps_PersistCommands :
    (∃ s : State, s.key.persistNow = false ∧ s.archiveRo = false ∧ s.key.lastRootTicks + rootGap ≤ s.ticks) ∧
    (∃ s : State, ∃ m, s.key.persistNow = false ∧ s.archiveRo = false ∧ s.key.lastRootTicks + rootGap ≤ s.ticks ∧ Admitted s m 0x40500060) ∧
    (∃ s : State, s.key.persistNow = false ∧ s.archiveRo = false ∧ s.key.lastRootTicks + rootGap ≤ s.ticks ∧ s.key.persistAll = true) ∧
    (∃ us : BitVec 32, ∃ s : State, s.key.persistNow = true) ∧
    (∃ s : State, ∃ e : Nat, ∃ x : Extent, Tab.find e s.key.ext = some x) :=
  ⟨⟨set full [(Reg.AON_TICKS.TICKS, 0, 2 ^ 40)], by decide +kernel⟩,
   ⟨set full [(Reg.AON_TICKS.TICKS, 0, 2 ^ 40)], 0, by decide +kernel⟩,
   ⟨{ set full [(Reg.AON_TICKS.TICKS, 0, 2 ^ 40)] with key.persistAll := true }, by decide +kernel⟩,
   ⟨(default : BitVec 32), { full with key.persistNow := true }, by decide +kernel⟩,
   ⟨set full [(Reg.AON_TICKS.TICKS, 0, 2 ^ 40)], 5, (Tab.find (5 : Nat) (set full [(Reg.AON_TICKS.TICKS, 0, 2 ^ 40)] : State).key.ext).getD default, by decide +kernel⟩⟩

theorem test_hyps_ChainAndBatchCommands :
    (∃ l : BitVec 16, ∃ s : State, ∃ u : State, ∃ r : Rec, ∃ e : Nat, ∃ off : Nat, s.rec? l.toNat (s.ledger l.toNat).unchained = some r ∧ r.voidCause ≠ 0 ∧ r.placed = false ∧ s.keyAvailable r.tenant = true ∧ s.findPlace r.tenant 80 true = .at e off u ∧ u.builders + (u.newStripes e off 80).length ≤ u.setting 0x4011) ∧
    (∃ l : BitVec 16, ∃ how : LinkEnd, ∃ s : State, ∃ r : Rec, ∃ tag : Nat, s.rec? l.toNat (s.ledger l.toNat).unchained = some r ∧ r.tag = some tag ∧ (r.voidCause = 0 ∨ r.placed = true)) ∧
    (∃ l : BitVec 16, ∃ s : State, (s.ledger l.toNat).st = .bound ∧ 0 < (s.ledger l.toNat).chainedSince ∧ (s.ledger l.toNat).ckt * 32768 ≤ (s.ticks - (s.ledger l.toNat).ckTicks) * 1000 ∧ s.lifecycle ≠ 3) ∧
    (∃ l : BitVec 16, ∃ s : State, ∃ c : CkCall, (s.scv.calls.find? fun z => z.ledger = l.toNat) = some c ∧ s.durableTo c.ledger c.seq = true ∧ s.ckptFormed c.ledger c.seq = false) ∧
    (∃ s : State, s.scv.entries ≠ [] ∧ s.scv.holdoff = false) ∧
    (∃ s : State, s.scv.holdoff = true) ∧
    (∃ s : State, s.scv.due = false ∧ (s.scv.entries ++ s.scv.outside).length < 4096) :=
  ⟨⟨1, full.setRec 1 0 { (default : Rec) with voidCause := 2 }, pu ((full.setRec 1 0 { (default : Rec) with voidCause := 2 } : State).findPlace 0 80 true), ((full.setRec 1 0 { (default : Rec) with voidCause := 2 } : State).rec? (1 : BitVec 16).toNat ((full.setRec 1 0 { (default : Rec) with voidCause := 2 } : State).ledger (1 : BitVec 16).toNat).unchained).getD default, 5, 65536, by decide +kernel⟩,
   ⟨1, (default : LinkEnd), full.setRec 1 0 { (default : Rec) with tag := some 4 }, ((full.setRec 1 0 { (default : Rec) with tag := some 4 } : State).rec? (1 : BitVec 16).toNat ((full.setRec 1 0 { (default : Rec) with tag := some 4 } : State).ledger (1 : BitVec 16).toNat).unchained).getD default, 4, by decide +kernel⟩,
   ⟨1, (set full [(Reg.AON_TICKS.TICKS, 0, 0x10000)]).setLedger 1 { Ledger.blank with st := .bound, chainedSince := 1 }, by decide +kernel⟩,
   ⟨1, { led3 with scv.calls := [⟨1, 2, 2, 0⟩] }, ((({ led3 with scv.calls := [⟨1, 2, 2, 0⟩] } : State).scv.calls.find? fun z => z.ledger = (1 : BitVec 16).toNat)).getD default, by decide +kernel⟩,
   ⟨{ full with scv.entries := [ck] }, by decide +kernel⟩,
   ⟨{ full with scv.holdoff := true }, by decide +kernel⟩,
   ⟨full, by decide +kernel⟩⟩

theorem test_hyps_SigningAndProofCommands :
    (∃ u : Fin 4, ∃ a : BitVec 16, ∃ us : BitVec 32, ∃ s : State, ∃ j : PkeJob, ∃ n : Nat, ∃ b : Batch, Tab.find u.val s.scv.unit = some j ∧ j.who = .batch n ∧ (s.scv.batches.find? fun z => z.number = n) = some b) ∧
    (∃ s : State, ∃ b : Batch, (s.scv.batches.find? fun z => !z.stored) = some b ∧ b.signed ≠ none) ∧
    (∃ f : Fn, ∃ q : Q, ∃ s : State, ∃ x : FEntry, ∃ e : CkEntry, Fetched s f q 7 x ∧ s.ioChecks f.val q.val x true false false = none ∧ onlyBytes x.e [(32, 8)] = true ∧ x.e.bytes 32 8 < (s.ledger x.e.ledger.toNat).unchained ∧ s.selectCkpt x.e.ledger.toNat (x.e.bytes 32 8) 1 = some e ∧ 4352 ≤ x.e.length.toNat ∧ s.scv.proofs = [] ∧ s.signedPlace x.e.ledger.toNat e.seq ≠ none ∧ CqOpen s f q) ∧
    (∃ f : Fn, ∃ q : Q, ∃ s : State, ∃ x : FEntry, ∃ e : CkEntry, Fetched s f q 7 x ∧ s.ioChecks f.val q.val x true false false = none ∧ onlyBytes x.e [(32, 8)] = true ∧ x.e.bytes 32 8 < (s.ledger x.e.ledger.toNat).unchained ∧ s.selectCkpt x.e.ledger.toNat (x.e.bytes 32 8) 1 = some e ∧ 4352 ≤ x.e.length.toNat ∧ s.scv.proofs = [] ∧ s.signedPlace x.e.ledger.toNat e.seq = none) ∧
    (∃ f : Fn, ∃ q : Q, ∃ s : State, ∃ x : FEntry, ∃ e : CkEntry, Fetched s f q 0x0B x ∧ CqOpen s f q ∧ s.ioChecks f.val q.val x true false false = none ∧ onlyBytes x.e [(32, 9)] = true ∧ x.e.bytes 40 1 ≤ 2 ∧ x.e.bytes 32 8 < (s.ledger x.e.ledger.toNat).unchained ∧ s.selectCkpt x.e.ledger.toNat (x.e.bytes 32 8) (x.e.bytes 40 1) = some e ∧ 192 ≤ x.e.length.toNat) :=
  ⟨⟨(0 : Fin 4), (default : BitVec 16), (default : BitVec 32), { full with scv.unit := [(0, ⟨2, 0, 0, .batch 4⟩)], scv.batches := [{ (default : Batch) with number := 4 }] }, (Tab.find ((0 : Fin 4) : Fin 4).val ({ full with scv.unit := [(0, ⟨2, 0, 0, .batch 4⟩)], scv.batches := [{ (default : Batch) with number := 4 }] } : State).scv.unit).getD default, 4, ((({ full with scv.unit := [(0, ⟨2, 0, 0, .batch 4⟩)], scv.batches := [{ (default : Batch) with number := 4 }] } : State).scv.batches.find? fun z => z.number = (4 : Nat))).getD default, by decide +kernel⟩,
   ⟨{ full with scv.batches := [{ (default : Batch) with number := 4, signed := some 1 }] }, ((({ full with scv.batches := [{ (default : Batch) with number := 4, signed := some 1 }] } : State).scv.batches.find? fun z => !z.stored)).getD default, by decide +kernel⟩,
   ⟨(0 : Fin 256), (0 : Fin 64), { ios led3 7 [(32, 2)] 4352 with scv.batches := [{ (default : Batch) with number := 4, signed := some 1, entries := [ck] }] }, (({ ios led3 7 [(32, 2)] 4352 with scv.batches := [{ (default : Batch) with number := 4, signed := some 1, entries := [ck] }] } : State).qrt ((0 : Fin 256) : Fn).val ((0 : Fin 64) : Q).val).fetched.headD default, (({ ios led3 7 [(32, 2)] 4352 with scv.batches := [{ (default : Batch) with number := 4, signed := some 1, entries := [ck] }] } : State).selectCkpt ((({ ios led3 7 [(32, 2)] 4352 with scv.batches := [{ (default : Batch) with number := 4, signed := some 1, entries := [ck] }] } : State).qrt ((0 : Fin 256) : Fn).val ((0 : Fin 64) : Q).val).fetched.headD default : FEntry).e.ledger.toNat (((({ ios led3 7 [(32, 2)] 4352 with scv.batches := [{ (default : Batch) with number := 4, signed := some 1, entries := [ck] }] } : State).qrt ((0 : Fin 256) : Fn).val ((0 : Fin 64) : Q).val).fetched.headD default : FEntry).e.bytes 32 8) 1).getD default, by decide +kernel⟩,
   ⟨(0 : Fin 256), (0 : Fin 64), { ios led3 7 [(32, 2)] 4352 with scv.entries := [ck] }, (({ ios led3 7 [(32, 2)] 4352 with scv.entries := [ck] } : State).qrt ((0 : Fin 256) : Fn).val ((0 : Fin 64) : Q).val).fetched.headD default, (({ ios led3 7 [(32, 2)] 4352 with scv.entries := [ck] } : State).selectCkpt ((({ ios led3 7 [(32, 2)] 4352 with scv.entries := [ck] } : State).qrt ((0 : Fin 256) : Fn).val ((0 : Fin 64) : Q).val).fetched.headD default : FEntry).e.ledger.toNat (((({ ios led3 7 [(32, 2)] 4352 with scv.entries := [ck] } : State).qrt ((0 : Fin 256) : Fn).val ((0 : Fin 64) : Q).val).fetched.headD default : FEntry).e.bytes 32 8) 1).getD default, by decide +kernel⟩,
   ⟨(0 : Fin 256), (0 : Fin 64), { ios led3 0x0B [(32, 2)] 192 with scv.entries := [ck] }, (({ ios led3 0x0B [(32, 2)] 192 with scv.entries := [ck] } : State).qrt ((0 : Fin 256) : Fn).val ((0 : Fin 64) : Q).val).fetched.headD default, (({ ios led3 0x0B [(32, 2)] 192 with scv.entries := [ck] } : State).selectCkpt ((({ ios led3 0x0B [(32, 2)] 192 with scv.entries := [ck] } : State).qrt ((0 : Fin 256) : Fn).val ((0 : Fin 64) : Q).val).fetched.headD default : FEntry).e.ledger.toNat (((({ ios led3 0x0B [(32, 2)] 192 with scv.entries := [ck] } : State).qrt ((0 : Fin 256) : Fn).val ((0 : Fin 64) : Q).val).fetched.headD default : FEntry).e.bytes 32 8) (((({ ios led3 0x0B [(32, 2)] 192 with scv.entries := [ck] } : State).qrt ((0 : Fin 256) : Fn).val ((0 : Fin 64) : Q).val).fetched.headD default : FEntry).e.bytes 40 1)).getD default, by decide +kernel⟩⟩

theorem test_hyps_TimeAndAttestCommands :
    (∃ f : Fn, ∃ q : Q, ∃ s : State, ∃ x : FEntry, Fetched s f q 0x85 x ∧ x.e.bytes 32 1 = 1 ∧ onlyBytes x.e [(32, 1)] = true ∧ x.e.length.toNat = 16 ∧ x.e.sgcount.toNat = 1) ∧
    (∃ f : Fn, ∃ q : Q, ∃ g : Nat, ∃ a : Nat, ∃ s : State, ∃ x : FEntry, Fetched s f q 0x85 x ∧ x.e.bytes 32 1 = 2 ∧ onlyBytes x.e [(32, 1)] = true ∧ x.e.length.toNat ≠ 0 ∧ s.anchorReason (.good g a) = none) ∧
    (∃ f : Fn, ∃ q : Q, ∃ token : Token, ∃ r : Nat, ∃ s : State, ∃ x : FEntry, Fetched s f q 0x85 x ∧ CqOpen s f q ∧ x.e.bytes 32 1 = 2 ∧ onlyBytes x.e [(32, 1)] = true ∧ x.e.length.toNat ≠ 0 ∧ s.anchorReason token = some r) ∧
    (∃ s : State, s.scv.anchorValid = true ∧ s.setting 0x3005 * 86400 * 32768 < s.ticks - s.rd Reg.SCV_ANCHOR_TICKS.TICKS 0) ∧
    (∃ f : Fn, ∃ q : Q, ∃ s : State, ∃ x : FEntry, Fetched s f q 0x8E x ∧ s.scv.jobs.length < 32 ∧ s.lifecycle ≠ 0 ∧ 3920 ≤ x.e.length.toNat) ∧
    (∃ u : Fin 4, ∃ a : BitVec 16, ∃ s : State, ∃ j : PkeJob, ∃ f : Fn, ∃ q : Q, ∃ cid : Nat, ∃ rep : List Nat, ∃ sg : List (Nat × Nat), ∃ len : Nat, Tab.find u.val s.scv.unit = some j ∧ j.who = .attest f.val q.val cid rep sg len ∧ CqOpen s f q) :=
  ⟨⟨(0 : Fin 256), (0 : Fin 64), sgl full 0x85 [(32, 1)] 16, ((sgl full 0x85 [(32, 1)] 16 : State).qrt ((0 : Fin 256) : Fn).val ((0 : Fin 64) : Q).val).fetched.headD default, by decide +kernel⟩,
   ⟨(0 : Fin 256), (0 : Fin 64), (default : Nat), (default : Nat), { sgl full 0x85 [(32, 2)] 100 with scv.nonce := some (1, 0) }, (({ sgl full 0x85 [(32, 2)] 100 with scv.nonce := some (1, 0) } : State).qrt ((0 : Fin 256) : Fn).val ((0 : Fin 64) : Q).val).fetched.headD default, by decide +kernel⟩,
   ⟨(0 : Fin 256), (0 : Fin 64), .malformed, 1, sgl full 0x85 [(32, 2)] 100, ((sgl full 0x85 [(32, 2)] 100 : State).qrt ((0 : Fin 256) : Fn).val ((0 : Fin 64) : Q).val).fetched.headD default, by decide +kernel⟩,
   ⟨{ set full [(Reg.AON_TICKS.TICKS, 0, 2 ^ 47)] with scv.anchorValid := true }, by decide +kernel⟩,
   ⟨(0 : Fin 256), (0 : Fin 64), sgl full 0x8E [] 3920, ((sgl full 0x8E [] 3920 : State).qrt ((0 : Fin 256) : Fn).val ((0 : Fin 64) : Q).val).fetched.headD default, by decide +kernel⟩,
   ⟨(0 : Fin 4), (default : BitVec 16), { full with scv.unit := [(0, ⟨2, 0, 0, .attest 0 0 7 [] [] 3920⟩)] }, (Tab.find ((0 : Fin 4) : Fin 4).val ({ full with scv.unit := [(0, ⟨2, 0, 0, .attest 0 0 7 [] [] 3920⟩)] } : State).scv.unit).getD default, (0 : Fin 256), (0 : Fin 64), 7, (default : List Nat), (default : List (Nat × Nat)), 3920, by decide +kernel⟩⟩

theorem test_hyps_DriveBringupCommands :
    (∃ p : Port, ∃ s : State, portFused p.val = false ∧ s.portState p.val = 0) ∧
    (∃ p : Port, ∃ s : State, portFused p.val = false ∧ s.portState p.val = 7 ∧ s.isSet Reg.MPX_PORT_STATUS.PRESENT p.val = false) ∧
    (∃ p : Port, ∃ s : State, portFused p.val = false ∧ s.portState p.val ≠ 0 ∧ (s.portState p.val = 7 → s.isSet Reg.MPX_PORT_STATUS.PRESENT p.val = true)) ∧
    (∃ p : Port, ∃ s : State, s.portState p.val = 1 ∧ (s.portRt p.val).step = 1) ∧
    (∃ p : Port, ∃ s : State, ∃ rate : BitVec 3, s.portState p.val = 1 ∧ (s.portRt p.val).step = 2) ∧
    (∃ p : Port, ∃ s : State, s.portState p.val = 1 ∧ (s.portRt p.val).step = 3) ∧
    (∃ p : Port, ∃ s : State, ∃ d, s.portState p.val = 1 ∧ (s.portRt p.val).step = 4 ∧ driveMeets d = true) ∧
    (∃ p : Port, ∃ s : State, ∃ d, s.portState p.val = 1 ∧ (s.portRt p.val).step = 4 ∧ driveMeets d = false) ∧
    (∃ p : Port, ∃ s : State, s.portState p.val = 1 ∧ (s.portRt p.val).step = 5) ∧
    (∃ p : Port, ∃ s : State, ∃ l : Label, s.portState p.val = 1 ∧ (s.portRt p.val).step = 6) ∧
    (∃ p : Port, ∃ s : State, s.portState p.val = 1 ∧ (s.portRt p.val).step = 7 ∧ (s.portRt p.val).label.role = 0) ∧
    (∃ p : Port, ∃ s : State, s.portState p.val = 1 ∧ (s.portRt p.val).step = 7 ∧ (s.portRt p.val).label.role ≠ 0 ∧ (s.portRt p.val).label.role ≠ 255 ∧ (s.portRt p.val).label.serial ≠ Config.serial) ∧
    (∃ p : Port, ∃ s : State, s.portState p.val = 1 ∧ (s.portRt p.val).step = 7 ∧ (s.portRt p.val).label.serial = Config.serial ∧ (s.portRt p.val).label.role = 2 ∧ s.media.spares.contains (s.portNguid p.val) = true) ∧
    (∃ p : Port, ∃ s : State, ∃ r, s.portState p.val = 1 ∧ (s.portRt p.val).step = 7 ∧ (s.portRt p.val).label.serial = Config.serial ∧ (s.portRt p.val).label.role = 1 ∧ s.rank? (s.portRt p.val).label.rank = some r ∧ s.occupied (s.portNguid p.val) = some ((s.portRt p.val).label.rank, (s.portRt p.val).label.slot) ∧ (s.portRt p.val).label.gen = r.gen) ∧
    (∃ p : Port, ∃ s : State, s.portState p.val = 1 ∧ (s.portRt p.val).step = 7 ∧ (s.portRt p.val).label.serial = Config.serial ∧ (s.portRt p.val).label.role = 1 ∧ s.occupied (s.portNguid p.val) = none) ∧
    (∃ p : Port, ∃ s : State, s.portState p.val = 1) :=
  ⟨⟨0, full, by decide +kernel⟩,
   ⟨0, prt 7 7 default, by decide +kernel⟩,
   ⟨0, prt 1 1 default, by decide +kernel⟩,
   ⟨0, prt 1 1 default, by decide +kernel⟩,
   ⟨0, prt 1 2 default, 4, by decide +kernel⟩,
   ⟨0, prt 1 3 default, by decide +kernel⟩,
   ⟨0, prt 1 4 default, ⟨9, 1, 1024, 8, 4, true⟩, by decide +kernel⟩,
   ⟨0, prt 1 4 default, ⟨9, 1, 1024, 8, 4, false⟩, by decide +kernel⟩,
   ⟨0, prt 1 5 default, by decide +kernel⟩,
   ⟨0, prt 1 6 default, ⟨0, 0, 0, 0, 3⟩, by decide +kernel⟩,
   ⟨0, prt 1 7 default, by decide +kernel⟩,
   ⟨0, prt 1 7 ⟨1, Config.serial + 1, 0, 0, 3⟩, by decide +kernel, by decide +kernel, by decide +kernel, by decide +kernel, (Nat.succ_ne_self _)⟩,
   ⟨0, { prt 1 7 ⟨2, Config.serial, 0, 0, 3⟩ with media.spares := [9] }, by decide +kernel, by decide +kernel, (rfl), by decide +kernel, by decide +kernel⟩,
   ⟨0, withRank (prt 1 7 ⟨1, Config.serial, 0, 0, 3⟩), ((withRank (prt 1 7 ⟨1, Config.serial, 0, 0, 3⟩) : State).rank? ((withRank (prt 1 7 ⟨1, Config.serial, 0, 0, 3⟩) : State).portRt (0 : Port).val).label.rank).getD default, by decide +kernel, by decide +kernel, (rfl), by decide +kernel, by decide +kernel, by decide +kernel, by decide +kernel⟩,
   ⟨0, prt 1 7 ⟨1, Config.serial, 0, 0, 3⟩, by decide +kernel, by decide +kernel, (rfl), by decide +kernel, by decide +kernel⟩,
   ⟨0, prt 1 7 default, by decide +kernel⟩⟩

theorem test_hyps_PortFailureCommands :
    (∃ p : Port, ∃ s : State, s.portState p.val ≠ 0 ∧ s.portState p.val ≠ 2 ∧ s.portState p.val ≠ 7) ∧
    (∃ p : Port, ∃ s : State, ∃ r : Nat, ∃ i : Nat, ∃ x : RankRt, ∃ y : RSlot, s.portState p.val = 2 ∧ s.slotOfPort p.val = some (r, i) ∧ s.rank? r = some x ∧ x.slots[i]? = some y ∧ s.setting 0x4003 = 0) ∧
    (∃ p : Port, ∃ s : State, s.portState p.val ≠ 0 ∧ s.portState p.val ≠ 7) ∧
    (∃ p : Port, ∃ s : State, s.portState p.val = 7) ∧
    (∃ p : Port, ∃ s : State, s.portState p.val ≠ 0 ∧ s.portState p.val ≠ 7 ∧ s.portState p.val ≠ 2 ∧ (s.portRt p.val).timedOut = true) ∧
    (∃ m : Fin 16, ∃ p : Port, ∃ s : State, Admitted s m (0x40900004 + p.val * 0x1000) ∧ portFused p.val = false ∧ s.portState p.val ≠ 0 ∧ s.portState p.val ≠ 2) :=
  ⟨⟨0, prt 4 7 default, by decide +kernel⟩,
   ⟨0, (withRank (prt 2 7 default)).wr Reg.DEV_STATUS.ADMIN_READY 0 1 |> fun s => { s with set.live := [(0x4003, 0)] }, 0, 0, (((withRank (prt 2 7 default)).wr Reg.DEV_STATUS.ADMIN_READY 0 1 |> fun s => { s with set.live := [(0x4003, 0)] } : State).rank? (0 : Nat)).getD default, (((((withRank (prt 2 7 default)).wr Reg.DEV_STATUS.ADMIN_READY 0 1 |> fun s => { s with set.live := [(0x4003, 0)] } : State).rank? (0 : Nat)).getD default : RankRt).slots[(0 : Nat)]?).getD default, by decide +kernel⟩,
   ⟨0, prt 4 7 default, by decide +kernel⟩,
   ⟨0, prt 7 7 default, by decide +kernel⟩,
   ⟨0, { prt 4 7 default with media.port := [(0, ⟨7, none, default, true, 0⟩)] }, by decide +kernel⟩,
   ⟨0, 0, prt 4 7 default, by decide +kernel⟩⟩

theorem test_hyps_UnitCommands :
    (∃ e : Nat, ∃ st : Nat, ∃ slot : Nat, ∃ us : BitVec 32, ∃ s : State, ∃ x : Stripe, ∃ r : RankRt, ∃ y : RSlot, (s.media.stripes.find? fun z => z.extent = e && z.stripe = st) = some x ∧ s.rank? x.rank = some r ∧ r.slots[slot]? = some y ∧ y.st = 0 ∧ x.acked.contains slot = false ∧ s.portState y.port = 2 ∧ s.unitReady x r slot = true) ∧
    (∃ e : Nat, ∃ st : Nat, ∃ slot : Nat, ∃ o : Bool, ∃ s : State, ∃ x : Stripe, ∃ r : RankRt, (s.media.stripes.find? fun z => z.extent = e && z.stripe = st) = some x ∧ x.acked.contains slot = false ∧ s.rank? x.rank = some r) ∧
    (∃ e : ExtIdx, ∃ st : BitVec 16, ∃ s : State, ∃ x : Stripe, ∃ r : RankRt, (s.media.stripes.find? fun z => z.extent = e.val && z.stripe = st.toNat && !z.closed) = some x ∧ s.rank? (s.ext e.val).rank = some r) ∧
    (∃ r : Rank, ∃ slot : Fin 20, ∃ s : State, ∃ w : Walk, ∃ b : Nat, ∃ c : Nat, (s.media.walks.find? fun z => z.rank = r.val && z.slot = slot.val) = some w ∧ (w.todo.find? fun z => s.bayUsed r.val z) = some b ∧ c ∈ w.todo.erase b ∧ s.bayUsed r.val c = true) ∧
    (∃ r : Rank, ∃ slot : Fin 20, ∃ s : State, ∃ w : Walk, ∃ b : Nat, ∃ x : RankRt, ∃ y : RSlot, (s.media.walks.find? fun z => z.rank = r.val && z.slot = slot.val) = some w ∧ (w.todo.find? fun z => s.bayUsed r.val z) = some b ∧ (∀ c ∈ w.todo.erase b, s.bayUsed r.val c = false) ∧ s.rank? r.val = some x ∧ x.slots[slot.val]? = some y) :=
  ⟨⟨5, 0, 0, (default : BitVec 32), set stripe [(Reg.MPX_PORT_STATUS.STATE, 0, 2)] |> fun s => { s with media.stripes := [⟨5, 0, 0, 0, 2 ^ 24, [], true, false⟩], led.recs := [] }, (((set stripe [(Reg.MPX_PORT_STATUS.STATE, 0, 2)] |> fun s => { s with media.stripes := [⟨5, 0, 0, 0, 2 ^ 24, [], true, false⟩], led.recs := [] } : State).media.stripes.find? fun z => z.extent = (5 : Nat) && z.stripe = (0 : Nat))).getD default, rank1, ((rank1 : RankRt).slots[(0 : Nat)]?).getD default, by decide +kernel⟩,
   ⟨5, 0, 0, true, stripe, (((stripe : State).media.stripes.find? fun z => z.extent = (5 : Nat) && z.stripe = (0 : Nat))).getD default, rank1, by decide +kernel⟩,
   ⟨5, 0, { stripe with key.ext := (stripe.setExt 5 { stripe.ext 5 with rank := 0 }).key.ext }, ((({ stripe with key.ext := (stripe.setExt 5 { stripe.ext 5 with rank := 0 }).key.ext } : State).media.stripes.find? fun z => z.extent = (5 : ExtIdx).val && z.stripe = (0 : BitVec 16).toNat && !z.closed)).getD default, rank1, by decide +kernel⟩,
   ⟨0, 0, walk [1, 2], (((walk [1, 2] : State).media.walks.find? fun z => z.rank = (0 : Rank).val && z.slot = (0 : Fin 20).val)).getD default, 1, 2, by decide +kernel⟩,
   ⟨0, 0, walk [1], (((walk [1] : State).media.walks.find? fun z => z.rank = (0 : Rank).val && z.slot = (0 : Fin 20).val)).getD default, 1, ((walk [1] : State).rank? (0 : Rank).val).getD default, ((((walk [1] : State).rank? (0 : Rank).val).getD default : RankRt).slots[(0 : Fin 20).val]?).getD default, by decide +kernel⟩⟩

theorem test_hyps_RankControlCommands :
    (∃ f : Fn, ∃ q : Q, ∃ s : State, ∃ x : FEntry, RankCmd s f q 1 false x ∧ 4 ≤ x.e.bytes 36 1 ∧ x.e.bytes 36 1 ≤ 16 ∧ 1 ≤ x.e.bytes 37 1 ∧ x.e.bytes 37 1 ≤ 4 ∧ x.e.bytes 36 1 + x.e.bytes 37 1 ≤ 20 ∧ s.rank? (x.e.bytes 33 1) = none ∧ (let ports := (List.range (x.e.bytes 36 1 + x.e.bytes 37 1)).map fun i => x.e.bytes (40 + i) 1; let n := s.newRank (x.e.bytes 36 1) (x.e.bytes 37 1) (x.e.bytes 38 1 % 2 = 1) ports; ports.Nodup ∧ (∀ p ∈ ports, p < 128 ∧ portFused p = false ∧ s.portState p = 4 ∧ s.foreign x.e p = false ∧ ∃ d, (s.portRt p).drive = some d ∧ n.fits d = true) ∧ n.bays ≠ 0)) ∧
    (∃ f : Fn, ∃ q : Q, ∃ s : State, ∃ x : FEntry, ∃ z : RankRt, RankCmd s f q 2 false x ∧ s.rank? (x.e.bytes 33 1) = some z ∧ (∀ y ∈ s.key.ext, y.2.rank = x.e.bytes 33 1 → y.2.st = .free) ∧ z.logBays = [] ∧ (s.media.rank.filter fun y => y.2.state = 1 || y.2.state = 2).map (·.1) ≠ [x.e.bytes 33 1] ∧ (∀ w ∈ s.media.walks, w.rank ≠ x.e.bytes 33 1) ∧ (∀ y ∈ s.key.reserve, (s.ext y).rank ≠ x.e.bytes 33 1) ∧ 16 ≤ s.key.reserve.length) ∧
    (∃ f : Fn, ∃ q : Q, ∃ s : State, ∃ x : FEntry, RankCmd s f q 3 false x ∧ s.portState (x.e.bytes 35 1) = 4 ∧ s.media.spares.length < 16 ∧ s.foreign x.e (x.e.bytes 35 1) = false) ∧
    (∃ f : Fn, ∃ q : Q, ∃ s : State, ∃ x : FEntry, RankCmd s f q 4 false x ∧ s.portState (x.e.bytes 35 1) = 3) ∧
    (∃ f : Fn, ∃ q : Q, ∃ s : State, ∃ x : FEntry, ∃ z : RankRt, ∃ y : RSlot, ∃ d : Drive, RankCmd s f q 5 false x ∧ s.rank? (x.e.bytes 33 1) = some z ∧ z.slots[x.e.bytes 34 1]? = some y ∧ y.st = 1 ∧ s.portState (x.e.bytes 35 1) = 4 ∧ (s.portRt (x.e.bytes 35 1)).drive = some d ∧ z.fits d = true ∧ s.foreign x.e (x.e.bytes 35 1) = false) ∧
    (∃ f : Fn, ∃ q : Q, ∃ s : State, ∃ x : FEntry, ∃ z : RankRt, ∃ y : RSlot, ∃ d : Drive, RankCmd s f q 6 false x ∧ s.rank? (x.e.bytes 33 1) = some z ∧ z.slots[x.e.bytes 34 1]? = some y ∧ y.st = 1 ∧ s.portState (x.e.bytes 35 1) = 5 ∧ (z.departed.any fun w => w.1 = s.portNguid (x.e.bytes 35 1)) = true ∧ (s.portRt (x.e.bytes 35 1)).drive = some d ∧ z.fits d = true) ∧
    (∃ f : Fn, ∃ q : Q, ∃ s : State, ∃ x : FEntry, RankCmd s f q 7 true x ∧ s.portState (x.e.bytes 35 1) = 5) ∧
    (∃ f : Fn, ∃ q : Q, ∃ s : State, ∃ x : FEntry, RankCmd s f q 8 false x ∧ s.portState (x.e.bytes 35 1) = 5) ∧
    (∃ f : Fn, ∃ q : Q, ∃ s : State, ∃ x : FEntry, RankCmd s f q 9 true x ∧ CqOpen s f q ∧ 512 ≤ x.e.length.toNat) ∧
    (∃ f : Fn, ∃ q : Q, ∃ s : State, ∃ x : FEntry, RankCmd s f q 10 true x) :=
  ⟨⟨(0 : Fin 256), (0 : Fin 64), adm (prts [(0,4),(1,4),(2,4),(3,4),(4,4)] full) 0x8F [(32,1),(36,4),(37,1),(41,1),(42,2),(43,3),(44,4)] 0, ((adm (prts [(0,4),(1,4),(2,4),(3,4),(4,4)] full) 0x8F [(32,1),(36,4),(37,1),(41,1),(42,2),(43,3),(44,4)] 0 : State).qrt ((0 : Fin 256) : Fn).val ((0 : Fin 64) : Q).val).fetched.headD default, by decide +kernel⟩,
   ⟨(0 : Fin 256), (0 : Fin 64), { adm full 0x8F [(32,2)] 0 with media.rank := [(0, rank1), (1, rank1)], key.reserve := List.range 16, key.ext := [] }, (({ adm full 0x8F [(32,2)] 0 with media.rank := [(0, rank1), (1, rank1)], key.reserve := List.range 16, key.ext := [] } : State).qrt ((0 : Fin 256) : Fn).val ((0 : Fin 64) : Q).val).fetched.headD default, (({ adm full 0x8F [(32,2)] 0 with media.rank := [(0, rank1), (1, rank1)], key.reserve := List.range 16, key.ext := [] } : State).rank? (((({ adm full 0x8F [(32,2)] 0 with media.rank := [(0, rank1), (1, rank1)], key.reserve := List.range 16, key.ext := [] } : State).qrt ((0 : Fin 256) : Fn).val ((0 : Fin 64) : Q).val).fetched.headD default : FEntry).e.bytes 33 1)).getD default, by decide +kernel⟩,
   ⟨(0 : Fin 256), (0 : Fin 64), adm (prts [(0,4)] full) 0x8F [(32,3)] 0, ((adm (prts [(0,4)] full) 0x8F [(32,3)] 0 : State).qrt ((0 : Fin 256) : Fn).val ((0 : Fin 64) : Q).val).fetched.headD default, by decide +kernel⟩,
   ⟨(0 : Fin 256), (0 : Fin 64), adm (prts [(0,3)] full) 0x8F [(32,4)] 0, ((adm (prts [(0,3)] full) 0x8F [(32,4)] 0 : State).qrt ((0 : Fin 256) : Fn).val ((0 : Fin 64) : Q).val).fetched.headD default, by decide +kernel⟩,
   ⟨(0 : Fin 256), (0 : Fin 64), { adm (prts [(0,4)] full) 0x8F [(32,5)] 0 with media.rank := [(0, { rank1 with slots := [⟨1, 9, 0⟩, ⟨0, 10, 1⟩, ⟨0, 11, 2⟩] })] }, (({ adm (prts [(0,4)] full) 0x8F [(32,5)] 0 with media.rank := [(0, { rank1 with slots := [⟨1, 9, 0⟩, ⟨0, 10, 1⟩, ⟨0, 11, 2⟩] })] } : State).qrt ((0 : Fin 256) : Fn).val ((0 : Fin 64) : Q).val).fetched.headD default, (({ adm (prts [(0,4)] full) 0x8F [(32,5)] 0 with media.rank := [(0, { rank1 with slots := [⟨1, 9, 0⟩, ⟨0, 10, 1⟩, ⟨0, 11, 2⟩] })] } : State).rank? (((({ adm (prts [(0,4)] full) 0x8F [(32,5)] 0 with media.rank := [(0, { rank1 with slots := [⟨1, 9, 0⟩, ⟨0, 10, 1⟩, ⟨0, 11, 2⟩] })] } : State).qrt ((0 : Fin 256) : Fn).val ((0 : Fin 64) : Q).val).fetched.headD default : FEntry).e.bytes 33 1)).getD default, (((({ adm (prts [(0,4)] full) 0x8F [(32,5)] 0 with media.rank := [(0, { rank1 with slots := [⟨1, 9, 0⟩, ⟨0, 10, 1⟩, ⟨0, 11, 2⟩] })] } : State).rank? (((({ adm (prts [(0,4)] full) 0x8F [(32,5)] 0 with media.rank := [(0, { rank1 with slots := [⟨1, 9, 0⟩, ⟨0, 10, 1⟩, ⟨0, 11, 2⟩] })] } : State).qrt ((0 : Fin 256) : Fn).val ((0 : Fin 64) : Q).val).fetched.headD default : FEntry).e.bytes 33 1)).getD default : RankRt).slots[((({ adm (prts [(0,4)] full) 0x8F [(32,5)] 0 with media.rank := [(0, { rank1 with slots := [⟨1, 9, 0⟩, ⟨0, 10, 1⟩, ⟨0, 11, 2⟩] })] } : State).qrt ((0 : Fin 256) : Fn).val ((0 : Fin 64) : Q).val).fetched.headD default : FEntry).e.bytes 34 1]?).getD default, ((({ adm (prts [(0,4)] full) 0x8F [(32,5)] 0 with media.rank := [(0, { rank1 with slots := [⟨1, 9, 0⟩, ⟨0, 10, 1⟩, ⟨0, 11, 2⟩] })] } : State).portRt (((({ adm (prts [(0,4)] full) 0x8F [(32,5)] 0 with media.rank := [(0, { rank1 with slots := [⟨1, 9, 0⟩, ⟨0, 10, 1⟩, ⟨0, 11, 2⟩] })] } : State).qrt ((0 : Fin 256) : Fn).val ((0 : Fin 64) : Q).val).fetched.headD default : FEntry).e.bytes 35 1)).drive).getD default, by decide +kernel⟩,
   ⟨(0 : Fin 256), (0 : Fin 64), { adm (prts [(0,5)] full) 0x8F [(32,6)] 0 with media.rank := [(0, { rank1 with slots := [⟨1, 9, 0⟩, ⟨0, 10, 1⟩, ⟨0, 11, 2⟩], departed := [(100, 1)] })] }, (({ adm (prts [(0,5)] full) 0x8F [(32,6)] 0 with media.rank := [(0, { rank1 with slots := [⟨1, 9, 0⟩, ⟨0, 10, 1⟩, ⟨0, 11, 2⟩], departed := [(100, 1)] })] } : State).qrt ((0 : Fin 256) : Fn).val ((0 : Fin 64) : Q).val).fetched.headD default, (({ adm (prts [(0,5)] full) 0x8F [(32,6)] 0 with media.rank := [(0, { rank1 with slots := [⟨1, 9, 0⟩, ⟨0, 10, 1⟩, ⟨0, 11, 2⟩], departed := [(100, 1)] })] } : State).rank? (((({ adm (prts [(0,5)] full) 0x8F [(32,6)] 0 with media.rank := [(0, { rank1 with slots := [⟨1, 9, 0⟩, ⟨0, 10, 1⟩, ⟨0, 11, 2⟩], departed := [(100, 1)] })] } : State).qrt ((0 : Fin 256) : Fn).val ((0 : Fin 64) : Q).val).fetched.headD default : FEntry).e.bytes 33 1)).getD default, (((({ adm (prts [(0,5)] full) 0x8F [(32,6)] 0 with media.rank := [(0, { rank1 with slots := [⟨1, 9, 0⟩, ⟨0, 10, 1⟩, ⟨0, 11, 2⟩], departed := [(100, 1)] })] } : State).rank? (((({ adm (prts [(0,5)] full) 0x8F [(32,6)] 0 with media.rank := [(0, { rank1 with slots := [⟨1, 9, 0⟩, ⟨0, 10, 1⟩, ⟨0, 11, 2⟩], departed := [(100, 1)] })] } : State).qrt ((0 : Fin 256) : Fn).val ((0 : Fin 64) : Q).val).fetched.headD default : FEntry).e.bytes 33 1)).getD default : RankRt).slots[((({ adm (prts [(0,5)] full) 0x8F [(32,6)] 0 with media.rank := [(0, { rank1 with slots := [⟨1, 9, 0⟩, ⟨0, 10, 1⟩, ⟨0, 11, 2⟩], departed := [(100, 1)] })] } : State).qrt ((0 : Fin 256) : Fn).val ((0 : Fin 64) : Q).val).fetched.headD default : FEntry).e.bytes 34 1]?).getD default, ((({ adm (prts [(0,5)] full) 0x8F [(32,6)] 0 with media.rank := [(0, { rank1 with slots := [⟨1, 9, 0⟩, ⟨0, 10, 1⟩, ⟨0, 11, 2⟩], departed := [(100, 1)] })] } : State).portRt (((({ adm (prts [(0,5)] full) 0x8F [(32,6)] 0 with media.rank := [(0, { rank1 with slots := [⟨1, 9, 0⟩, ⟨0, 10, 1⟩, ⟨0, 11, 2⟩], departed := [(100, 1)] })] } : State).qrt ((0 : Fin 256) : Fn).val ((0 : Fin 64) : Q).val).fetched.headD default : FEntry).e.bytes 35 1)).drive).getD default, by decide +kernel⟩,
   ⟨(0 : Fin 256), (0 : Fin 64), adm (prts [(0,5)] full) 0x8F [(32,7),(38,4)] 0, ((adm (prts [(0,5)] full) 0x8F [(32,7),(38,4)] 0 : State).qrt ((0 : Fin 256) : Fn).val ((0 : Fin 64) : Q).val).fetched.headD default, by decide +kernel⟩,
   ⟨(0 : Fin 256), (0 : Fin 64), adm (prts [(0,5)] full) 0x8F [(32,8)] 0, ((adm (prts [(0,5)] full) 0x8F [(32,8)] 0 : State).qrt ((0 : Fin 256) : Fn).val ((0 : Fin 64) : Q).val).fetched.headD default, by decide +kernel⟩,
   ⟨(0 : Fin 256), (0 : Fin 64), adm full 0x8F [(32,9)] 512, ((adm full 0x8F [(32,9)] 512 : State).qrt ((0 : Fin 256) : Fn).val ((0 : Fin 64) : Q).val).fetched.headD default, by decide +kernel⟩,
   ⟨(0 : Fin 256), (0 : Fin 64), adm full 0x8F [(32,10),(38,4)] 0, ((adm full 0x8F [(32,10),(38,4)] 0 : State).qrt ((0 : Fin 256) : Fn).val ((0 : Fin 64) : Q).val).fetched.headD default, by decide +kernel⟩⟩

theorem test_hyps_PatrolCommands :
    (∃ us : List UnitCheck, ∃ s : State, s.patrolOn = false) ∧
    (∃ us : List UnitCheck, ∃ s : State, ∃ e : Nat, ∃ r : RankRt, s.patrolOn = true ∧ s.patrolExtent = some e ∧ s.rank? (s.ext e).rank = some r ∧ (∀ u ∈ us, u = .good) ∧ s.rd Reg.ASY_PATROL_POS.EXTENT 0 = e ∧ s.asy.stripe + 1 < s.stripesHeld e) ∧
    (∃ us : List UnitCheck, ∃ s : State, ∃ e : Nat, ∃ r : RankRt, s.patrolOn = true ∧ s.patrolExtent = some e ∧ s.rank? (s.ext e).rank = some r ∧ UnitCheck.hard ∈ us ∧ (s.ext e).placegen ≠ 0xFFFFFF ∧ s.rankState (s.ext e).rank ≠ 4 ∧ (∀ a ∈ s.asy.attn, a.extent ≠ e) ∧ s.asy.attn.length < 65536) ∧
    (∃ s : State, s.patrolExtent = none ∧ s.logBays.length ≤ s.asy.logBay) ∧
    (∃ s : State, ∃ e : Nat, ∃ x : Extent, (e, x) ∈ s.key.ext ∧ x.st = .sealedE ∧ s.setting 0x5004 ≤ x.age ∧ (s.ext e).placegen ≠ 0xFFFFFF ∧ s.rankState (s.ext e).rank ≠ 4 ∧ s.asy.drive = [] ∧ s.asy.attn.length + 3 * s.key.ext.length < 65536) ∧
    (∃ p : Port, ∃ pct : BitVec 8, ∃ n : BitVec 32, ∃ s : State, (s.portState p.val = 2 ∨ s.portState p.val = 3)) ∧
    (∃ m : Fin 16, ∃ v : BitVec 32, ∃ s : State, Admitted s m 0x40A00004) :=
  ⟨⟨[], on [(Reg.DEV_STATUS.POWER, 0, 1)], by decide +kernel⟩,
   ⟨[.good, .good], set (sealedExt (withRank full)) [(Reg.ASY_PATROL_POS.EXTENT, 0, 5)], 5, ((set (sealedExt (withRank full)) [(Reg.ASY_PATROL_POS.EXTENT, 0, 5)] : State).rank? ((set (sealedExt (withRank full)) [(Reg.ASY_PATROL_POS.EXTENT, 0, 5)] : State).ext (5 : Nat)).rank).getD default, by decide +kernel⟩,
   ⟨[.hard, .good], set (sealedExt (withRank full)) [(Reg.ASY_PATROL_POS.EXTENT, 0, 5)], 5, ((set (sealedExt (withRank full)) [(Reg.ASY_PATROL_POS.EXTENT, 0, 5)] : State).rank? ((set (sealedExt (withRank full)) [(Reg.ASY_PATROL_POS.EXTENT, 0, 5)] : State).ext (5 : Nat)).rank).getD default, by decide +kernel⟩,
   ⟨full, by decide +kernel⟩,
   ⟨(sealedExt (withRank full)).setExt 5 { (sealedExt (withRank full)).ext 5 with age := 5000 }, 5, { (sealedExt (withRank full)).ext 5 with age := 5000 }, by decide +kernel⟩,
   ⟨0, (default : BitVec 8), (default : BitVec 32), prts [(0,2)] full, by decide +kernel⟩,
   ⟨0, 1, base, by decide +kernel⟩⟩

theorem test_hyps_MigrationCommands :
    (∃ s : State, ∃ a : Attn, ∃ rest : List Attn, ∃ tgt : Nat × Nat, s.migrationsRun = true ∧ s.asy.migs.length < s.setting 0x5012 ∧ (sortAttn s.asy.attn).filter s.takeable = a :: rest ∧ s.chooseTarget a = some tgt ∧ (∀ b ∈ rest, s.chooseTarget b ≠ none)) ∧
    (∃ e : ExtIdx, ∃ us : List UnitCheck, ∃ recs : List Nat, ∃ s : State, ∃ m : Mig, ∃ r : RankRt, ∃ k : RankRt, (s.asy.migs.find? fun z => z.extent = e.val) = some m ∧ m.started = true ∧ m.done = false ∧ s.migrationsRun = true ∧ s.bayResetting m.rank m.bay = false ∧ m.copied < s.stripesHeld e.val ∧ s.rank? m.srcRank = some r ∧ s.rank? m.rank = some k ∧ (∀ u ∈ us, u = .good ∨ u = .soft) ∧ r.k ≤ us.length) ∧
    (∃ e : ExtIdx, ∃ s : State, ∃ m : Mig, (s.asy.migs.find? fun z => z.extent = e.val) = some m ∧ m.started = true ∧ m.done = false ∧ s.stripesHeld e.val ≤ m.copied) ∧
    (∃ r : Rank, ∃ bay : BitVec 24, ∃ s : State, ∃ z : Nat × Nat × Nat, (s.media.resets.find? fun x => x.1 = r.val && x.2.1 = bay.toNat) = some z ∧ (∀ i ∈ s.lane.items, ¬ (i.2.rank = r.val ∧ i.2.bay = bay.toNat))) :=
  ⟨⟨{ (sealedExt (withRank full)) with asy.attn := [⟨5, 1, some (0, 1), 0⟩] }, ⟨5, 1, some (0, 1), 0⟩, [], (({ (sealedExt (withRank full)) with asy.attn := [⟨5, 1, some (0, 1), 0⟩] } : State).chooseTarget (⟨5, 1, some (0, 1), 0⟩ : Attn)).getD default, by decide +kernel⟩,
   ⟨5, [.good, .good], [], { (sealedExt (withRank full)) with asy.migs := [{ (default : Mig) with extent := 5, started := true, rank := 0, bay := 1 }] }, ((({ (sealedExt (withRank full)) with asy.migs := [{ (default : Mig) with extent := 5, started := true, rank := 0, bay := 1 }] } : State).asy.migs.find? fun z => z.extent = (5 : ExtIdx).val)).getD default, (({ (sealedExt (withRank full)) with asy.migs := [{ (default : Mig) with extent := 5, started := true, rank := 0, bay := 1 }] } : State).rank? (((({ (sealedExt (withRank full)) with asy.migs := [{ (default : Mig) with extent := 5, started := true, rank := 0, bay := 1 }] } : State).asy.migs.find? fun z => z.extent = (5 : ExtIdx).val)).getD default : Mig).srcRank).getD default, (({ (sealedExt (withRank full)) with asy.migs := [{ (default : Mig) with extent := 5, started := true, rank := 0, bay := 1 }] } : State).rank? (((({ (sealedExt (withRank full)) with asy.migs := [{ (default : Mig) with extent := 5, started := true, rank := 0, bay := 1 }] } : State).asy.migs.find? fun z => z.extent = (5 : ExtIdx).val)).getD default : Mig).rank).getD default, by decide +kernel⟩,
   ⟨5, { (sealedExt (withRank full)) with asy.migs := [{ { (default : Mig) with extent := 5, started := true, rank := 0, bay := 1 } with copied := 1000000 }] }, ((({ (sealedExt (withRank full)) with asy.migs := [{ { (default : Mig) with extent := 5, started := true, rank := 0, bay := 1 } with copied := 1000000 }] } : State).asy.migs.find? fun z => z.extent = (5 : ExtIdx).val)).getD default, by decide +kernel⟩,
   ⟨0, 2, { (sealedExt (withRank full)) with media.resets := [(0, 2, 0)] }, ((({ (sealedExt (withRank full)) with media.resets := [(0, 2, 0)] } : State).media.resets.find? fun x => x.1 = (0 : Rank).val && x.2.1 = (2 : BitVec 24).toNat)).getD default, by decide +kernel⟩⟩

theorem test_hyps_AssayCommands :
    (∃ f : Fn, ∃ q : Q, ∃ s : State, ∃ x : FEntry, AssayCmd s f q 1 x ∧ s.assayFields x.e = true ∧ s.asy.run = none) ∧
    (∃ f : Fn, ∃ q : Q, ∃ s : State, ∃ x : FEntry, ∃ r : AssayRun, AssayCmd s f q 2 x ∧ s.asy.run = some r) ∧
    (∃ f : Fn, ∃ q : Q, ∃ s : State, ∃ x : FEntry, ∃ r : AssayRun, AssayCmd s f q 3 x ∧ s.asy.run = some r ∧ r.paused = true) ∧
    (∃ f : Fn, ∃ q : Q, ∃ s : State, ∃ x : FEntry, ∃ r : AssayRun, AssayCmd s f q 4 x ∧ s.asy.run = some r) ∧
    (∃ f : Fn, ∃ q : Q, ∃ s : State, ∃ x : FEntry, AssayCmd s f q 5 x ∧ CqOpen s f q) ∧
    (∃ f : Fn, ∃ q : Q, ∃ s : State, ∃ x : FEntry, ∃ r : RankRt, AssayCmd s f q 6 x ∧ x.e.bytes 34 1 < 32 ∧ s.rank? (x.e.bytes 34 1) = some r ∧ s.archiveRo = false) ∧
    (∃ f : Fn, ∃ q : Q, ∃ s : State, ∃ x : FEntry, ∃ r : RankRt, AssayCmd s f q 7 x ∧ x.e.bytes 34 1 < 32 ∧ s.rank? (x.e.bytes 34 1) = some r ∧ r.evacuate = true) ∧
    (∃ b : Bool, ∃ s : State, ∃ r : AssayRun, ∃ e : Nat, s.asy.run = some r ∧ r.paused = false ∧ s.power = 0 ∧ r.cur = some e ∧ (s.ext e).st = .sealedE ∧ (s.ext e).keygen = r.keygen ∧ r.off < s.walkEnd r e) ∧
    (∃ s : State, ∃ r : AssayRun, ∃ e : Nat, ∃ y : Extent, s.asy.run = some r ∧ r.paused = false ∧ s.power = 0 ∧ r.cur = none ∧ s.runExtent r = some (e, y) ∧ y.st = .sealedE ∧ (s.tenant y.tenant).st ≠ 2 ∧ Tab.find e s.asy.seals ≠ none) ∧
    (∃ s : State, ∃ r : AssayRun, ∃ e : Nat, s.asy.run = some r ∧ r.paused = false ∧ r.cur = some e ∧ s.walkEnd r e ≤ r.off) ∧
    (∃ s : State, ∃ r : AssayRun, s.asy.run = some r ∧ r.paused = false ∧ r.scope = 0 ∧ r.batches + 1 ≤ s.rd Reg.SCV_BATCH_SEQ.BATCH 0) ∧
    (∃ s : State, ∃ r : AssayRun, s.asy.run = some r ∧ r.paused = false ∧ r.cur = none ∧ s.runExtent r = none ∧ r.scope ≠ 0) :=
  ⟨⟨(0 : Fin 256), (0 : Fin 64), adm full 0x89 [(32,1)] 0, ((adm full 0x89 [(32,1)] 0 : State).qrt ((0 : Fin 256) : Fn).val ((0 : Fin 64) : Q).val).fetched.headD default, by decide +kernel⟩,
   ⟨(0 : Fin 256), (0 : Fin 64), asy { (default : AssayRun) with last := 100 } (adm full 0x89 [(32,2)] 0), ((asy { (default : AssayRun) with last := 100 } (adm full 0x89 [(32,2)] 0) : State).qrt ((0 : Fin 256) : Fn).val ((0 : Fin 64) : Q).val).fetched.headD default, ((asy { (default : AssayRun) with last := 100 } (adm full 0x89 [(32,2)] 0) : State).asy.run).getD default, by decide +kernel⟩,
   ⟨(0 : Fin 256), (0 : Fin 64), asy { { (default : AssayRun) with last := 100 } with paused := true } (adm full 0x89 [(32,3)] 0), ((asy { { (default : AssayRun) with last := 100 } with paused := true } (adm full 0x89 [(32,3)] 0) : State).qrt ((0 : Fin 256) : Fn).val ((0 : Fin 64) : Q).val).fetched.headD default, ((asy { { (default : AssayRun) with last := 100 } with paused := true } (adm full 0x89 [(32,3)] 0) : State).asy.run).getD default, by decide +kernel⟩,
   ⟨(0 : Fin 256), (0 : Fin 64), asy { (default : AssayRun) with last := 100 } (adm full 0x89 [(32,4)] 0), ((asy { (default : AssayRun) with last := 100 } (adm full 0x89 [(32,4)] 0) : State).qrt ((0 : Fin 256) : Fn).val ((0 : Fin 64) : Q).val).fetched.headD default, ((asy { (default : AssayRun) with last := 100 } (adm full 0x89 [(32,4)] 0) : State).asy.run).getD default, by decide +kernel⟩,
   ⟨(0 : Fin 256), (0 : Fin 64), asy { (default : AssayRun) with last := 100 } (adm full 0x89 [(32,5)] 0), ((asy { (default : AssayRun) with last := 100 } (adm full 0x89 [(32,5)] 0) : State).qrt ((0 : Fin 256) : Fn).val ((0 : Fin 64) : Q).val).fetched.headD default, by decide +kernel⟩,
   ⟨(0 : Fin 256), (0 : Fin 64), adm (withRank full) 0x89 [(32,6)] 0, ((adm (withRank full) 0x89 [(32,6)] 0 : State).qrt ((0 : Fin 256) : Fn).val ((0 : Fin 64) : Q).val).fetched.headD default, ((adm (withRank full) 0x89 [(32,6)] 0 : State).rank? ((((adm (withRank full) 0x89 [(32,6)] 0 : State).qrt ((0 : Fin 256) : Fn).val ((0 : Fin 64) : Q).val).fetched.headD default : FEntry).e.bytes 34 1)).getD default, by decide +kernel⟩,
   ⟨(0 : Fin 256), (0 : Fin 64), { adm full 0x89 [(32,7)] 0 with media.rank := [(0, { rank1 with evacuate := true })] }, (({ adm full 0x89 [(32,7)] 0 with media.rank := [(0, { rank1 with evacuate := true })] } : State).qrt ((0 : Fin 256) : Fn).val ((0 : Fin 64) : Q).val).fetched.headD default, (({ adm full 0x89 [(32,7)] 0 with media.rank := [(0, { rank1 with evacuate := true })] } : State).rank? (((({ adm full 0x89 [(32,7)] 0 with media.rank := [(0, { rank1 with evacuate := true })] } : State).qrt ((0 : Fin 256) : Fn).val ((0 : Fin 64) : Q).val).fetched.headD default : FEntry).e.bytes 34 1)).getD default, by decide +kernel⟩,
   ⟨true, asy { { (default : AssayRun) with last := 100 } with cur := some 5, keygen := 1 } ((sealedExt (withRank full))), ((asy { { (default : AssayRun) with last := 100 } with cur := some 5, keygen := 1 } ((sealedExt (withRank full))) : State).asy.run).getD default, 5, by decide +kernel⟩,
   ⟨asy { (default : AssayRun) with last := 100 } ({ (sealedExt (withRank full)) with asy.seals := [(5, default)] }), ((asy { (default : AssayRun) with last := 100 } ({ (sealedExt (withRank full)) with asy.seals := [(5, default)] }) : State).asy.run).getD default, 5, (sealedExt (withRank full)).ext 5, by decide +kernel⟩,
   ⟨asy { { (default : AssayRun) with last := 100 } with cur := some 5, keygen := 1, off := 2 ^ 20 } ((sealedExt (withRank full))), ((asy { { (default : AssayRun) with last := 100 } with cur := some 5, keygen := 1, off := 2 ^ 20 } ((sealedExt (withRank full))) : State).asy.run).getD default, 5, by decide +kernel⟩,
   ⟨asy { (default : AssayRun) with last := 100 } (set full [(Reg.SCV_BATCH_SEQ.BATCH, 0, 3)]), ((asy { (default : AssayRun) with last := 100 } (set full [(Reg.SCV_BATCH_SEQ.BATCH, 0, 3)]) : State).asy.run).getD default, by decide +kernel⟩,
   ⟨asy { { (default : AssayRun) with last := 100 } with scope := 1, arg := 9 } (full), ((asy { { (default : AssayRun) with last := 100 } with scope := 1, arg := 9 } (full) : State).asy.run).getD default, by decide +kernel⟩⟩

theorem test_hyps_ReleaseExtentsCommands :
    (∃ f : Fn, ∃ q : Q, ∃ l : List (BitVec 32), ∃ s : State, ∃ x : FEntry, ReleaseCmd s f q 1 l x) ∧
    (∃ f : Fn, ∃ q : Q, ∃ l : List (BitVec 32), ∃ s : State, ∃ x : FEntry, ReleaseCmd s f q 2 l x) ∧
    (∃ f : Fn, ∃ q : Q, ∃ l : List (BitVec 32), ∃ s : State, ∃ x : FEntry, ReleaseCmd s f q 3 l x) ∧
    (∃ f : Fn, ∃ q : Q, ∃ l : List (BitVec 32), ∃ s : State, ∃ x : FEntry, ReleaseCmd s f q 4 l x ∧ CqOpen s f q) :=
  ⟨⟨(0 : Fin 256), (0 : Fin 64), [5], adm (sealedExt (withRank full)) 0x88 [(32,1),(36,1)] 4, ((adm (sealedExt (withRank full)) 0x88 [(32,1),(36,1)] 4 : State).qrt ((0 : Fin 256) : Fn).val ((0 : Fin 64) : Q).val).fetched.headD default, by simp only [ReleaseCmd, State.releaseRefused]; rcases space with h | h <;> simp only [h] <;> decide +kernel⟩,
   ⟨(0 : Fin 256), (0 : Fin 64), [5], adm (sealedExt (withRank full)) 0x88 [(32,2),(36,1)] 4, ((adm (sealedExt (withRank full)) 0x88 [(32,2),(36,1)] 4 : State).qrt ((0 : Fin 256) : Fn).val ((0 : Fin 64) : Q).val).fetched.headD default, by simp only [ReleaseCmd, State.releaseRefused]; rcases space with h | h <;> simp only [h] <;> decide +kernel⟩,
   ⟨(0 : Fin 256), (0 : Fin 64), [5], (adm ((sealedExt (withRank full)).setExt 5 { (sealedExt (withRank full)).ext 5 with hold := true }) 0x88 [(32,3),(36,1)] 4).wr Reg.TMP_STATUS.SESSION 0 2, (((adm ((sealedExt (withRank full)).setExt 5 { (sealedExt (withRank full)).ext 5 with hold := true }) 0x88 [(32,3),(36,1)] 4).wr Reg.TMP_STATUS.SESSION 0 2 : State).qrt ((0 : Fin 256) : Fn).val ((0 : Fin 64) : Q).val).fetched.headD default, by simp only [ReleaseCmd, State.releaseRefused]; rcases space with h | h <;> simp only [h] <;> decide +kernel⟩,
   ⟨(0 : Fin 256), (0 : Fin 64), [5], adm (sealedExt (withRank full)) 0x88 [(32,4),(36,1)] 4, ((adm (sealedExt (withRank full)) 0x88 [(32,4),(36,1)] 4 : State).qrt ((0 : Fin 256) : Fn).val ((0 : Fin 64) : Q).val).fetched.headD default, by simp only [ReleaseCmd, State.releaseRefused]; rcases space with h | h <;> simp only [h] <;> decide +kernel⟩⟩

theorem test_hyps_RngCommands :
    (∃ src : Fin 12, ∃ rct : Bool, ∃ apt : Bool, ∃ s : State, (s.srcState src.val = 1 ∨ s.srcState src.val = 2) ∧ (rct || apt) = true) ∧
    (∃ src : Fin 12, ∃ s : State, s.rngState ≠ 0 ∧ s.srcState src.val = 3) ∧
    (∃ src : Fin 12, ∃ s : State, s.rngState ≠ 0 ∧ s.srcState src.val = 1) ∧
    (∃ s : State, s.rngState ≠ 0 ∧ s.srcCount 2 ≠ 0 ∧ s.rd Reg.RNG_STATUS.POOL 0 < 16) ∧
    (∃ i : Fin 4, ∃ s : State, (s.rngState = 1 ∨ s.rngState = 2) ∧ s.instReady i.val = false ∧ 2 ≤ s.rd Reg.RNG_STATUS.POOL 0) ∧
    (∃ i : Fin 4, ∃ s : State, (s.rngState = 1 ∨ s.rngState = 2) ∧ s.instReady i.val = true ∧ s.reseedDue i.val = true ∧ s.rd Reg.RNG_STATUS.POOL 0 ≠ 0) ∧
    (∃ f : Fn, ∃ q : Q, ∃ s : State, ∃ x : FEntry, Fetched s f q 8 x ∧ s.power = 0 ∧ s.ioLifecycle 8 = none ∧ x.e.length.toNat ≠ 0 ∧ onlyBytes x.e [] = true ∧ s.rngState ≠ 3) ∧
    (∃ f : Fn, ∃ q : Q, ∃ s : State, ∃ x : FEntry, Fetched s f q 8 x ∧ s.power = 0 ∧ s.ioLifecycle 8 = none ∧ x.e.length.toNat ≠ 0 ∧ onlyBytes x.e [] = true ∧ s.rngState = 3 ∧ CqOpen s f q) ∧
    (∃ i : Fin 4, ∃ n : Fin 4097, ∃ how : LinkEnd, ∃ s : State, s.rngState = 2 ∧ s.instReady i.val = true ∧ s.reseedDue i.val = false ∧ i.val < 2 ∧ n.val ≠ 0) ∧
    (∃ n : Fin 4097, ∃ s : State, ∃ r : RandReq, ∃ f : Fn, ∃ q : Q, ∃ cid : Nat, ∃ sg : List (Nat × Nat), s.rngState = 2 ∧ s.instReady 2 = true ∧ s.reseedDue 2 = false ∧ s.randReq 3 = none ∧ s.randReq 2 = some r ∧ r.who = .host f.val q.val cid sg ∧ r.want ≤ r.given + 4096 ∧ CqOpen s f q) ∧
    (∃ m : Fin 16, ∃ mask : BitVec 4, ∃ s : State, Admitted s m 0x40700004) ∧
    (∃ m : Fin 16, ∃ v : BitVec 32, ∃ s : State, Admitted s m 0x40700400 ∧ v.getLsbD 31 = true ∧ s.rd Reg.RNG_RAW_CTRL.EN 0 = 0 ∧ s.lifecycle ≤ 1 ∧ 1 ≤ s.rngState ∧ s.rngState ≤ 3) ∧
    (∃ m : Fin 16, ∃ v : BitVec 32, ∃ s : State, Admitted s m 0x40700400 ∧ v.getLsbD 31 = true ∧ s.rd Reg.RNG_RAW_CTRL.EN 0 = 0 ∧ 1 < s.lifecycle) ∧
    (∃ m : Fin 16, ∃ v : BitVec 32, ∃ s : State, Admitted s m 0x40700400 ∧ v.getLsbD 31 = false ∧ s.rd Reg.RNG_RAW_CTRL.EN 0 = 1 ∧ s.rngState = 4) ∧
    (∃ m : Fin 16, ∃ fresh : List (BitVec 32), ∃ s : State, s.mainOn = true ∧ s.denied m.val 0x40700408 false = none ∧ s.rngState = 4 ∧ s.rng.fifo.length + fresh.length ≤ 1024) ∧
    (∃ m : Fin 16, ∃ fresh : List (BitVec 32), ∃ s : State, s.mainOn = true ∧ s.denied m.val 0x40700408 false = none ∧ s.rngState ≠ 4) :=
  ⟨⟨0, true, true, set full [(Reg.RNG_SRC_STATUS.STATE, 0, 1)], by decide +kernel⟩,
   ⟨0, set full [(Reg.RNG_STATUS.STATE, 0, 2), (Reg.RNG_SRC_STATUS.STATE, 0, 3)], by decide +kernel⟩,
   ⟨0, set full [(Reg.RNG_STATUS.STATE, 0, 2), (Reg.RNG_SRC_STATUS.STATE, 0, 1)], by decide +kernel⟩,
   ⟨set full [(Reg.RNG_STATUS.STATE, 0, 2), (Reg.RNG_SRC_STATUS.STATE, 0, 2)], by decide +kernel⟩,
   ⟨0, set full [(Reg.RNG_STATUS.STATE, 0, 1), (Reg.RNG_STATUS.POOL, 0, 3), (Reg.RNG_STATUS.INST, 0, 0)], by decide +kernel⟩,
   ⟨0, { set full [(Reg.RNG_STATUS.STATE, 0, 2), (Reg.RNG_STATUS.POOL, 0, 3), (Reg.RNG_STATUS.INST, 0, 1)] with rng.named := [0] }, by decide +kernel⟩,
   ⟨0, (0 : Fin 64), adm (set full [(Reg.RNG_STATUS.STATE, 0, 2), (Reg.RNG_STATUS.INST, 0, 4)]) 8 [] 32, ((adm (set full [(Reg.RNG_STATUS.STATE, 0, 2), (Reg.RNG_STATUS.INST, 0, 4)]) 8 [] 32 : State).qrt (0 : Fn).val ((0 : Fin 64) : Q).val).fetched.headD default, by decide +kernel⟩,
   ⟨0, (0 : Fin 64), adm (set full [(Reg.RNG_STATUS.STATE, 0, 3)]) 8 [] 32, ((adm (set full [(Reg.RNG_STATUS.STATE, 0, 3)]) 8 [] 32 : State).qrt (0 : Fn).val ((0 : Fin 64) : Q).val).fetched.headD default, by decide +kernel⟩,
   ⟨1, 1, LinkEnd.ok, set full [(Reg.RNG_STATUS.STATE, 0, 2), (Reg.RNG_STATUS.INST, 0, 15)], by decide +kernel⟩,
   ⟨1, { set full [(Reg.RNG_STATUS.STATE, 0, 2), (Reg.RNG_STATUS.INST, 0, 15)] with rng.reqs := [⟨.host 0 0 7 [], 0, 32, 0⟩] }, (({ set full [(Reg.RNG_STATUS.STATE, 0, 2), (Reg.RNG_STATUS.INST, 0, 15)] with rng.reqs := [⟨.host 0 0 7 [], 0, 32, 0⟩] } : State).randReq 2).getD default, 0, (0 : Fin 64), 7, [], by decide +kernel⟩,
   ⟨0, 3, base, by decide +kernel⟩,
   ⟨0, 0x80000000, set full [(Reg.RNG_STATUS.STATE, 0, 2), (Reg.DEV_STATUS.LIFECYCLE, 0, 1)], by decide +kernel⟩,
   ⟨0, 0x80000000, set full [(Reg.RNG_STATUS.STATE, 0, 2)], by decide +kernel⟩,
   ⟨0, 0, set full [(Reg.RNG_STATUS.STATE, 0, 4), (Reg.RNG_RAW_CTRL.EN, 0, 1)], by decide +kernel⟩,
   ⟨0, [5], set full [(Reg.RNG_STATUS.STATE, 0, 4)], by decide +kernel⟩,
   ⟨0, [5], set full [(Reg.RNG_STATUS.STATE, 0, 2)], by decide +kernel⟩⟩

theorem test_hyps_ResetCommands :
    (∃ c : ColdStart, ∃ s : State, c.selfTest = false) ∧
    (∃ c : ColdStart, ∃ s : State, c.selfTest = true ∧ c.marginal = [] ∧ c.puf = true) ∧
    (∃ s : State, s.aon.watch = true) ∧
    (∃ s : State, s.aon.watch = false ∧ s.isSet Reg.AON_STATUS.PWR_FAIL 0 = true) ∧
    (∃ s : State, s.aon.watch = false ∧ s.isSet Reg.AON_STATUS.PWR_FAIL 0 = false ∧ s.power ≠ 2) ∧
    (∃ m : Fin 16, ∃ v : BitVec 32, ∃ s : State, Admitted s m 0x40080080 ∧ v.toNat / 2 ^ 16 = 0xA5C4 ∧ v.getLsbD 0 = true) ∧
    (∃ m : Fin 16, ∃ v : BitVec 32, ∃ s : State, Admitted s m 0x40080080 ∧ (v.toNat / 2 ^ 16 ≠ 0xA5C4 ∨ v.getLsbD 0 = false)) ∧
    (∃ s : State, s.isSet Reg.AON_STATUS.PWR_FAIL 0 = true ∧ s.mainOn = true) ∧
    (∃ s : State, s.isSet Reg.AON_STATUS.PWR_FAIL 0 = true ∧ s.mainOn = false ∧ s.aon.heldReset = false) :=
  ⟨⟨⟨false, [], true, true⟩, base, by decide +kernel⟩,
   ⟨⟨true, [], true, true⟩, base, by decide +kernel⟩,
   ⟨{ full with aon.watch := true }, by decide +kernel⟩,
   ⟨set full [(Reg.AON_STATUS.PWR_FAIL, 0, 1)], by decide +kernel⟩,
   ⟨full, by decide +kernel⟩,
   ⟨0, 0xA5C40001, base, by decide +kernel⟩,
   ⟨0, 0, base, by decide +kernel⟩,
   ⟨set full [(Reg.AON_STATUS.PWR_FAIL, 0, 1)], by decide +kernel⟩,
   ⟨set full [(Reg.DEV_STATUS.POWER, 0, 2), (Reg.AON_STATUS.PWR_FAIL, 0, 1)], by decide +kernel⟩⟩

theorem test_hyps_BootCommands :
    (∃ r : PorterRead, ∃ s : State, s.cfg.boot ≠ 0 ∧ s.rd Reg.PTR_STATUS.STAGE 0 = 4 ∧ r.record = false) ∧
    (∃ r : PorterRead, ∃ s : State, s.cfg.boot ≠ 0 ∧ s.rd Reg.PTR_STATUS.STAGE 0 = 4 ∧ r.record = true ∧ s.copyReason r.a ≠ 0 ∧ s.copyReason r.b ≠ 0) ∧
    (∃ r : PorterRead, ∃ s : State, ∃ i, s.cfg.boot ≠ 0 ∧ s.rd Reg.PTR_STATUS.STAGE 0 = 4 ∧ r.record = true ∧ s.copyReason r.a = 0 ∧ s.copyReason r.b ≠ 0 ∧ r.a.image = some i ∧ (i.keeper.digest = s.cfg.record.keeper.1 ∨ r.keeperOk = true)) ∧
    (∃ s : State, s.cfg.boot ≠ 0 ∧ s.rd Reg.PTR_STATUS.STAGE 0 = 12) ∧
    (∃ r : TableRead, ∃ s : State, s.cfg.boot ≠ 0 ∧ s.rd Reg.PTR_STATUS.STAGE 0 = 13) :=
  ⟨⟨{ (default : PorterRead) with record := false }, set (boot 4) [(Reg.OTP_WORD.VALUE, 16, 7)], by decide +kernel⟩,
   ⟨{ (default : PorterRead) with record := true }, set (boot 4) [(Reg.OTP_WORD.VALUE, 16, 7)], by decide +kernel⟩,
   ⟨{ (default : PorterRead) with record := true, a := copy, keeperOk := true }, set (boot 4) [(Reg.OTP_WORD.VALUE, 16, 7)], img, by simp only [State.copyReason]; cases Config.part128 <;> decide +kernel⟩,
   ⟨boot 12, by decide +kernel⟩,
   ⟨default, boot 13, by decide +kernel⟩⟩

theorem test_hyps_ConfigImageCommands :
    (∃ f : Fn, ∃ q : Q, ∃ s : State, ∃ x : FEntry, ConfigCmd s f q 1 x) ∧
    (∃ f : Fn, ∃ q : Q, ∃ s : State, ∃ x : FEntry, ∃ w : WSession, ConfigCmd s f q 2 x ∧ s.cfg.session = some w) ∧
    (∃ f : Fn, ∃ q : Q, ∃ c : CopyRead, ∃ s : State, ∃ x : FEntry, ∃ w : WSession, ConfigCmd s f q 3 x ∧ s.cfg.session = some w ∧ w.hdr = true ∧ s.copyReason c = 0) ∧
    (∃ f : Fn, ∃ q : Q, ∃ c : CopyRead, ∃ s : State, ∃ x : FEntry, ∃ w : WSession, ConfigCmd s f q 3 x ∧ s.cfg.session = some w ∧ w.hdr = true ∧ s.copyReason c ≠ 0 ∧ CqOpen s f q) ∧
    (∃ f : Fn, ∃ q : Q, ∃ s : State, ∃ x : FEntry, ∃ w : WSession, ConfigCmd s f q 4 x ∧ s.cfg.session = some w) ∧
    (∃ r : FuseRead, ∃ s : State, s.mainOn = true ∧ s.isSet Reg.OTP_STATUS.READ_DONE 0 = true ∧ s.isSet Reg.KPR_STATUS.HALTED 0 = false) ∧
    (∃ m : Fin 16, ∃ r : FuseRead, ∃ s : State, Admitted s m 0x40F03060) :=
  ⟨⟨(0 : Fin 256), (0 : Fin 64), adm (set full [(Reg.PTR_CHIP.SIZELOG, 0, 24), (Reg.PTR_STATUS.B_OK, 0, 1)]) 0x87 [(32,1),(40,16384)] 0, ((adm (set full [(Reg.PTR_CHIP.SIZELOG, 0, 24), (Reg.PTR_STATUS.B_OK, 0, 1)]) 0x87 [(32,1),(40,16384)] 0 : State).qrt ((0 : Fin 256) : Fn).val ((0 : Fin 64) : Q).val).fetched.headD default, by decide +kernel⟩,
   ⟨(0 : Fin 256), (0 : Fin 64), { adm full 0x87 [(32,2)] 4096 with cfg.session := some ⟨0, 16384, false, []⟩ }, (({ adm full 0x87 [(32,2)] 4096 with cfg.session := some ⟨0, 16384, false, []⟩ } : State).qrt ((0 : Fin 256) : Fn).val ((0 : Fin 64) : Q).val).fetched.headD default, (({ adm full 0x87 [(32,2)] 4096 with cfg.session := some ⟨0, 16384, false, []⟩ } : State).cfg.session).getD default, by decide +kernel⟩,
   ⟨(0 : Fin 256), (0 : Fin 64), copy, { adm (set full [(Reg.OTP_WORD.VALUE, 16, 7)]) 0x87 [(32,3)] 0 with cfg.session := some ⟨0, 16384, true, [0, 1, 2, 3]⟩ }, (({ adm (set full [(Reg.OTP_WORD.VALUE, 16, 7)]) 0x87 [(32,3)] 0 with cfg.session := some ⟨0, 16384, true, [0, 1, 2, 3]⟩ } : State).qrt ((0 : Fin 256) : Fn).val ((0 : Fin 64) : Q).val).fetched.headD default, (({ adm (set full [(Reg.OTP_WORD.VALUE, 16, 7)]) 0x87 [(32,3)] 0 with cfg.session := some ⟨0, 16384, true, [0, 1, 2, 3]⟩ } : State).cfg.session).getD default, by simp only [State.copyReason]; cases Config.part128 <;> decide +kernel⟩,
   ⟨(0 : Fin 256), (0 : Fin 64), default, { adm (set full [(Reg.OTP_WORD.VALUE, 16, 7)]) 0x87 [(32,3)] 0 with cfg.session := some ⟨0, 16384, true, [0, 1, 2, 3]⟩ }, (({ adm (set full [(Reg.OTP_WORD.VALUE, 16, 7)]) 0x87 [(32,3)] 0 with cfg.session := some ⟨0, 16384, true, [0, 1, 2, 3]⟩ } : State).qrt ((0 : Fin 256) : Fn).val ((0 : Fin 64) : Q).val).fetched.headD default, (({ adm (set full [(Reg.OTP_WORD.VALUE, 16, 7)]) 0x87 [(32,3)] 0 with cfg.session := some ⟨0, 16384, true, [0, 1, 2, 3]⟩ } : State).cfg.session).getD default, by decide +kernel⟩,
   ⟨(0 : Fin 256), (0 : Fin 64), { adm full 0x87 [(32,4)] 0 with cfg.session := some ⟨0, 16384, false, []⟩ }, (({ adm full 0x87 [(32,4)] 0 with cfg.session := some ⟨0, 16384, false, []⟩ } : State).qrt ((0 : Fin 256) : Fn).val ((0 : Fin 64) : Q).val).fetched.headD default, (({ adm full 0x87 [(32,4)] 0 with cfg.session := some ⟨0, 16384, false, []⟩ } : State).cfg.session).getD default, by decide +kernel⟩,
   ⟨⟨[], []⟩, set full [(Reg.OTP_STATUS.READ_DONE, 0, 1)], by decide +kernel⟩,
   ⟨0, ⟨[], []⟩, base, by decide +kernel⟩⟩

theorem test_hyps_PowerCommands :
    (∃ s : State, s.aon.wake = none ∧ s.mainOn = true) ∧
    (∃ s : State, s.aon.wake = none ∧ s.mainOn = false ∧ s.aon.watch = false) ∧
    (∃ s : State, s.aon.wake = none ∧ s.aon.watch = true) ∧
    (∃ s : State, s.aon.pwrEn = true) ∧
    (∃ f : Fn, ∃ q : Q, ∃ s : State, ∃ x : FEntry, Fetched s f q 0x82 x ∧ s.aon.move = none ∧ s.set.excl = false ∧ s.powerRefused x.e = none ∧ s.power = 0 ∧ s.lane.items ≠ []) ∧
    (∃ f : Fn, ∃ q : Q, ∃ s : State, ∃ x : FEntry, ∃ r : Nat × Nat × Nat, Fetched s f q 0x82 x ∧ CqOpen s f q ∧ s.aon.move = none ∧ s.set.excl = false ∧ s.powerRefused x.e = some r) ∧
    (∃ f : Fn, ∃ q : Q, ∃ s : State, ∃ m : Move, s.aon.move = some m ∧ s.isSet Reg.AON_STATUS.PWR_FAIL 0 = false ∧ s.moveReady m.target = true) ∧
    (∃ p : Fin 2, ∃ v : BitVec 32, ∃ s : State, s.power = 2 ∧ s.aon.watch = false ∧ s.aon.wake = none ∧ s.isSet Reg.AON_STATUS.PWR_FAIL 0 = false ∧ (let f := if p.val = 0 then 0 else 128; s.qActive f 0 = true ∧ s.isSet Reg.QCTRL.EN (qix f 0) = true ∧ v.toNat % 65536 < s.qDepth f 0)) ∧
    (∃ s : State, s.isSet Reg.AON_STATUS.WAKE_DRIVE 0 = false ∧ s.mainOn = false ∧ s.aon.wake = none ∧ s.isSet Reg.AON_STATUS.PWR_FAIL 0 = false) ∧
    (∃ s : State, s.isSet Reg.AON_STATUS.WAKE_DRIVE 0 = false) ∧
    (∃ s : State, s.aon.watch = true ∧ s.aon.pwrEn = false ∧ s.aon.wake = none ∧ s.isSet Reg.AON_STATUS.PWR_FAIL 0 = false) ∧
    (∃ s : State, ∃ w : Wake, s.aon.wake = some w ∧ w.step = .power) ∧
    (∃ s : State, ∃ w : Wake, s.aon.wake = some w ∧ w.step = .crystal) ∧
    (∃ s : State, ∃ w : Wake, s.aon.wake = some w ∧ w.step = .pll ∧ s.aon.clockLost = false ∧ w.fromWatch = true) ∧
    (∃ s : State, ∃ w : Wake, s.aon.wake = some w ∧ w.step = .pll ∧ s.aon.clockLost = false ∧ w.fromWatch = false ∧ s.aon.heldReset = false ∧ s.tmp.lockDue = false ∧ s.host.perstPending = []) ∧
    (∃ s : State, ∃ w : Wake, s.aon.wake = some w ∧ w.step = .power ∧ w.power < 4) ∧
    (∃ s : State, ∃ w : Wake, s.aon.wake = some w ∧ w.step = .power ∧ 4 ≤ w.power) ∧
    (∃ s : State, ∃ w : Wake, s.aon.wake = some w ∧ w.step = .crystal ∧ w.crystal < 4) ∧
    (∃ s : State, ∃ w : Wake, s.aon.wake = some w ∧ w.step = .crystal ∧ 4 ≤ w.crystal) ∧
    (∃ s : State, ∃ w : Wake, s.aon.wake = some w ∧ w.step = .pll ∧ w.pll < 4) ∧
    (∃ s : State, ∃ w : Wake, s.aon.wake = some w ∧ w.step = .pll ∧ 4 ≤ w.pll) ∧
    (∃ s : State, ∃ w : Wake, s.aon.wake = some w ∧ w.step = .powerWait) ∧
    (∃ s : State, ∃ w : Wake, s.aon.wake = some w ∧ w.step = .crystalWait) ∧
    (∃ s : State, ∃ w : Wake, s.aon.wake = some w) ∧
    (∃ s : State, s.mainOn = true) ∧
    (∃ s : State, s.isSet Reg.AON_STATUS.RC_ACTIVE 0 = false) ∧
    (∃ m : Fin 16, ∃ s : State, Admitted s m 0x40E00040 ∧ s.isSet Reg.AON_CLK_STATUS.XTAL25_OK 0 = true ∧ s.isSet Reg.AON_STATUS.RC_ACTIVE 0 = true) ∧
    (∃ m : Fin 16, ∃ s : State, Admitted s m 0x40E00040) ∧
    (∃ ppm : BitVec 16, ∃ s : State, s.isSet Reg.AON_CLK_STATUS.XTAL25_OK 0 = true) ∧
    (∃ a : BitVec 16, ∃ b : BitVec 16, ∃ s : State, s.isSet Reg.AON_STATUS.SOURCE 0 = false) ∧
    (∃ s : State, s.isSet Reg.AON_STATUS.DWELL 0 = true) ∧
    (∃ a : BitVec 16, ∃ b : BitVec 16, ∃ s : State, s.isSet Reg.AON_STATUS.QUALIFY 0 = true) ∧
    (∃ v : BitVec 16, ∃ s : State, v.toNat < s.setting 0x6002) ∧
    (∃ s : State, s.isSet Reg.AON_CAL.ARMED 0 = true ∧ (s.mainOn = false ∨ s.power ≠ 0) ∧ s.rd Reg.AON_CAL.DEADLINE 0 ≤ s.ticks) ∧
    (∃ s : State, s.isSet Reg.AON_STATUS.WAKE_DRIVE 0 = true) :=
  ⟨⟨full, by decide +kernel⟩,
   ⟨set full [(Reg.DEV_STATUS.POWER, 0, 2)], by decide +kernel⟩,
   ⟨{ full with aon.watch := true, aon.pwrEn := true }, by decide +kernel⟩,
   ⟨{ full with aon.watch := false, aon.pwrEn := true }, by decide +kernel⟩,
   ⟨(0 : Fin 256), (0 : Fin 64), adm (item default) 0x82 [(32,1)] 0, ((adm (item default) 0x82 [(32,1)] 0 : State).qrt ((0 : Fin 256) : Fn).val ((0 : Fin 64) : Q).val).fetched.headD default, by decide +kernel⟩,
   ⟨(0 : Fin 256), (0 : Fin 64), adm full 0x82 [(32,9)] 0, ((adm full 0x82 [(32,9)] 0 : State).qrt ((0 : Fin 256) : Fn).val ((0 : Fin 64) : Q).val).fetched.headD default, (Status.FIELD_INVALID, 0, 0), by decide +kernel⟩,
   ⟨(0 : Fin 256), (0 : Fin 64), { adm { full with led.recs := [], led.tab := [], key.journal := [] } 0x82 [(32,1)] 0 with aon.move := some ⟨1, 0⟩ }, ⟨1, 0⟩, by decide +kernel⟩,
   ⟨0, 3, set full [(Reg.DEV_STATUS.POWER, 0, 2)], by decide +kernel⟩,
   ⟨set full [(Reg.DEV_STATUS.POWER, 0, 2)], by decide +kernel⟩,
   ⟨full, by decide +kernel⟩,
   ⟨{ full with aon.watch := true, aon.pwrEn := false }, by decide +kernel⟩,
   ⟨wake ⟨true, .power, 0, 0, 0⟩, ((wake ⟨true, .power, 0, 0, 0⟩ : State).aon.wake).getD default, by decide +kernel⟩,
   ⟨wake ⟨true, .crystal, 0, 0, 0⟩, ((wake ⟨true, .crystal, 0, 0, 0⟩ : State).aon.wake).getD default, by decide +kernel⟩,
   ⟨wake ⟨true, .pll, 0, 0, 0⟩, ((wake ⟨true, .pll, 0, 0, 0⟩ : State).aon.wake).getD default, by decide +kernel⟩,
   ⟨wake ⟨false, .pll, 0, 0, 0⟩, ((wake ⟨false, .pll, 0, 0, 0⟩ : State).aon.wake).getD default, by decide +kernel⟩,
   ⟨wake ⟨true, .power, 0, 0, 0⟩, ((wake ⟨true, .power, 0, 0, 0⟩ : State).aon.wake).getD default, by decide +kernel⟩,
   ⟨wake ⟨true, .power, 4, 0, 0⟩, ((wake ⟨true, .power, 4, 0, 0⟩ : State).aon.wake).getD default, by decide +kernel⟩,
   ⟨wake ⟨true, .crystal, 0, 0, 0⟩, ((wake ⟨true, .crystal, 0, 0, 0⟩ : State).aon.wake).getD default, by decide +kernel⟩,
   ⟨wake ⟨true, .crystal, 0, 4, 0⟩, ((wake ⟨true, .crystal, 0, 4, 0⟩ : State).aon.wake).getD default, by decide +kernel⟩,
   ⟨wake ⟨true, .pll, 0, 0, 0⟩, ((wake ⟨true, .pll, 0, 0, 0⟩ : State).aon.wake).getD default, by decide +kernel⟩,
   ⟨wake ⟨true, .pll, 0, 0, 4⟩, ((wake ⟨true, .pll, 0, 0, 4⟩ : State).aon.wake).getD default, by decide +kernel⟩,
   ⟨wake ⟨true, .powerWait, 0, 0, 0⟩, ((wake ⟨true, .powerWait, 0, 0, 0⟩ : State).aon.wake).getD default, by decide +kernel⟩,
   ⟨wake ⟨true, .crystalWait, 0, 0, 0⟩, ((wake ⟨true, .crystalWait, 0, 0, 0⟩ : State).aon.wake).getD default, by decide +kernel⟩,
   ⟨wake ⟨true, .power, 0, 0, 0⟩, ((wake ⟨true, .power, 0, 0, 0⟩ : State).aon.wake).getD default, by decide +kernel⟩,
   ⟨full, by decide +kernel⟩,
   ⟨full, by decide +kernel⟩,
   ⟨0, set full [(Reg.AON_CLK_STATUS.XTAL25_OK, 0, 1), (Reg.AON_STATUS.RC_ACTIVE, 0, 1)], by decide +kernel⟩,
   ⟨0, full, by decide +kernel⟩,
   ⟨(default : BitVec 16), set full [(Reg.AON_CLK_STATUS.XTAL25_OK, 0, 1)], by decide +kernel⟩,
   ⟨(default : BitVec 16), (default : BitVec 16), full, by decide +kernel⟩,
   ⟨set full [(Reg.AON_STATUS.DWELL, 0, 1)], by decide +kernel⟩,
   ⟨(default : BitVec 16), (default : BitVec 16), set full [(Reg.AON_STATUS.QUALIFY, 0, 1)], by decide +kernel⟩,
   ⟨0, full, by decide +kernel⟩,
   ⟨set full [(Reg.AON_CAL.ARMED, 0, 1), (Reg.DEV_STATUS.POWER, 0, 2)], by decide +kernel⟩,
   ⟨set full [(Reg.AON_STATUS.WAKE_DRIVE, 0, 1)], by decide +kernel⟩⟩

theorem test_hyps_RegisterOperations :
    (∃ c : CoreId, ∃ e : Ecc, ∃ rd : G, ∃ rs1 : G, ∃ s : State, let x := s.core c.val; ∃ p, ∃ rs2 : G, Fetches s c e ∧ RegOp p) ∧
    (∃ c : CoreId, ∃ e : Ecc, ∃ rd : G, ∃ rs1 : G, ∃ s : State, let x := s.core c.val; ∃ p, Fetches s c e ∧ UnaryOp p) ∧
    (∃ c : CoreId, ∃ e : Ecc, ∃ rd : G, ∃ rs1 : G, ∃ s : State, let x := s.core c.val; ∃ p, ∃ imm : Imm16, Fetches s c e ∧ ImmOp p) ∧
    (∃ c : CoreId, ∃ e : Ecc, ∃ rd : G, ∃ rs1 : G, ∃ s : State, let x := s.core c.val; ∃ p, ∃ imm : Imm16, Fetches s c e ∧ ShiftOp p ∧ imm.toNat < 32) ∧
    (∃ c : CoreId, ∃ e : Ecc, ∃ rd : G, ∃ rs1 : G, ∃ s : State, let x := s.core c.val; ∃ p, ∃ rs2 : G, Fetches s c e ∧ x.Calm ∧ UnaryOp p ∧ rs2 ≠ 0) ∧
    (∃ c : CoreId, ∃ e : Ecc, ∃ rd : G, ∃ rs1 : G, ∃ s : State, let x := s.core c.val; ∃ p, ∃ imm : Imm16, Fetches s c e ∧ x.Calm ∧ ShiftOp p ∧ 32 ≤ imm.toNat) ∧
    (∃ c : CoreId, ∃ e : Ecc, ∃ rd : G, ∃ rs1 : G, ∃ rs2 : G, ∃ s : State, ∃ p, let x := s.core c.val; Fetches s c e ∧ DivOp p ∧ x.rg rs2 ≠ 0) ∧
    (∃ c : CoreId, ∃ e : Ecc, ∃ rd : G, ∃ rs1 : G, ∃ rs2 : G, ∃ s : State, ∃ p, let x := s.core c.val; Fetches s c e ∧ DivOp p ∧ x.rg rs2 = 0 ∧ x.Calm) :=
  ⟨⟨0, Ecc.ok, 3, 1, cpuR 0x80000005 3, ((Instr.isaAdd, fun a b => a + b) : (CoreId → Ecc → G → G → G → Instr) × (Word → Word → Word)), 2, by decide +kernel, (by simp [RegOp])⟩,
   ⟨0, Ecc.ok, 3, 1, cpuR 0x80000005 3, ((Instr.isaClz, fun a => BitVec.ofNat 32 (leadingZeros a.toNat 32)) : (CoreId → Ecc → G → G → G → Instr) × (Word → Word)), by decide +kernel, (by simp [UnaryOp])⟩,
   ⟨0, Ecc.ok, 3, 1, cpuR 0x80000005 3, ((Instr.isaAddi, fun a i => a + i.signExtend 32) : (CoreId → Ecc → G → G → Imm16 → Instr) × (Word → Imm16 → Word)), 0x8003, by decide +kernel, (by simp [ImmOp])⟩,
   ⟨0, Ecc.ok, 3, 1, cpuR 0x80000005 3, ((Instr.isaShli, fun a n => a <<< n) : (CoreId → Ecc → G → G → Imm16 → Instr) × (Word → Nat → Word)), 3, by decide +kernel, (by simp [ShiftOp]), by decide +kernel⟩,
   ⟨0, Ecc.ok, 3, 1, cpuR 0x80000005 3, ((Instr.isaClz, fun a => BitVec.ofNat 32 (leadingZeros a.toNat 32)) : (CoreId → Ecc → G → G → G → Instr) × (Word → Word)), 2, by decide +kernel, by decide +kernel, (by simp [UnaryOp]), by decide +kernel⟩,
   ⟨0, Ecc.ok, 3, 1, cpuR 0x80000005 3, ((Instr.isaShli, fun a n => a <<< n) : (CoreId → Ecc → G → G → Imm16 → Instr) × (Word → Nat → Word)), 40, by decide +kernel, by decide +kernel, (by simp [ShiftOp]), by decide +kernel⟩,
   ⟨0, Ecc.ok, 3, 1, 2, cpuR 0x80000005 3, ((Instr.isaDiv, fun a b => if a = 0x80000000 ∧ b = 0xFFFFFFFF then 0x7FFFFFFF else BitVec.ofInt 32 (a.toInt.tdiv b.toInt)) : (CoreId → Ecc → G → G → G → Instr) × (Word → Word → Word)), by decide +kernel, (by simp [DivOp]), by decide +kernel⟩,
   ⟨0, Ecc.ok, 3, 1, 0, cpuR 0x80000005 3, ((Instr.isaDiv, fun a b => if a = 0x80000000 ∧ b = 0xFFFFFFFF then 0x7FFFFFFF else BitVec.ofInt 32 (a.toInt.tdiv b.toInt)) : (CoreId → Ecc → G → G → G → Instr) × (Word → Word → Word)), by decide +kernel, (by simp [DivOp]), by decide +kernel, by decide +kernel⟩⟩

theorem test_hyps_BranchesAndJumps :
    (∃ c : CoreId, ∃ e : Ecc, ∃ s : State, let x := s.core c.val; ∃ p, ∃ ra : G, ∃ rb : G, ∃ off : Imm16, Fetches s c e ∧ BranchOp p ∧ p.2 (x.rg ra) (x.rg rb)) ∧
    (∃ c : CoreId, ∃ e : Ecc, ∃ s : State, let x := s.core c.val; ∃ p, ∃ ra : G, ∃ rb : G, ∃ off : Imm16, Fetches s c e ∧ BranchOp p ∧ ¬ p.2 (x.rg ra) (x.rg rb)) ∧
    (∃ c : CoreId, ∃ e : Ecc, ∃ s : State, let x := s.core c.val; ∃ off : BitVec 26, Fetches s c e) ∧
    (∃ c : CoreId, ∃ e : Ecc, ∃ s : State, let x := s.core c.val; Fetches s c e) ∧
    (∃ c : CoreId, ∃ e : Ecc, ∃ rd : G, ∃ rs1 : G, ∃ rs2 : G, ∃ s : State, Fetches s c e) :=
  ⟨⟨0, Ecc.ok, cpuR 0x80000005 3, ((Instr.isaBeq, fun a b => a = b) : (CoreId → Ecc → G → G → Imm16 → Instr) × (Word → Word → Prop)), 1, 1, 0xFFFF, by decide +kernel, (by simp [BranchOp]), (by decide +kernel)⟩,
   ⟨0, Ecc.ok, cpuR 0x80000005 3, ((Instr.isaBne, fun a b => a ≠ b) : (CoreId → Ecc → G → G → Imm16 → Instr) × (Word → Word → Prop)), 1, 1, 0xFFFF, by decide +kernel, (by simp [BranchOp]), (by decide +kernel)⟩,
   ⟨0, Ecc.ok, cpuR 0x80000005 3, 0xFFFF, by decide +kernel⟩,
   ⟨0, Ecc.ok, cpuR 0x80000005 3, by decide +kernel⟩,
   ⟨0, Ecc.ok, 3, 1, 2, cpuR 0x80000005 3, by decide +kernel⟩⟩

theorem test_hyps_MemoryInstructions :
    (∃ c : CoreId, ∃ e : Ecc, ∃ rt : G, ∃ base : G, ∃ off : Imm16, ∃ s : State, let x := s.core c.val; let a := x.rg base + off.signExtend 32; ∃ p, Fetches s c e ∧ (s.core c.val).posted = [] ∧ LoadOp p ∧ a.toNat % p.2.1 = 0 ∧ ownTcm c.val a.toNat = true ∧ s.mpuCause c.val a.toNat 1 = none ∧ e = .ok) ∧
    (∃ c : CoreId, ∃ e : Ecc, ∃ rt : G, ∃ base : G, ∃ off : Imm16, ∃ s : State, let x := s.core c.val; let a := x.rg base + off.signExtend 32; ∃ p, Fetches s c e ∧ (s.core c.val).posted = [] ∧ s.memWf = true ∧ StoreOp p ∧ a.toNat % p.2 = 0 ∧ ownTcm c.val a.toNat = true ∧ s.mpuCause c.val a.toNat 2 = none) ∧
    (∃ c : CoreId, ∃ e : Ecc, ∃ rt : G, ∃ base : G, ∃ off : Imm16, ∃ s : State, let x := s.core c.val; let a := x.rg base + off.signExtend 32; ∃ p, Fetches s c e ∧ (s.core c.val).posted = [] ∧ x.Calm ∧ LoadOp p ∧ a.toNat % p.2.1 ≠ 0) ∧
    (∃ c : CoreId, ∃ e : Ecc, ∃ rt : G, ∃ base : G, ∃ off : Imm16, ∃ s : State, let x := s.core c.val; let a := x.rg base + off.signExtend 32; ∃ p, Fetches s c e ∧ (s.core c.val).posted = [] ∧ x.Calm ∧ StoreOp p ∧ a.toNat % p.2 ≠ 0) ∧
    (∃ c : CoreId, ∃ e : Ecc, ∃ rt : G, ∃ base : G, ∃ off : Imm16, ∃ s : State, let x := s.core c.val; let a := x.rg base + off.signExtend 32; ∃ p, Fetches s c e ∧ (s.core c.val).posted = [] ∧ x.Calm ∧ c.val < 2 ∧ e = .data ∧ LoadOp p ∧ a.toNat % p.2.1 = 0 ∧ ownTcm c.val a.toNat = true ∧ s.mpuCause c.val a.toNat 1 = none) ∧
    (∃ c : CoreId, ∃ e : Ecc, ∃ rt : G, ∃ base : G, ∃ off : Imm16, ∃ s : State, let x := s.core c.val; let a := x.rg base + off.signExtend 32; ∃ rd : G, ∃ rs2 : G, let k := (x.rg base).toNat; let v := BitVec.ofNat 32 (ofBytes ((List.range 4).map fun i => s.peekByte c.val (k + i))); Fetches s c e ∧ (s.core c.val).posted = [] ∧ s.memWf = true ∧ (x.rg base).toNat % 4 = 0 ∧ ownTcm c.val (x.rg base).toNat = true ∧ s.mpuCause c.val (x.rg base).toNat 1 = none ∧ s.mpuCause c.val (x.rg base).toNat 2 = none ∧ e = .ok) ∧
    (∃ c : CoreId, ∃ e : Ecc, ∃ rt : G, ∃ base : G, ∃ off : Imm16, ∃ s : State, let x := s.core c.val; let a := x.rg base + off.signExtend 32; ∃ rd : G, ∃ rs2 : G, Fetches s c e ∧ (s.core c.val).posted = [] ∧ x.Calm ∧ (x.rg base).toNat % 4 ≠ 0) :=
  ⟨⟨0, Ecc.ok, 2, 1, 0, cpuR 0x10000000 3, ((Instr.isaLb, 1, fun v => (BitVec.ofNat 8 v).signExtend 32) : (CoreId → Ecc → G → G → Imm16 → Instr) × Nat × (Nat → Word)), by decide +kernel, by decide +kernel, (by simp [LoadOp]), by decide +kernel, by decide +kernel, by decide +kernel, by decide +kernel⟩,
   ⟨0, Ecc.ok, 2, 1, 0, cpuR 0x10000000 3, ((Instr.isaSb, 1) : (CoreId → Ecc → G → G → Imm16 → Instr) × Nat), by decide +kernel, by decide +kernel, by decide +kernel, (by simp [StoreOp]), by decide +kernel, by decide +kernel, by decide +kernel⟩,
   ⟨0, Ecc.ok, 2, 1, 1, cpuR 0x10000000 3, ((Instr.isaLh, 2, fun v => (BitVec.ofNat 16 v).signExtend 32) : (CoreId → Ecc → G → G → Imm16 → Instr) × Nat × (Nat → Word)), by decide +kernel, by decide +kernel, by decide +kernel, (by simp [LoadOp]), by decide +kernel⟩,
   ⟨0, Ecc.ok, 2, 1, 1, cpuR 0x10000000 3, ((Instr.isaSh, 2) : (CoreId → Ecc → G → G → Imm16 → Instr) × Nat), by decide +kernel, by decide +kernel, by decide +kernel, (by simp [StoreOp]), by decide +kernel⟩,
   ⟨0, Ecc.data, 2, 1, 0, cpuR 0x10000000 3, ((Instr.isaLb, 1, fun v => (BitVec.ofNat 8 v).signExtend 32) : (CoreId → Ecc → G → G → Imm16 → Instr) × Nat × (Nat → Word)), by decide +kernel, by decide +kernel, by decide +kernel, by decide +kernel, by decide +kernel, (by simp [LoadOp]), by decide +kernel, by decide +kernel, by decide +kernel⟩,
   ⟨0, Ecc.ok, 2, 1, 0, cpuR 0x10000000 3, 2, 1, by decide +kernel⟩,
   ⟨0, Ecc.ok, 2, 1, 0, cpuR 0x10000001 3, 2, 1, by decide +kernel⟩⟩

theorem test_hyps_SystemInstructions :
    (∃ c : CoreId, ∃ e : Ecc, ∃ s : State, let x := s.core c.val; Fetches s c e ∧ x.Calm) ∧
    (∃ c : CoreId, ∃ e : Ecc, ∃ s : State, let x := s.core c.val; Fetches s c e ∧ x.posted = []) ∧
    (∃ c : CoreId, ∃ e : Ecc, ∃ s : State, let x := s.core c.val; Fetches s c e ∧ x.priv ≠ 0) ∧
    (∃ c : CoreId, ∃ e : Ecc, ∃ s : State, let x := s.core c.val; ∃ rs1 : G, Fetches s c e ∧ x.priv ≠ 0 ∧ 1 ≤ (x.rg rs1).toNat ∧ (x.rg rs1).toNat ≤ 4096) ∧
    (∃ c : CoreId, ∃ e : Ecc, ∃ s : State, let x := s.core c.val; ∃ rs1 : G, Fetches s c e ∧ x.priv ≠ 0 ∧ x.Calm ∧ ((x.rg rs1).toNat = 0 ∨ 4096 < (x.rg rs1).toNat)) ∧
    (∃ c : CoreId, ∃ e : Ecc, ∃ s : State, let x := s.core c.val; ∃ i, Fetches s c e ∧ x.priv = 0 ∧ x.Calm ∧ i ∈ [Instr.isaRetx c e 0 0 0, .isaIdle c e 0 0 0, .isaIflush c e 0 0 0, .isaHold c e 0 1 0, .isaHoldend c e 0 0 0]) :=
  ⟨⟨0, Ecc.ok, cpuR 0x80000005 3, by decide +kernel⟩,
   ⟨0, Ecc.ok, cpuR 0x80000005 3, by decide +kernel⟩,
   ⟨0, Ecc.ok, cpuR 0x80000005 3, by decide +kernel⟩,
   ⟨0, Ecc.ok, cpuR 0x80000005 3, 2, by decide +kernel⟩,
   ⟨0, Ecc.ok, cpuR 0x80000005 3, 0, by decide +kernel⟩,
   ⟨2, Ecc.ok, full.setCore 2 { Core.reset 2 with priv := 0 }, Instr.isaRetx 2 Ecc.ok 0 0 0, by decide +kernel⟩⟩

theorem test_hyps_ControlRegisters :
    (∃ c : CoreId, ∃ e : Ecc, ∃ g : G, ∃ rs1 : G, ∃ s : State, let x := s.core c.val; ∃ p, Fetches s c e ∧ x.priv ≠ 0 ∧ p ∈ [(1, x.epc), (2, x.ecause), (3, x.evbase), (5, x.dfsp), (7, x.scratch0), (8, x.scratch1), (0x11, BitVec.ofNat 32 x.cycleH), (0x13, BitVec.ofNat 32 x.instretH), (0x20, BitVec.ofNat 32 c.val), (0x22, BitVec.ofNat 32 x.epochAck), (0x30, BitVec.ofNat 32 x.wflags), (0x32, BitVec.ofNat 32 x.wexcLost)]) ∧
    (∃ c : CoreId, ∃ e : Ecc, ∃ g : G, ∃ rs1 : G, ∃ s : State, let x := s.core c.val; Fetches s c e) ∧
    (∃ c : CoreId, ∃ e : Ecc, ∃ g : G, ∃ rs1 : G, ∃ s : State, let x := s.core c.val; let v := x.rg rs1; ∃ p, Fetches s c e ∧ x.priv ≠ 0 ∧ p ∈ [(1, { x with epc := v &&& 0xFFFFFFFC }), (3, { x with evbase := v &&& 0xFFFFF000 }), (5, { x with dfsp := v }), (7, { x with scratch0 := v }), (8, { x with scratch1 := v }), (0x30, { x with wflags := v.toNat % 8 }), (0x32, { x with wexcLost := 0 }), (4, x), (0x10, x), (0x20, x), (0x21, x)]) ∧
    (∃ c : CoreId, ∃ e : Ecc, ∃ g : G, ∃ rs1 : G, ∃ s : State, let x := s.core c.val; ∃ n : Imm16, Fetches s c e ∧ x.Calm ∧ controlSystem n.toNat = none) ∧
    (∃ c : CoreId, ∃ e : Ecc, ∃ g : G, ∃ rs1 : G, ∃ s : State, let x := s.core c.val; ∃ n, Fetches s c e ∧ x.Calm ∧ x.priv = 0 ∧ n ∈ [(0 : Imm16), 1, 2, 3, 4, 5, 6, 7, 8, 0x21, 0x22, 0x31, 0x32]) :=
  ⟨⟨0, Ecc.ok, 3, 0, cpuR 0x80000005 3, (8, ((cpuR 0x80000005 3 : State).core (0 : CoreId).val).scratch1), by decide +kernel⟩,
   ⟨0, Ecc.ok, 3, 0, cpuR 0x80000005 3, by decide +kernel⟩,
   ⟨0, Ecc.ok, 3, 2, cpuR 0x80000005 3, (0x30, { ((cpuR 0x80000005 3 : State).core (0 : CoreId).val) with wflags := (((cpuR 0x80000005 3 : State).core (0 : CoreId).val).rg (2 : G)).toNat % 8 }), by decide +kernel⟩,
   ⟨0, Ecc.ok, 3, 0, cpuR 0x80000005 3, 0x99, by decide +kernel⟩,
   ⟨2, Ecc.ok, 3, 0, full.setCore 2 { Core.reset 2 with priv := 0 }, 1, by decide +kernel⟩⟩

theorem test_hyps_WideInstructions :
    (∃ c : CoreId, ∃ e : Ecc, ∃ wd : W, ∃ wa : W, ∃ wb : W, ∃ gr : G, ∃ s : State, let x := s.core c.val; let v (r : W) : Wide := x.w[r.val]; let z (r : Wide) : Nat := if r = 0 then 2 else 0; ∃ p, Fetches s c e ∧ WideOper p) ∧
    (∃ c : CoreId, ∃ e : Ecc, ∃ wd : W, ∃ wa : W, ∃ wb : W, ∃ gr : G, ∃ s : State, let x := s.core c.val; let v (r : W) : Wide := x.w[r.val]; let z (r : Wide) : Nat := if r = 0 then 2 else 0; let r := v wa <<< ((x.rg gr).toNat % 256); Fetches s c e) ∧
    (∃ c : CoreId, ∃ e : Ecc, ∃ wd : W, ∃ wa : W, ∃ wb : W, ∃ gr : G, ∃ s : State, let x := s.core c.val; let v (r : W) : Wide := x.w[r.val]; let z (r : Wide) : Nat := if r = 0 then 2 else 0; let r := v wa >>> ((x.rg gr).toNat % 256); Fetches s c e) ∧
    (∃ c : CoreId, ∃ e : Ecc, ∃ wd : W, ∃ wa : W, ∃ wb : W, ∃ gr : G, ∃ s : State, let x := s.core c.val; let v (r : W) : Wide := x.w[r.val]; let z (r : Wide) : Nat := if r = 0 then 2 else 0; Fetches s c e ∧ v 7 ≠ 0) ∧
    (∃ c : CoreId, ∃ e : Ecc, ∃ wd : W, ∃ wa : W, ∃ wb : W, ∃ gr : G, ∃ s : State, let x := s.core c.val; let v (r : W) : Wide := x.w[r.val]; let z (r : Wide) : Nat := if r = 0 then 2 else 0; Fetches s c e ∧ v 7 = 0 ∧ x.pam = true ∧ x.Calm) ∧
    (∃ c : CoreId, ∃ e : Ecc, ∃ wd : W, ∃ wa : W, ∃ wb : W, ∃ gr : G, ∃ s : State, let x := s.core c.val; let v (r : W) : Wide := x.w[r.val]; let z (r : Wide) : Nat := if r = 0 then 2 else 0; Fetches s c e) ∧
    (∃ c : CoreId, ∃ e : Ecc, ∃ wd : W, ∃ wa : W, ∃ wb : W, ∃ gr : G, ∃ s : State, let x := s.core c.val; let v (r : W) : Wide := x.w[r.val]; let z (r : Wide) : Nat := if r = 0 then 2 else 0; Fetches s c e ∧ gr ≠ 0) ∧
    (∃ c : CoreId, ∃ e : Ecc, ∃ wd : W, ∃ wa : W, ∃ wb : W, ∃ gr : G, ∃ s : State, let x := s.core c.val; let v (r : W) : Wide := x.w[r.val]; let z (r : Wide) : Nat := if r = 0 then 2 else 0; let k := (x.rg gr).toNat; Fetches s c e ∧ k % 32 = 0 ∧ ownTcm c.val k = true ∧ s.mpuCause c.val k 1 = none ∧ e = .ok) ∧
    (∃ c : CoreId, ∃ e : Ecc, ∃ wd : W, ∃ wa : W, ∃ wb : W, ∃ gr : G, ∃ s : State, let x := s.core c.val; let v (r : W) : Wide := x.w[r.val]; let z (r : Wide) : Nat := if r = 0 then 2 else 0; let k := (x.rg gr).toNat; Fetches s c e ∧ k % 32 = 0 ∧ ownTcm c.val k = true ∧ s.memWf = true ∧ s.mpuCause c.val k 2 = none) ∧
    (∃ c : CoreId, ∃ e : Ecc, ∃ wd : W, ∃ wa : W, ∃ wb : W, ∃ gr : G, ∃ s : State, let x := s.core c.val; let v (r : W) : Wide := x.w[r.val]; let z (r : Wide) : Nat := if r = 0 then 2 else 0; Fetches s c e ∧ x.Calm ∧ (x.rg gr).toNat % 32 ≠ 0) ∧
    (∃ c : CoreId, ∃ s : State, ∃ o : WideOp, ∃ r : List WideOp, s.executes c.val = true ∧ (s.core c.val).wide = o :: r ∧ o.fault = false ∧ s.impDue c.val = none) :=
  ⟨⟨0, Ecc.ok, 3, 1, 2, 1, cpuR 0x10000000 3, (Instr.isaWmul, fun (a b : Wide) (_ : Nat) => (BitVec.ofNat 256 (a.toNat % 2 ^ 128 * (b.toNat % 2 ^ 128)), 0, 0)), by decide +kernel, (by simp [WideOper])⟩,
   ⟨0, Ecc.ok, 3, 1, 2, 1, cpuR 0x10000000 3, by decide +kernel⟩,
   ⟨0, Ecc.ok, 3, 1, 2, 1, cpuR 0x10000000 3, by decide +kernel⟩,
   ⟨0, Ecc.ok, 3, 1, 2, 1, core0 { Core.reset 0 with w := ((Core.reset 0).w.set 1 5).set 7 3 }, by decide +kernel⟩,
   ⟨0, Ecc.ok, 3, 1, 2, 1, core0 { Core.reset 0 with pam := true }, by decide +kernel⟩,
   ⟨0, Ecc.ok, 3, 1, 2, 1, cpuR 0x10000000 3, by decide +kernel⟩,
   ⟨0, Ecc.ok, 3, 1, 2, 1, cpuR 0x10000000 3, by decide +kernel⟩,
   ⟨0, Ecc.ok, 3, 1, 2, 1, cpuR 0x10000000 3, by decide +kernel⟩,
   ⟨0, Ecc.ok, 3, 1, 2, 1, cpuR 0x10000000 3, by decide +kernel⟩,
   ⟨0, Ecc.ok, 3, 1, 2, 1, cpuR 0x10000001 3, by decide +kernel⟩,
   ⟨0, core0 { Core.reset 0 with wide := [default] }, default, [], by decide +kernel⟩⟩

theorem test_hyps_EntriesAtBoundaries :
    (∃ c : CoreId, ∃ s : State, ∃ id : Nat, let x := s.core c.val; s.executes c.val = true ∧ s.awake c.val = true ∧ s.impDue c.val = none ∧ s.canInterrupt c.val = some id) ∧
    (∃ c : CoreId, ∃ s : State, ∃ a : Nat, ∃ n : Nat, s.executes c.val = true ∧ (s.core c.val).posted = [(a, n)] ∧ (s.core c.val).Calm ∧ (s.core c.val).impPending = none ∧ (s.core c.val).impUnread = false) ∧
    (∃ c : PCore, ∃ e : Ecc, ∃ s : State, let x := s.core c.val; Fetches s ⟨c.val, by omega⟩ e ∧ (s.core c.val).df = false ∧ (s.core c.val).entrySpan = true) ∧
    (∃ c : CoreId, ∃ s : State, s.executes c.val = true ∧ (s.core c.val).holdOpen = true) :=
  ⟨⟨0, set (core0 { Core.reset 0 with ie := true }) [(Reg.ICU_SRC_CFG.EN, 1, 1), (Reg.ICU_SRC_CFG.LEVEL, 1, 5), (Reg.ICU_PENDING.PEND, 0, 2)], 33, by decide +kernel⟩,
   ⟨0, core0 { Core.reset 0 with posted := [(0x40000000, 4)] }, 0x40000000, 4, by decide +kernel⟩,
   ⟨0, Ecc.ok, core0 { Core.reset 0 with entrySpan := true }, by decide +kernel⟩,
   ⟨0, core0 { Core.reset 0 with holdOpen := true }, by decide +kernel⟩⟩

theorem test_hyps_InterruptCommands :
    (∃ n : Fin 480, ∃ c : CoreId, ∃ s : State, let k := Tab.getD s.cpu.coal n.val 0 + 1; s.mainOn = true ∧ sharedDefined n.val = true ∧ max 1 (s.rd Reg.ICU_SRC_CFG.COUNT n.val) ≤ k ∧ s.isSet Reg.ICU_SRC_CFG.EN n.val = true) ∧
    (∃ n : Fin 480, ∃ c : CoreId, ∃ s : State, let k := Tab.getD s.cpu.coal n.val 0 + 1; s.mainOn = true ∧ sharedDefined n.val = true ∧ k < max 1 (s.rd Reg.ICU_SRC_CFG.COUNT n.val)) ∧
    (∃ i : Fin 32, ∃ c : CoreId, ∃ s : State, s.mainOn = true ∧ privateDefined c.val i.val = true ∧ s.isSet Reg.ICU_PCFG.EN (c.val * 32 + i.val) = true) ∧
    (∃ n : Fin 480, ∃ s : State, ∃ k : Nat, Tab.find n.val s.cpu.coal = some k ∧ s.isSet Reg.ICU_SRC_CFG.EN n.val = true) ∧
    (∃ c : CoreId, ∃ v : BitVec 32, ∃ s : State, s.bankReached c.val = true ∧ s.bestSource c.val = some (v.toNat % 512)) ∧
    (∃ c : CoreId, ∃ v : BitVec 32, ∃ s : State, s.bankReached c.val = true ∧ s.bestSource c.val ≠ some (v.toNat % 512)) ∧
    (∃ c : CoreId, ∃ v : BitVec 32, ∃ s : State, let l := v.toNat % 16; s.bankReached c.val = true ∧ Tab.find (c.val * 16 + l) s.cpu.claims = none) ∧
    (∃ c : CoreId, ∃ v : BitVec 32, ∃ s : State, let l := v.toNat % 16; ∃ id, s.bankReached c.val = true ∧ 32 ≤ id ∧ Tab.find (c.val * 16 + l) s.cpu.claims = some id) ∧
    (∃ m : Fin 16, ∃ v : BitVec 32, ∃ j : Fin 32, ∃ s : State, Admitted s m 0x40C02080 ∧ v.getLsbD j.val = true ∧ s.isSet Reg.ICU_SRC_CFG.EN (448 + j.val) = true ∧ s.rd Reg.ICU_SRC_CFG.COUNT (448 + j.val) ≤ 1) ∧
    (∃ m : Fin 16, ∃ n : Fin 480, ∃ v : BitVec 32, ∃ s : State, Admitted s m (0x40C01000 + n.val * 8) ∧ lockedSource n.val = false ∧ s.inService n.val = false ∧ v.toNat / 2 ^ 28 % 4 ≠ 3) ∧
    (∃ m : Fin 16, ∃ n : Fin 480, ∃ v : BitVec 32, ∃ s : State, Admitted s m (0x40C01000 + n.val * 8 + 4)) ∧
    (∃ c : CoreId, ∃ i : Fin 32, ∃ v : BitVec 32, ∃ s : State, s.bankReached c.val = true) :=
  ⟨⟨1, 0, set cpu [(Reg.ICU_SRC_CFG.EN, 1, 1)], by decide +kernel⟩,
   ⟨1, 0, set cpu [(Reg.ICU_SRC_CFG.EN, 1, 1), (Reg.ICU_SRC_CFG.COUNT, 1, 5)], by decide +kernel⟩,
   ⟨0, 0, set cpu [(Reg.ICU_PCFG.EN, 0, 1)], by decide +kernel⟩,
   ⟨1, { set cpu [(Reg.ICU_SRC_CFG.EN, 1, 1)] with cpu.coal := [(1, 3)] }, 3, by decide +kernel⟩,
   ⟨0, 33, set (core0 { Core.reset 0 with ie := true }) [(Reg.ICU_SRC_CFG.EN, 1, 1), (Reg.ICU_SRC_CFG.LEVEL, 1, 5), (Reg.ICU_PENDING.PEND, 0, 2)], by decide +kernel⟩,
   ⟨0, 33, set cpu [(Reg.ICU_SRC_CFG.EN, 1, 1)], by decide +kernel⟩,
   ⟨0, 5, set cpu [(Reg.ICU_SRC_CFG.EN, 1, 1)], by decide +kernel⟩,
   ⟨0, 5, { cpu with cpu.claims := [(5, 33)] }, 33, by decide +kernel⟩,
   ⟨0, 8, 3, set cpu [(Reg.ICU_SRC_CFG.EN, 451, 1)], by decide +kernel⟩,
   ⟨0, 1, 0x80000500, set cpu [(Reg.ICU_SRC_CFG.EN, 1, 1)], by decide +kernel⟩,
   ⟨0, 1, 9, set cpu [(Reg.ICU_SRC_CFG.EN, 1, 1)], by decide +kernel⟩,
   ⟨0, 0, 0x80000500, set cpu [(Reg.ICU_SRC_CFG.EN, 1, 1)], by decide +kernel⟩⟩

theorem test_hyps_ProtectionCommands :
    (∃ m : Fin 16, ∃ c : PCore, ∃ v : BitVec 32, ∃ s : State, Admitted s m (mpuBase c.val)) ∧
    (∃ m : Fin 16, ∃ c : PCore, ∃ r : Fin 16, ∃ k : Fin 3, ∃ v : BitVec 32, ∃ s : State, let i := c.val * 16 + r.val; Admitted s m (mpuBase c.val + 0x100 + r.val * 0x10 + k.val * 4) ∧ s.isSet Reg.MPU_CTRL.EN c.val = true) ∧
    (∃ m : Fin 16, ∃ c : PCore, ∃ r : Fin 16, ∃ k : Fin 3, ∃ v : BitVec 32, ∃ s : State, let i := c.val * 16 + r.val; Admitted s m (mpuBase c.val + 0x100 + r.val * 0x10 + k.val * 4) ∧ s.isSet Reg.MPU_CTRL.EN c.val = false ∧ k.val = 0) ∧
    (∃ m : Fin 16, ∃ c : PCore, ∃ r : Fin 16, ∃ k : Fin 3, ∃ v : BitVec 32, ∃ s : State, let i := c.val * 16 + r.val; Admitted s m (mpuBase c.val + 0x100 + r.val * 0x10 + k.val * 4) ∧ s.isSet Reg.MPU_CTRL.EN c.val = false ∧ k.val = 1) ∧
    (∃ m : Fin 16, ∃ c : PCore, ∃ r : Fin 16, ∃ k : Fin 3, ∃ v : BitVec 32, ∃ s : State, let i := c.val * 16 + r.val; Admitted s m (mpuBase c.val + 0x100 + r.val * 0x10 + k.val * 4) ∧ s.isSet Reg.MPU_CTRL.EN c.val = false ∧ k.val = 2) ∧
    (∃ m : Fin 16, ∃ c : PCore, ∃ v : BitVec 32, ∃ s : State, let n := v.toNat % 2 ^ 13; Admitted s m (mpuBase c.val + 0x14) ∧ v.getLsbD 31 = true ∧ s.isSet Reg.MPU_STATUS.TAG_BUSY c.val = false ∧ n ≤ 4096) ∧
    (∃ m : Fin 16, ∃ c : PCore, ∃ v : BitVec 32, ∃ s : State, let n := v.toNat % 2 ^ 13; Admitted s m (mpuBase c.val + 0x14) ∧ v.getLsbD 31 = true ∧ (s.isSet Reg.MPU_STATUS.TAG_BUSY c.val = true ∨ 4096 < n)) ∧
    (∃ c : PCore, ∃ s : State, ∃ a : Nat, ∃ n : Nat, ∃ k : Nat, s.cpu.fills = [(c.val, a, n, k)] ∧ s.fillCheck c.val a n = none ∧ k ≠ 0) ∧
    (∃ c : PCore, ∃ s : State, ∃ a : Nat, ∃ n : Nat, ∃ k : Nat, ∃ b, ∃ x, s.cpu.fills = [(c.val, a, n, k)] ∧ s.fillCheck c.val a n = some (b, x)) ∧
    (∃ m : Fin 16, ∃ s : State, Admitted s m 0x40B01000 ∧ s.isSet Reg.FWL_STATUS.BUSY 0 = false) ∧
    (∃ late : Nat, ∃ s : State, s.isSet Reg.FWL_STATUS.BUSY 0 = true) ∧
    (∃ m : Fin 16, ∃ s : State, s.mainOn = true ∧ m.val ≠ 0) :=
  ⟨⟨1, 0, 0x80000003, cpu, by decide +kernel⟩,
   ⟨1, 0, 3, 0, 0x80000003, set cpu [(Reg.MPU_CTRL.EN, 0, 1)], by decide +kernel⟩,
   ⟨1, 0, 3, 0, 0x80000003, cpu, by decide +kernel⟩,
   ⟨1, 0, 3, 1, 0x80000003, cpu, by decide +kernel⟩,
   ⟨1, 0, 3, 2, 0x80000003, cpu, by decide +kernel⟩,
   ⟨1, 0, 0x80000003, cpu, by decide +kernel⟩,
   ⟨1, 0, 0x80000003, set cpu [(Reg.MPU_STATUS.TAG_BUSY, 0, 1)], by decide +kernel⟩,
   ⟨0, { cpu with cpu.fills := [(0, 0x10000000, 2, 3)] }, 0x10000000, 2, 3, by decide +kernel⟩,
   ⟨0, { core0 { Core.reset 0 with mpuEn := true, mpuPrivdef := false } with cpu.fills := [(0, 0x10000000, 2, 3)] }, 0x10000000, 2, 3, (({ core0 { Core.reset 0 with mpuEn := true, mpuPrivdef := false } with cpu.fills := [(0, 0x10000000, 2, 3)] } : State).fillCheck (0 : PCore).val (0x10000000 : Nat) (2 : Nat)).getD (0, 0) |>.1, (({ core0 { Core.reset 0 with mpuEn := true, mpuPrivdef := false } with cpu.fills := [(0, 0x10000000, 2, 3)] } : State).fillCheck (0 : PCore).val (0x10000000 : Nat) (2 : Nat)).getD (0, 0) |>.2, by decide +kernel⟩,
   ⟨0, cpu, by decide +kernel⟩,
   ⟨(default : Nat), set cpu [(Reg.FWL_STATUS.BUSY, 0, 1)], by decide +kernel⟩,
   ⟨3, cpu, by decide +kernel⟩⟩

theorem test_hyps_PolicyCommands :
    (∃ f : Fn, ∃ q : Q, ∃ s : State, ∃ x : FEntry, let c := s.policyCore x.e.opc.toNat; 0xC0 ≤ x.e.opc.toNat ∧ Fetched s f q x.e.opc.toNat x ∧ s.cpu.polCmds.length < 65536 ∧ s.coreHeld c = false ∧ s.ringFull c = false) ∧
    (∃ f : Fn, ∃ q : Q, ∃ s : State, ∃ x : FEntry, let c := s.policyCore x.e.opc.toNat; 0xC0 ≤ x.e.opc.toNat ∧ Fetched s f q x.e.opc.toNat x ∧ s.cpu.polCmds.length < 65536 ∧ s.coreHeld c = true ∧ CqOpen s f q) ∧
    (∃ m : Fin 16, ∃ c : PCore, ∃ v : BitVec 32, ∃ s : State, let tag := v.toNat / 2 ^ 16 % 65536; let n := if s.rd Reg.POL_DMA_LEN.LEN c.val = 0 then 1048576 else s.rd Reg.POL_DMA_LEN.LEN c.val; let off := s.rd Reg.POL_DMA_OFFSET.OFFSET c.val; Admitted s m (0x40C0002C + c.val * 0x100) ∧ v.getLsbD 0 = true ∧ s.isSet Reg.POL_DMA_STATUS.BUSY c.val = false ∧ s.polCmd tag = none) ∧
    (∃ m : Fin 16, ∃ c : PCore, ∃ v : BitVec 32, ∃ s : State, let tag := v.toNat / 2 ^ 16 % 65536; let n := if s.rd Reg.POL_DMA_LEN.LEN c.val = 0 then 1048576 else s.rd Reg.POL_DMA_LEN.LEN c.val; let off := s.rd Reg.POL_DMA_OFFSET.OFFSET c.val; ∃ p, Admitted s m (0x40C0002C + c.val * 0x100) ∧ v.getLsbD 0 = true ∧ s.isSet Reg.POL_DMA_STATUS.BUSY c.val = false ∧ s.polCmd tag = some p ∧ p.entry.length.toNat < off + n) ∧
    (∃ m : Fin 16, ∃ c : PCore, ∃ v : BitVec 32, ∃ s : State, let tag := v.toNat / 2 ^ 16 % 65536; let n := if s.rd Reg.POL_DMA_LEN.LEN c.val = 0 then 1048576 else s.rd Reg.POL_DMA_LEN.LEN c.val; let off := s.rd Reg.POL_DMA_OFFSET.OFFSET c.val; ∃ p, Admitted s m (0x40C0002C + c.val * 0x100) ∧ v.getLsbD 0 = true ∧ s.isSet Reg.POL_DMA_STATUS.BUSY c.val = false ∧ s.polCmd tag = some p ∧ off + n ≤ p.entry.length.toNat) ∧
    (∃ c : PCore, ∃ data : List (BitVec 8), ∃ s : State, ∃ x : PolDma, ∃ p : PolCmd, s.memWf = true ∧ Tab.find c.val s.cpu.poldma = some x ∧ s.polCmd x.tag = some p ∧ inTcm x.addr x.len = true ∧ x.dir = 0 ∧ (s.fnRt p.fn).d3 = false) ∧
    (∃ m : Fin 16, ∃ c : PCore, ∃ v : BitVec 32, ∃ f : Fn, ∃ q : Q, ∃ s : State, ∃ p : PolCmd, Admitted s m (0x40C0004C + c.val * 0x100) ∧ s.polCmd (v.toNat % 65536) = some p ∧ p.fn = f.val ∧ p.q = q.val ∧ CqOpen s f q ∧ v.toNat / 2 ^ 16 < 0x8000) ∧
    (∃ m : Fin 16, ∃ c : PCore, ∃ v : BitVec 32, ∃ s : State, Admitted s m (0x40C00000 + c.val * 0x100) ∧ v.getLsbD 0 = true) ∧
    (∃ m : Fin 16, ∃ c : PCore, ∃ v : BitVec 32, ∃ s : State, Admitted s m (0x40C00000 + c.val * 0x100) ∧ v.getLsbD 0 = false ∧ s.coreHeld c.val = true) ∧
    (∃ c : PCore, ∃ k : Fin 4, ∃ s : State, let i := c.val * 4 + k.val; s.mainOn = true ∧ s.coreHeld c.val = false ∧ (s.kslot i).state ≠ 1 ∧ (s.kslot i).state ≠ 2 ∧ s.isSet Reg.KPR_STATUS.HALTED 0 = false) ∧
    (∃ c : PCore, ∃ k : Fin 4, ∃ s : State, let i := c.val * 4 + k.val; s.mainOn = true ∧ s.coreHeld c.val = false ∧ (s.kslot i).state ≠ 1 ∧ (s.kslot i).state ≠ 2 ∧ s.isSet Reg.KPR_STATUS.HALTED 0 = true) ∧
    (∃ c : PCore, ∃ k : Fin 4, ∃ s : State, (s.kslot (c.val * 4 + k.val)).state = 2 ∧ (s.kslot (c.val * 4 + k.val)).ready = true ∧ (s.kslot (c.val * 4 + k.val)).drop = false) ∧
    (∃ s : State, s.mainOn = true ∧ s.isSet Reg.KPR_STATUS.HALTED 0 = false) :=
  ⟨⟨(0 : Fin 256), (0 : Fin 64), adm cpu 0xC1 [] 0, ((adm cpu 0xC1 [] 0 : State).qrt ((0 : Fin 256) : Fn).val ((0 : Fin 64) : Q).val).fetched.headD default, by decide +kernel⟩,
   ⟨(0 : Fin 256), (0 : Fin 64), adm full 0xC1 [] 0, ((adm full 0xC1 [] 0 : State).qrt ((0 : Fin 256) : Fn).val ((0 : Fin 64) : Q).val).fetched.headD default, by decide +kernel⟩,
   ⟨0, 0, 0x90001, cpu, by decide +kernel⟩,
   ⟨0, 0, 0x90001, { cpu with cpu.polCmds := [⟨9, 0, 0, 0, 7, { (default : Entry) with length := 4096 }, []⟩] }, ⟨9, 0, 0, 0, 7, { (default : Entry) with length := 4096 }, []⟩, by decide +kernel⟩,
   ⟨0, 0, 0x90001, set ({ cpu with cpu.polCmds := [⟨9, 0, 0, 0, 7, { (default : Entry) with length := 4096 }, []⟩] }) [(Reg.POL_DMA_LEN.LEN, 0, 64)], ⟨9, 0, 0, 0, 7, { (default : Entry) with length := 4096 }, []⟩, by decide +kernel⟩,
   ⟨0, List.replicate 64 3, { { cpu with cpu.polCmds := [⟨9, 0, 0, 0, 7, { (default : Entry) with length := 4096 }, []⟩] } with cpu.poldma := [(0, ⟨9, 0, 0x10000000, 0, 64⟩)] }, ⟨9, 0, 0x10000000, 0, 64⟩, ⟨9, 0, 0, 0, 7, { (default : Entry) with length := 4096 }, []⟩, by decide +kernel⟩,
   ⟨0, 0, 9, (0 : Fin 256), (0 : Fin 64), { cpu with cpu.polCmds := [⟨9, 0, 0, 0, 7, { (default : Entry) with length := 4096 }, []⟩] }, ⟨9, 0, 0, 0, 7, { (default : Entry) with length := 4096 }, []⟩, by decide +kernel⟩,
   ⟨0, 0, 1, { cpu with cpu.polCmds := [⟨9, 0, 0, 0, 7, { (default : Entry) with length := 4096 }, []⟩] }, by decide +kernel⟩,
   ⟨0, 0, 0, full, by decide +kernel⟩,
   ⟨0, (0 : Fin 4), cpu, by decide +kernel⟩,
   ⟨0, (0 : Fin 4), set cpu [(Reg.KPR_STATUS.HALTED, 0, 1)], by decide +kernel⟩,
   ⟨0, (0 : Fin 4), cpu.setKslot 0 ⟨1, [], 0, 0, 2, 0, [], true, false⟩, by decide +kernel⟩,
   ⟨cpu, by decide +kernel⟩⟩

theorem test_hyps_KeeperServices :
    (∃ i : Fin 8, ∃ s : State, ∃ x : KSlot, ∃ d : SettingDef, let v := x.arg 2 + 2 ^ 32 * x.arg 3; Requests s i.val 0x01 x ∧ (s.lifecycle = 1 ∨ s.lifecycle = 2) ∧ settingDef? (x.arg 0) = some d ∧ d.sid = x.arg 0 ∧ d.cls = .immediate ∧ s.set.locks.contains d.sid = false ∧ x.arg 1 % 2 = 0 ∧ s.settingInRange d v = true ∧ s.sumsHold d.sid v = true ∧ s.needsQuorum d.sid v = false) ∧
    (∃ i : Fin 8, ∃ s : State, ∃ x : KSlot, ∃ d, ∃ v, Requests s i.val 0x02 x ∧ settingDef? (x.arg 0) = some d ∧ s.settingValue d (x.arg 1) = some v) ∧
    (∃ i : Fin 8, ∃ s : State, ∃ x : KSlot, Requests s i.val 0x02 x ∧ settingDef? (x.arg 0) = none) ∧
    (∃ i : Fin 8, ∃ s : State, ∃ x : KSlot, Requests s i.val 0x10 x ∧ x.arg 0 ≤ 32 ∧ 1 ≤ x.blen ∧ x.blen ≤ 65536 ∧ x.arg 0 ≤ x.blen) ∧
    (∃ c : Nat, ∃ k : Nat, ∃ b : Nat, ∃ n : Nat, ∃ w : Nat, ∃ g : Nat, ∃ s : State, s.rng.reqs = [⟨.kcall c k b, n, w, g⟩] ∧ (s.kslot (c * 4 + k)).state = 2) ∧
    (∃ i : Fin 8, ∃ s : State, ∃ x : KSlot, let d := s.readDescriptor (i.val / 4) x.buf; Requests s i.val 0x20 x ∧ s.lifecycle = 2 ∧ x.blen = 5248 ∧ d.ok = true ∧ (s.tenant d.tenant).st = 0 ∧ s.hasEscrow = true) ∧
    (∃ i : Fin 8, ∃ s : State, ∃ x : KSlot, let d := s.readDescriptor (i.val / 4) x.buf; Requests s i.val 0x21 x ∧ s.lifecycle = 2 ∧ x.blen = 64 ∧ d.ok = true ∧ (s.tenant d.tenant).st ≠ 0) ∧
    (∃ i : Fin 8, ∃ s : State, ∃ x : KSlot, Requests s i.val 0x22 x ∧ s.lifecycle = 2 ∧ s.tenantHeld (x.arg 0) = false) ∧
    (∃ i : Fin 8, ∃ s : State, ∃ x : KSlot, Requests s i.val 0x22 x ∧ s.lifecycle = 2 ∧ s.tenantHeld (x.arg 0) = true) ∧
    (∃ i : Fin 8, ∃ s : State, ∃ x : KSlot, s.memWf = true ∧ Requests s i.val 0x23 x ∧ s.lifecycle = 2 ∧ x.arg 0 ≤ 255 ∧ x.blen = 128 ∧ inTcm x.buf 128 = true) ∧
    (∃ i : Fin 8, ∃ s : State, ∃ x : KSlot, ∃ n : Nat, Requests s i.val 0x30 x ∧ x.arg 0 < 8 ∧ s.key.kek ≠ 0 ∧ s.freeSlot = some n) ∧
    (∃ i : Fin 8, ∃ s : State, ∃ x : KSlot, Requests s i.val 0x31 x ∧ s.keyRefused (i.val / 4) (x.arg 0) 0 = none) ∧
    (∃ i : Fin 8, ∃ s : State, ∃ x : KSlot, Requests s i.val 0x32 x ∧ 28 ≤ x.blen ∧ x.blen ≤ 65564 ∧ s.keyRefused (i.val / 4) (x.arg 0) 1 = none) ∧
    (∃ i : Fin 8, ∃ s : State, ∃ x : KSlot, ∃ st, Requests s i.val 0x32 x ∧ 28 ≤ x.blen ∧ x.blen ≤ 65564 ∧ s.keyRefused (i.val / 4) (x.arg 0) 1 = some st) ∧
    (∃ i : Fin 8, ∃ s : State, ∃ x : KSlot, let p := s.peekBytes (i.val / 4); let good := Config.gcmTag (s.slot (x.arg 0)).key (ofBytes (p x.buf 12)) (p (x.buf + 12) (x.blen - 28)) % 2 ^ 128 = ofBytes (p (x.buf + x.blen - 16) 16); Requests s i.val 0x33 x ∧ 28 ≤ x.blen ∧ x.blen ≤ 65564 ∧ s.keyRefused (i.val / 4) (x.arg 0) 2 = none ∧ good) ∧
    (∃ i : Fin 8, ∃ s : State, ∃ x : KSlot, let p := s.peekBytes (i.val / 4); let good := Config.gcmTag (s.slot (x.arg 0)).key (ofBytes (p x.buf 12)) (p (x.buf + 12) (x.blen - 28)) % 2 ^ 128 = ofBytes (p (x.buf + x.blen - 16) 16); Requests s i.val 0x33 x ∧ 28 ≤ x.blen ∧ x.blen ≤ 65564 ∧ s.keyRefused (i.val / 4) (x.arg 0) 2 = none ∧ s.memWf = true ∧ inTcm x.buf x.blen = true ∧ ¬ good) ∧
    (∃ i : Fin 8, ∃ s : State, ∃ x : KSlot, let t := Config.cmac (s.slot (x.arg 0)).key (s.peekBytes (i.val / 4) x.buf x.blen) % 2 ^ 128; x.blen ≤ 65536 ∧ s.keyRefused (i.val / 4) (x.arg 0) 4 = none ∧ Requests s i.val 0x34 x) ∧
    (∃ i : Fin 8, ∃ s : State, ∃ x : KSlot, let t := Config.cmac (s.slot (x.arg 0)).key (s.peekBytes (i.val / 4) x.buf x.blen) % 2 ^ 128; x.blen ≤ 65536 ∧ s.keyRefused (i.val / 4) (x.arg 0) 4 = none ∧ Requests s i.val 0x35 x) ∧
    (∃ i : Fin 8, ∃ s : State, ∃ x : KSlot, ∃ op : Nat × Nat, Requests s i.val 0x40 x ∧ verifyOp (x.arg 0) (x.arg 3) = some op ∧ x.arg 1 + x.arg 2 + x.arg 3 ≤ x.blen ∧ (x.arg 0 = 5 ∨ x.arg 2 = 48) ∧ s.scv.jobs = [] ∧ s.rd Reg.PKE_STATUS.INSERVICE 0 = 0) ∧
    (∃ i : Fin 8, ∃ s : State, ∃ x : KSlot, Requests s i.val 0x50 x ∧ s.lifecycle = 0 ∧ x.blen = 2145 ∧ s.rngState = 2 ∧ ofBytes (s.peekBytes (i.val / 4) x.buf 96) ≠ 0 ∧ ((List.range 8).any fun j => s.fuse (8 + j) ≠ 0) = false) ∧
    (∃ i : Fin 8, ∃ j : Fin 2, ∃ s : State, ∃ x : KSlot, Requests s i.val 0x51 x ∧ s.lifecycle = 1 ∧ x.arg 0 ≤ 1 ∧ 1 ≤ x.blen ∧ x.blen ≤ 8192) ∧
    (∃ i : Fin 8, ∃ s : State, ∃ x : KSlot, Requests s i.val 0x52 x ∧ s.lifecycle = 1 ∧ s.deployable = true) ∧
    (∃ i : Fin 8, ∃ s : State, ∃ x : KSlot, Requests s i.val 0x53 x ∧ s.lifecycle = 1) :=
  ⟨⟨0, { kc with cpu.korder := [0], cpu.kslots := [(0, ⟨0x01, [0x31, 0, 100, 0], 0x10000000, 0, 1, 0, [], false, false⟩)] }, ({ kc with cpu.korder := [0], cpu.kslots := [(0, ⟨0x01, [0x31, 0, 100, 0], 0x10000000, 0, 1, 0, [], false, false⟩)] } : State).kslot (0 : Fin 8).val, (settingDef? 0x31).getD default, by decide +kernel⟩,
   ⟨0, { kc with cpu.korder := [0], cpu.kslots := [(0, ⟨0x02, [0x31, 0], 0x10000000, 0, 1, 0, [], false, false⟩)] }, ({ kc with cpu.korder := [0], cpu.kslots := [(0, ⟨0x02, [0x31, 0], 0x10000000, 0, 1, 0, [], false, false⟩)] } : State).kslot (0 : Fin 8).val, (settingDef? 0x31).getD default, (({ kc with cpu.korder := [0], cpu.kslots := [(0, ⟨0x02, [0x31, 0], 0x10000000, 0, 1, 0, [], false, false⟩)] } : State).settingValue ((settingDef? 0x31).getD default) ((({ kc with cpu.korder := [0], cpu.kslots := [(0, ⟨0x02, [0x31, 0], 0x10000000, 0, 1, 0, [], false, false⟩)] } : State).kslot (0 : Fin 8).val : KSlot).arg 1)).getD default, by decide +kernel⟩,
   ⟨0, { kc with cpu.korder := [0], cpu.kslots := [(0, ⟨0x02, [0xFFFF, 0], 0x10000000, 0, 1, 0, [], false, false⟩)] }, ({ kc with cpu.korder := [0], cpu.kslots := [(0, ⟨0x02, [0xFFFF, 0], 0x10000000, 0, 1, 0, [], false, false⟩)] } : State).kslot (0 : Fin 8).val, by decide +kernel⟩,
   ⟨0, { kc with cpu.korder := [0], cpu.kslots := [(0, ⟨0x10, [0], 0x10000000, 32, 1, 0, [], false, false⟩)] }, ({ kc with cpu.korder := [0], cpu.kslots := [(0, ⟨0x10, [0], 0x10000000, 32, 1, 0, [], false, false⟩)] } : State).kslot (0 : Fin 8).val, by decide +kernel⟩,
   ⟨(default : Nat), (default : Nat), 0x10000000, (default : Nat), 32, (default : Nat), { kc.setKslot 0 ⟨0x10, [0], 0x10000000, 32, 2, 0, [], false, false⟩ with rng.reqs := [⟨.kcall 0 0 0x10000000, 0, 32, 0⟩] }, by decide +kernel⟩,
   ⟨0, { kt with cpu.korder := [0], cpu.kslots := [(0, ⟨0x20, [], 0x10000000, 5248, 1, 0, [], false, false⟩)] }, ({ kt with cpu.korder := [0], cpu.kslots := [(0, ⟨0x20, [], 0x10000000, 5248, 1, 0, [], false, false⟩)] } : State).kslot (0 : Fin 8).val, by simp only [Descriptor.ok]; rcases space with h | h <;> simp only [h] <;> decide +kernel⟩,
   ⟨0, { (kt.setTenant 9 ⟨1, 1, 10, 10, 1, 0, 0, []⟩) with cpu.korder := [0], cpu.kslots := [(0, ⟨0x21, [], 0x10000000, 64, 1, 0, [], false, false⟩)] }, ({ (kt.setTenant 9 ⟨1, 1, 10, 10, 1, 0, 0, []⟩) with cpu.korder := [0], cpu.kslots := [(0, ⟨0x21, [], 0x10000000, 64, 1, 0, [], false, false⟩)] } : State).kslot (0 : Fin 8).val, by simp only [Descriptor.ok]; rcases space with h | h <;> simp only [h] <;> decide +kernel⟩,
   ⟨0, { (kt.setTenant 9 ⟨1, 1, 10, 10, 1, 0, 0, []⟩) with cpu.korder := [0], cpu.kslots := [(0, ⟨0x22, [9], 0x10000000, 0, 1, 0, [], false, false⟩)] }, ({ (kt.setTenant 9 ⟨1, 1, 10, 10, 1, 0, 0, []⟩) with cpu.korder := [0], cpu.kslots := [(0, ⟨0x22, [9], 0x10000000, 0, 1, 0, [], false, false⟩)] } : State).kslot (0 : Fin 8).val, by decide +kernel⟩,
   ⟨0, { kc with cpu.korder := [0], cpu.kslots := [(0, ⟨0x22, [0], 0x10000000, 0, 1, 0, [], false, false⟩)] }, ({ kc with cpu.korder := [0], cpu.kslots := [(0, ⟨0x22, [0], 0x10000000, 0, 1, 0, [], false, false⟩)] } : State).kslot (0 : Fin 8).val, by decide +kernel⟩,
   ⟨0, { kc with cpu.korder := [0], cpu.kslots := [(0, ⟨0x23, [0], 0x10000000, 128, 1, 0, [], false, false⟩)] }, ({ kc with cpu.korder := [0], cpu.kslots := [(0, ⟨0x23, [0], 0x10000000, 128, 1, 0, [], false, false⟩)] } : State).kslot (0 : Fin 8).val, by decide +kernel⟩,
   ⟨0, { kc with cpu.korder := [0], cpu.kslots := [(0, ⟨0x30, [3], 0x10000000, 0, 1, 0, [], false, false⟩)] }, ({ kc with cpu.korder := [0], cpu.kslots := [(0, ⟨0x30, [3], 0x10000000, 0, 1, 0, [], false, false⟩)] } : State).kslot (0 : Fin 8).val, (({ kc with cpu.korder := [0], cpu.kslots := [(0, ⟨0x30, [3], 0x10000000, 0, 1, 0, [], false, false⟩)] } : State).freeSlot).getD default, by decide +kernel⟩,
   ⟨0, { (kc.setSlot 256 ⟨2, 0, 1, 7, 1, 1⟩) with cpu.korder := [0], cpu.kslots := [(0, ⟨0x31, [256], 0x10000000, 0, 1, 0, [], false, false⟩)] }, ({ (kc.setSlot 256 ⟨2, 0, 1, 7, 1, 1⟩) with cpu.korder := [0], cpu.kslots := [(0, ⟨0x31, [256], 0x10000000, 0, 1, 0, [], false, false⟩)] } : State).kslot (0 : Fin 8).val, by decide +kernel⟩,
   ⟨0, { (kc.setSlot 256 ⟨2, 0, 1, 7, 1, 1⟩) with cpu.korder := [0], cpu.kslots := [(0, ⟨0x32, [256], 0x10000000, 64, 1, 0, [], false, false⟩)] }, ({ (kc.setSlot 256 ⟨2, 0, 1, 7, 1, 1⟩) with cpu.korder := [0], cpu.kslots := [(0, ⟨0x32, [256], 0x10000000, 64, 1, 0, [], false, false⟩)] } : State).kslot (0 : Fin 8).val, by decide +kernel⟩,
   ⟨0, { kc with cpu.korder := [0], cpu.kslots := [(0, ⟨0x32, [0], 0x10000000, 64, 1, 0, [], false, false⟩)] }, ({ kc with cpu.korder := [0], cpu.kslots := [(0, ⟨0x32, [0], 0x10000000, 64, 1, 0, [], false, false⟩)] } : State).kslot (0 : Fin 8).val, Status.FIELD_INVALID, by decide +kernel⟩,
   ⟨0, { (kg.setSlot 256 ⟨2, 0, 1, 7, 1, 1⟩) with cpu.korder := [0], cpu.kslots := [(0, ⟨0x33, [256], 0x10000000, 64, 1, 0, [], false, false⟩)] }, ({ (kg.setSlot 256 ⟨2, 0, 1, 7, 1, 1⟩) with cpu.korder := [0], cpu.kslots := [(0, ⟨0x33, [256], 0x10000000, 64, 1, 0, [], false, false⟩)] } : State).kslot (0 : Fin 8).val, by decide +kernel, by decide +kernel, by decide +kernel, by decide +kernel, (tag_read _)⟩,
   (by
  by_cases h : Config.gcmTag 1 0 (List.replicate 36 0) % 2 ^ 128 = 0
  · exact ⟨0, { (kb.setSlot 256 ⟨2, 0, 1, 7, 1, 1⟩) with cpu.korder := [0], cpu.kslots := [(0, ⟨0x33, [256], 0x10000000, 64, 1, 0, [], false, false⟩)] }, ({ (kb.setSlot 256 ⟨2, 0, 1, 7, 1, 1⟩) with cpu.korder := [0], cpu.kslots := [(0, ⟨0x33, [256], 0x10000000, 64, 1, 0, [], false, false⟩)] } : State).kslot (0 : Fin 8).val, by decide +kernel, by decide +kernel, by decide +kernel, by decide +kernel, by decide +kernel, by decide +kernel, fun e => absurd (h.symm.trans e) (by decide +kernel)⟩
  · exact ⟨0, { (kc.setSlot 256 ⟨2, 0, 1, 7, 1, 1⟩) with cpu.korder := [0], cpu.kslots := [(0, ⟨0x33, [256], 0x10000000, 64, 1, 0, [], false, false⟩)] }, ({ (kc.setSlot 256 ⟨2, 0, 1, 7, 1, 1⟩) with cpu.korder := [0], cpu.kslots := [(0, ⟨0x33, [256], 0x10000000, 64, 1, 0, [], false, false⟩)] } : State).kslot (0 : Fin 8).val, by decide +kernel, by decide +kernel, by decide +kernel, by decide +kernel, by decide +kernel, by decide +kernel, h⟩),
   ⟨0, { (kc.setSlot 256 ⟨2, 0, 1, 4, 1, 1⟩) with cpu.korder := [0], cpu.kslots := [(0, ⟨0x34, [256], 0x10000000, 64, 1, 0, [], false, false⟩)] }, ({ (kc.setSlot 256 ⟨2, 0, 1, 4, 1, 1⟩) with cpu.korder := [0], cpu.kslots := [(0, ⟨0x34, [256], 0x10000000, 64, 1, 0, [], false, false⟩)] } : State).kslot (0 : Fin 8).val, by decide +kernel⟩,
   ⟨0, { (kc.setSlot 256 ⟨2, 0, 1, 4, 1, 1⟩) with cpu.korder := [0], cpu.kslots := [(0, ⟨0x35, [256, 0, 0, 0, 0], 0x10000000, 64, 1, 0, [], false, false⟩)] }, ({ (kc.setSlot 256 ⟨2, 0, 1, 4, 1, 1⟩) with cpu.korder := [0], cpu.kslots := [(0, ⟨0x35, [256, 0, 0, 0, 0], 0x10000000, 64, 1, 0, [], false, false⟩)] } : State).kslot (0 : Fin 8).val, by decide +kernel⟩,
   ⟨0, { (kc.wr Reg.PKE_STATUS.INSERVICE 0 0) with cpu.korder := [0], cpu.kslots := [(0, ⟨0x40, [5, 48, 48, 100], 0x10000000, 400, 1, 0, [], false, false⟩)] }, ({ (kc.wr Reg.PKE_STATUS.INSERVICE 0 0) with cpu.korder := [0], cpu.kslots := [(0, ⟨0x40, [5, 48, 48, 100], 0x10000000, 400, 1, 0, [], false, false⟩)] } : State).kslot (0 : Fin 8).val, (0, 0x11), by decide +kernel⟩,
   ⟨0, { ((set kt [(Reg.RNG_STATUS.STATE, 0, 2)]).wr Reg.DEV_STATUS.LIFECYCLE 0 0) with cpu.korder := [0], cpu.kslots := [(0, ⟨0x50, [], 0x10000000, 2145, 1, 0, [], false, false⟩)] }, ({ ((set kt [(Reg.RNG_STATUS.STATE, 0, 2)]).wr Reg.DEV_STATUS.LIFECYCLE 0 0) with cpu.korder := [0], cpu.kslots := [(0, ⟨0x50, [], 0x10000000, 2145, 1, 0, [], false, false⟩)] } : State).kslot (0 : Fin 8).val, by decide +kernel⟩,
   ⟨0, 0, { (kc.wr Reg.DEV_STATUS.LIFECYCLE 0 1) with cpu.korder := [0], cpu.kslots := [(0, ⟨0x51, [0], 0x10000000, 100, 1, 0, [], false, false⟩)] }, ({ (kc.wr Reg.DEV_STATUS.LIFECYCLE 0 1) with cpu.korder := [0], cpu.kslots := [(0, ⟨0x51, [0], 0x10000000, 100, 1, 0, [], false, false⟩)] } : State).kslot (0 : Fin 8).val, by decide +kernel⟩,
   ⟨0, { (kc.wr Reg.DEV_STATUS.LIFECYCLE 0 1) with cpu.korder := [0], cpu.kslots := [(0, ⟨0x52, [], 0x10000000, 0, 1, 0, [], false, false⟩)], cfg.image := some { img with escrow := 1 }, scv.certOf := [(0, 0), (0, 1)], crd.cards := [(0, default)], key.restoreKey := 1, key.identity := 1 }, ({ (kc.wr Reg.DEV_STATUS.LIFECYCLE 0 1) with cpu.korder := [0], cpu.kslots := [(0, ⟨0x52, [], 0x10000000, 0, 1, 0, [], false, false⟩)], cfg.image := some { img with escrow := 1 }, scv.certOf := [(0, 0), (0, 1)], crd.cards := [(0, default)], key.restoreKey := 1, key.identity := 1 } : State).kslot (0 : Fin 8).val, by decide +kernel⟩,
   ⟨0, { (kc.wr Reg.DEV_STATUS.LIFECYCLE 0 1) with cpu.korder := [0], cpu.kslots := [(0, ⟨0x53, [], 0x10000000, 0, 1, 0, [], false, false⟩)] }, ({ (kc.wr Reg.DEV_STATUS.LIFECYCLE 0 1) with cpu.korder := [0], cpu.kslots := [(0, ⟨0x53, [], 0x10000000, 0, 1, 0, [], false, false⟩)] } : State).kslot (0 : Fin 8).val, by decide +kernel⟩⟩

theorem test_hyps_FlashCommands :
    (∃ m : Fin 16, ∃ b : Fin 2, ∃ i : Fin 2, ∃ s : State, let k := 2 * b.val + i.val; let a := s.rd Reg.EFL_IF_ADDR.ADDR k; Admitted s m (eflCmd b.val i.val) ∧ s.flashRefused b.val i.val 1 a = none ∧ (s.bank b.val).state = 0 ∧ s.wordErased a = true ∧ s.incomplete (flashSector a) = false) ∧
    (∃ m : Fin 16, ∃ b : Fin 2, ∃ i : Fin 2, ∃ s : State, let k := 2 * b.val + i.val; let a := s.rd Reg.EFL_IF_ADDR.ADDR k; Admitted s m (eflCmd b.val i.val) ∧ s.flashRefused b.val i.val 1 a = none ∧ (s.bank b.val).state = 0 ∧ s.wordErased a = false) ∧
    (∃ m : Fin 16, ∃ b : Fin 2, ∃ i : Fin 2, ∃ s : State, let k := 2 * b.val + i.val; let a := s.rd Reg.EFL_IF_ADDR.ADDR k; ∃ err, Admitted s m (eflCmd b.val i.val) ∧ s.flashRefused b.val i.val 1 a = some err) ∧
    (∃ m : Fin 16, ∃ b : Fin 2, ∃ i : Fin 2, ∃ s : State, let k := 2 * b.val + i.val; let a := s.rd Reg.EFL_IF_ADDR.ADDR k; Admitted s m (eflCmd b.val i.val) ∧ s.flashRefused b.val i.val 2 a = none ∧ (s.bank b.val).state = 0) ∧
    (∃ m : Fin 16, ∃ b : Fin 2, ∃ i : Fin 2, ∃ s : State, let k := 2 * b.val + i.val; let a := s.rd Reg.EFL_IF_ADDR.ADDR k; ∃ err, Admitted s m (eflCmd b.val i.val) ∧ s.flashRefused b.val i.val 2 a = some err) ∧
    (∃ b : Nat, ∃ i : Fin 2, ∃ op : Nat, ∃ a : Nat, ∃ s : State, 0x800000 ≤ a) ∧
    (∃ b : Fin 2, ∃ i : Fin 2, ∃ s : State, ∃ a : Nat, a < 0x400000 ∧ flashBank a = b.val ∧ a % 8192 = 0 ∧ s.protectedSector (flashSector a) = true) ∧
    (∃ b : Fin 2, ∃ p : Fin 25, ∃ s : State, ∃ o : FlashOp, s.memWf = true ∧ (s.bank b.val) = ⟨some o, none, false, []⟩ ∧ o.op = 1) ∧
    (∃ b : Fin 2, ∃ p : Fin 20, ∃ s : State, ∃ o : FlashOp, s.memWf = true ∧ (s.bank b.val) = ⟨some o, none, false, []⟩ ∧ o.op = 2) ∧
    (∃ m : Fin 16, ∃ b : Fin 2, ∃ i : Fin 2, ∃ s : State, ∃ o : FlashOp, ∃ w : List FlashOp, Admitted s m (eflCmd b.val i.val) ∧ o.op = 2 ∧ s.bank b.val = ⟨some o, none, false, w⟩ ∧ o.iface = i.val) ∧
    (∃ m : Fin 16, ∃ b : Fin 2, ∃ i : Fin 2, ∃ s : State, ∃ o : FlashOp, ∃ w : List FlashOp, Admitted s m (eflCmd b.val i.val) ∧ o.op = 2 ∧ s.bank b.val = ⟨some o, none, false, w⟩ ∧ o.iface ≠ i.val) ∧
    (∃ m : Fin 16, ∃ b : Fin 2, ∃ i : Fin 2, ∃ s : State, ∃ o : FlashOp, ∃ w : List FlashOp, Admitted s m (eflCmd b.val i.val) ∧ o.op = 2 ∧ s.bank b.val = ⟨some o, none, true, w⟩) ∧
    (∃ m : Fin 16, ∃ b : Fin 2, ∃ i : Fin 2, ∃ s : State, ∃ o : FlashOp, ∃ w : List FlashOp, Admitted s m (eflCmd b.val i.val) ∧ o.op = 2 ∧ s.bank b.val = ⟨none, some o, false, w⟩ ∧ o.iface = i.val) ∧
    (∃ blank : Bool, ∃ s : State, s.mainOn = true ∧ 640 ≤ s.rd Reg.EFL_REFRESH.NEXT 0 ∧ s.rd Reg.EFL_REFRESH.NEXT 0 ≤ 1407 ∧ scratchSector (s.rd Reg.EFL_REFRESH.NEXT 0) = false ∧ (s.bank (flashBank (sectorBase (s.rd Reg.EFL_REFRESH.NEXT 0)))).state = 0) :=
  ⟨⟨0, 0, 0, full, by decide +kernel⟩,
   ⟨0, 0, 0, { full with efl.cut := [0] }, by decide +kernel⟩,
   ⟨0, 0, 0, set full [(Reg.EFL_IF_ADDR.ADDR, 0, 1)], 6, by decide +kernel⟩,
   ⟨0, 0, 0, full, by decide +kernel⟩,
   ⟨0, 0, 0, set full [(Reg.EFL_IF_ADDR.ADDR, 0, 1)], 6, by decide +kernel⟩,
   ⟨0, 0, 1, 0x800000, full, by decide +kernel⟩,
   ⟨0, 0, set full [(Reg.EFL_WP.WP, 0, 1)], 0, by decide +kernel⟩,
   ⟨0, 1, { full with efl.bank := [(0, ⟨some ⟨0, 1, 0, 5⟩, none, false, []⟩)] }, ⟨0, 1, 0, 5⟩, by decide +kernel⟩,
   ⟨0, 1, { full with efl.bank := [(0, ⟨some ⟨0, 2, 0, 0⟩, none, false, []⟩)] }, ⟨0, 2, 0, 0⟩, by decide +kernel⟩,
   ⟨0, 0, 0, { full with efl.bank := [(0, ⟨some ⟨0, 2, 0, 0⟩, none, false, []⟩)] }, ⟨0, 2, 0, 0⟩, [], by decide +kernel⟩,
   ⟨0, 0, 0, { full with efl.bank := [(0, ⟨some ⟨1, 2, 0, 0⟩, none, false, []⟩)] }, ⟨1, 2, 0, 0⟩, [], by decide +kernel⟩,
   ⟨0, 0, 0, { full with efl.bank := [(0, ⟨some ⟨0, 2, 0, 0⟩, none, true, []⟩)] }, ⟨0, 2, 0, 0⟩, [], by decide +kernel⟩,
   ⟨0, 0, 0, { full with efl.bank := [(0, ⟨none, some ⟨0, 2, 0, 0⟩, false, []⟩)] }, ⟨0, 2, 0, 0⟩, [], by decide +kernel⟩,
   ⟨false, set full [(Reg.EFL_REFRESH.NEXT, 0, 640)], by decide +kernel⟩⟩

theorem test_hyps_TamperCommands :
    (∃ src : Fin 20, ∃ b : Bool, ∃ va : BitVec 16, ∃ vb : BitVec 16, ∃ s : State, (src = 8 ∨ src = 9 ∨ src = 12 ∨ src = 14 ∨ src = 15) ∧ s.watched src.val = true ∧ s.rdBit Reg.TMP_ALARM.ALARM 0 src.val = false) ∧
    (∃ src : Fin 20, ∃ a : Bool, ∃ s : State, [8, 9, 10, 11, 12, 14, 15].contains src.val = true ∧ s.watched src.val = true) ∧
    (∃ m : Fin 16, ∃ v : BitVec 32, ∃ s : State, Admitted s m 0x40E01008) ∧
    (∃ s : State, s.mainOn = true) ∧
    (∃ s : State, s.mainOn = false) ∧
    (∃ s : State, s.session ≠ 0 ∧ s.sessionLimit ≤ s.ticks - s.tmp.opened) ∧
    (∃ f : Fn, ∃ q : Q, ∃ s : State, ∃ x : FEntry, UnlockCmd s f q 1 0 x) ∧
    (∃ f : Fn, ∃ q : Q, ∃ s : State, ∃ x : FEntry, UnlockCmd s f q 2 0 x ∧ CqOpen s f q) ∧
    (∃ f : Fn, ∃ q : Q, ∃ s : State, ∃ x : FEntry, UnlockCmd s f q 3 1 x) ∧
    (∃ f : Fn, ∃ q : Q, ∃ s : State, ∃ x : FEntry, UnlockCmd s f q 3 2 x) ∧
    (∃ f : Fn, ∃ q : Q, ∃ s : State, ∃ x : FEntry, UnlockCmd s f q 3 3 x) ∧
    (∃ f : Fn, ∃ q : Q, ∃ token : RestoreToken, ∃ s : State, ∃ x : FEntry, ∃ k : Nat, UnlockCmd s f q 3 4 x ∧ s.tokenGood (x.e.bytes 34 1) token = true ∧ token.key = some k) ∧
    (∃ f : Fn, ∃ q : Q, ∃ s : State, ∃ x : FEntry, UnlockCmd s f q 4 0 x) :=
  ⟨⟨8, true, (default : BitVec 16), (default : BitVec 16), full, by decide +kernel⟩,
   ⟨8, true, full, by decide +kernel⟩,
   ⟨0, 1, set full [(Reg.TMP_LATCHED.LATCHED, 0, 3)], by decide +kernel⟩,
   ⟨{ full with tmp.uncopied := 1, tmp.bbram := [default] }, by decide +kernel⟩,
   ⟨set full [(Reg.DEV_STATUS.POWER, 0, 2)], by decide +kernel⟩,
   ⟨ulk 2 0 1, by decide +kernel⟩,
   ⟨(0 : Fin 256), (0 : Fin 64), (set (ulk 1 0 0) [(Reg.TMP_STATUS.N, 0, 3)]), (((set (ulk 1 0 0) [(Reg.TMP_STATUS.N, 0, 3)]) : State).qrt ((0 : Fin 256) : Fn).val ((0 : Fin 64) : Q).val).fetched.headD default, by decide +kernel⟩,
   ⟨(0 : Fin 256), (0 : Fin 64), set (adm (full.wr Reg.TMP_STATUS.SESSION 0 1) 0x8D [(32, 2)] 64) [(Reg.TMP_STATUS.N, 0, 3)], ((set (adm (full.wr Reg.TMP_STATUS.SESSION 0 1) 0x8D [(32, 2)] 64) [(Reg.TMP_STATUS.N, 0, 3)] : State).qrt ((0 : Fin 256) : Fn).val ((0 : Fin 64) : Q).val).fetched.headD default, by decide +kernel⟩,
   ⟨(0 : Fin 256), (0 : Fin 64), (set (ulk 3 1 2) [(Reg.TMP_STATUS.N, 0, 3), (Reg.DEV_STATUS.LIFECYCLE, 0, 3)]), (((set (ulk 3 1 2) [(Reg.TMP_STATUS.N, 0, 3), (Reg.DEV_STATUS.LIFECYCLE, 0, 3)]) : State).qrt ((0 : Fin 256) : Fn).val ((0 : Fin 64) : Q).val).fetched.headD default, by decide +kernel⟩,
   ⟨(0 : Fin 256), (0 : Fin 64), (set (ulk 3 2 2) [(Reg.TMP_STATUS.N, 0, 3), (Reg.DEV_STATUS.ARCHIVE_RO, 0, 1)]), (((set (ulk 3 2 2) [(Reg.TMP_STATUS.N, 0, 3), (Reg.DEV_STATUS.ARCHIVE_RO, 0, 1)]) : State).qrt ((0 : Fin 256) : Fn).val ((0 : Fin 64) : Q).val).fetched.headD default, by decide +kernel⟩,
   ⟨(0 : Fin 256), (0 : Fin 64), (set (ulk 3 3 2) [(Reg.TMP_STATUS.N, 0, 3), (Reg.DEV_STATUS.ARCHIVE_RO, 0, 1)]), (((set (ulk 3 3 2) [(Reg.TMP_STATUS.N, 0, 3), (Reg.DEV_STATUS.ARCHIVE_RO, 0, 1)]) : State).qrt ((0 : Fin 256) : Fn).val ((0 : Fin 64) : Q).val).fetched.headD default, by decide +kernel⟩,
   ⟨(0 : Fin 256), (0 : Fin 64), ⟨true, Config.serial, tkcv 77, some 77⟩, (set (adm ((full.wr Reg.TMP_STATUS.SESSION 0 2).setTenant 9 ⟨2, 1, 10, 10, 1, 0, 0, []⟩) 0x8D [(32, 3), (33, 4), (34, 9)] 5184) [(Reg.TMP_STATUS.N, 0, 3), (Reg.STR_STATUS.KEK_VALID, 0, 1)]).setSlot 9 ⟨3, 0, 1, 1, 0, tkcv 77⟩, (((set (adm ((full.wr Reg.TMP_STATUS.SESSION 0 2).setTenant 9 ⟨2, 1, 10, 10, 1, 0, 0, []⟩) 0x8D [(32, 3), (33, 4), (34, 9)] 5184) [(Reg.TMP_STATUS.N, 0, 3), (Reg.STR_STATUS.KEK_VALID, 0, 1)]).setSlot 9 ⟨3, 0, 1, 1, 0, tkcv 77⟩ : State).qrt ((0 : Fin 256) : Fn).val ((0 : Fin 64) : Q).val).fetched.headD default, 77, by decide +kernel, (by simp only [State.tokenGood, Bool.and_eq_true, decide_eq_true_eq]; exact ⟨⟨⟨trivial, trivial⟩, by decide +kernel⟩, trivial, rfl⟩), by decide +kernel⟩,
   ⟨(0 : Fin 256), (0 : Fin 64), (set (ulk 4 0 1) [(Reg.TMP_STATUS.N, 0, 3)]), (((set (ulk 4 0 1) [(Reg.TMP_STATUS.N, 0, 3)]) : State).qrt ((0 : Fin 256) : Fn).val ((0 : Fin 64) : Q).val).fetched.headD default, by decide +kernel⟩⟩

theorem test_hyps_CardCommands :
    (∃ s : State, s.mainOn = true ∧ s.isSet Reg.CRD_STATUS.PRESENT 0 = false) ∧
    (∃ s : State, s.mainOn = true ∧ s.isSet Reg.CRD_STATUS.PRESENT 0 = true) ∧
    (∃ s : State, ∃ x : CardEx, s.mainOn = true ∧ s.crd.ex = some x ∧ x.step = .powering) ∧
    (∃ s : State, ∃ x : CardEx, ∃ c, s.mainOn = true ∧ s.crd.ex = some x ∧ x.step = .atr ∧ nextClass x.cls 7 = some c) ∧
    (∃ s : State, ∃ x : CardEx, s.mainOn = true ∧ s.crd.ex = some x ∧ x.step = .atr ∧ nextClass x.cls 7 = none) ∧
    (∃ s : State, ∃ x : CardEx, s.mainOn = true ∧ s.crd.ex = some x ∧ x.step = .gap) ∧
    (∃ s : State, ∃ x : CardEx, ∃ a : AtrRead, ∃ i : AtrInfo, ∃ n : Nat, ∃ b : BitVec 8, ∃ r : List (BitVec 8), s.mainOn = true ∧ s.crd.ex = some x ∧ x.step = .atr ∧ a.failed = false ∧ a.chars = b :: r ∧ (b ≠ 0x3B ∧ b ≠ 0x3F)) ∧
    (∃ s : State, ∃ x : CardEx, ∃ a : AtrRead, ∃ i : AtrInfo, ∃ n : Nat, ∃ b : BitVec 8, ∃ r : List (BitVec 8), s.mainOn = true ∧ s.crd.ex = some x ∧ x.step = .atr ∧ a.failed = false ∧ a.chars = b :: r ∧ (b = 0x3B ∨ b = 0x3F) ∧ atrParse (a.chars.map BitVec.toNat) = some (i, n) ∧ n ≤ 33 ∧ n ≤ a.chars.length ∧ atrBad ((a.chars.map BitVec.toNat).take n) i = false ∧ i.global = none ∧ i.ta1 = none) ∧
    (∃ s : State, ∃ x : CardEx, ∃ r : List (BitVec 8), s.mainOn = true ∧ s.crd.ex = some x ∧ x.step = .pps ∧ r.map BitVec.toNat = [0xFF, 0x10, x.pps1, 0xEF ^^^ x.pps1]) ∧
    (∃ s : State, ∃ x : CardEx, s.mainOn = true ∧ s.crd.ex = some x ∧ x.step = .pps ∧ x.ppsFails = 0) ∧
    (∃ s : State, ∃ x : CardEx, s.mainOn = true ∧ s.crd.ex = some x ∧ x.step = .pps ∧ x.ppsFails ≠ 0) ∧
    (∃ s : State, ∃ x : CardEx, ∃ a : CardAnswer, s.mainOn = true ∧ s.crd.ex = some x ∧ a.failed = false ∧ x.step = .select ∧ a.sw = 0x9000) ∧
    (∃ s : State, ∃ x : CardEx, ∃ a : CardAnswer, ∃ c : CardCert, ∃ g : Image, s.mainOn = true ∧ s.crd.ex = some x ∧ a.failed = false ∧ x.step = .cert ∧ a.sw = 0x9000 ∧ c.formOk = true ∧ c.sigOk = true ∧ s.cfg.image = some g ∧ g.cardKey ≠ 0 ∧ x.purpose ≠ 1) ∧
    (∃ s : State, ∃ x : CardEx, ∃ a : CardAnswer, ∃ c : CardCert, ∃ g : Image, ∃ i : Nat, s.mainOn = true ∧ s.crd.ex = some x ∧ a.failed = false ∧ x.step = .cert ∧ a.sw = 0x9000 ∧ c.formOk = true ∧ c.sigOk = true ∧ s.cfg.image = some g ∧ g.cardKey ≠ 0 ∧ x.purpose = 1 ∧ s.cardIndex ⟨c.id.toNat, c.pub⟩ = some i) ∧
    (∃ s : State, ∃ x : CardEx, ∃ a : CardAnswer, s.mainOn = true ∧ s.crd.ex = some x ∧ a.failed = false ∧ x.step = .auth ∧ a.sw = 0x6140) ∧
    (∃ s : State, ∃ x : CardEx, ∃ a : CardAnswer, ∃ e, s.mainOn = true ∧ s.crd.ex = some x ∧ a.failed = false ∧ x.step = .resp ∧ a.sw = 0x9000 ∧ x.purpose = 2 ∧ x.card = some e ∧ (∀ y ∈ s.crd.staged, y.2.id ≠ e.id)) ∧
    (∃ s : State, ∃ x : CardEx, ∃ a : CardAnswer, ∃ e, s.mainOn = true ∧ s.crd.ex = some x ∧ a.failed = false ∧ x.step = .resp ∧ a.sw = 0x9000 ∧ x.purpose = 1 ∧ x.card = some e ∧ s.session = 1 ∧ s.tmp.cards.testBit x.index = false ∧ s.rd Reg.TMP_STATUS.COUNTED 0 + 1 < s.crd.sessK ∧ s.rd Reg.TMP_STATUS.COUNTED 0 < 7) ∧
    (∃ s : State, ∃ x : CardEx, ∃ a : CardAnswer, s.mainOn = true ∧ s.crd.ex = some x ∧ a.failed = false ∧ x.step = .resp ∧ a.sw = 0x9000 ∧ x.purpose = 2) ∧
    (∃ s : State, ∃ x : CardEx, s.mainOn = true ∧ s.crd.ex = some x ∧ x.step.apdu = true) ∧
    (∃ s : State, ∃ x : CardEx, s.mainOn = true ∧ s.crd.ex = some x ∧ x.step ≠ .gap) ∧
    (∃ s : State, s.mainOn = true ∧ s.isSet Reg.CRD_STATUS.ACTIVE 0 = true ∧ s.isSet Reg.CRD_STATUS.STOPOK 0 = true) ∧
    (∃ m : Fin 16, ∃ s : State, Admitted s m 0x40F00004) ∧
    (∃ m : Fin 16, ∃ s : State, ∃ idx : BitVec 3, Admitted s m 0x40F00008 ∧ s.setRefused = none ∧ s.session ≠ 1 ∧ s.crd.ex = none ∧ Tab.find idx.toNat s.crd.staged = none ∧ s.isSet Reg.CRD_STATUS.PRESENT 0 = true) ∧
    (∃ m : Fin 16, ∃ s : State, ∃ idx : BitVec 3, Admitted s m 0x40F00008 ∧ s.setRefused = none) ∧
    (∃ m : Fin 16, ∃ s : State, ∃ k : BitVec 3, Admitted s m 0x40F00008 ∧ s.setRefused = none ∧ 1 ≤ k.toNat ∧ k.toNat ≤ 5 ∧ k.toNat ≤ s.crd.staged.length) ∧
    (∃ m : Fin 16, ∃ s : State, Admitted s m 0x40F00008 ∧ s.setRefused = none) :=
  ⟨⟨full, by decide +kernel⟩,
   ⟨crd .select { (default : CardEx) with purpose := 2 }, by decide +kernel⟩,
   ⟨crd .powering { (default : CardEx) with purpose := 2 }, ((crd .powering { (default : CardEx) with purpose := 2 } : State).crd.ex).getD default, by decide +kernel⟩,
   ⟨crd .atr { (default : CardEx) with cls := 3 }, ((crd .atr { (default : CardEx) with cls := 3 } : State).crd.ex).getD default, 2, by decide +kernel⟩,
   ⟨crd .atr { (default : CardEx) with cls := 1 }, ((crd .atr { (default : CardEx) with cls := 1 } : State).crd.ex).getD default, by decide +kernel⟩,
   ⟨crd .gap { (default : CardEx) with purpose := 2 }, ((crd .gap { (default : CardEx) with purpose := 2 } : State).crd.ex).getD default, by decide +kernel⟩,
   ⟨crd .atr { (default : CardEx) with purpose := 2 }, ((crd .atr { (default : CardEx) with purpose := 2 } : State).crd.ex).getD default, ⟨[0x3C, 0], 0, 0, false⟩, ⟨none, none, false, false, false, false, none⟩, 2, 0x3C, [0], by decide +kernel⟩,
   ⟨crd .atr { (default : CardEx) with purpose := 2 }, ((crd .atr { (default : CardEx) with purpose := 2 } : State).crd.ex).getD default, ⟨[0x3B, 0], 0, 0, false⟩, ⟨none, none, false, false, false, false, none⟩, 2, 0x3B, [0], by decide +kernel⟩,
   ⟨crd .pps { (default : CardEx) with pps1 := 0x11 }, ((crd .pps { (default : CardEx) with pps1 := 0x11 } : State).crd.ex).getD default, [0xFF, 0x10, 0x11, 0xFE], by decide +kernel⟩,
   ⟨crd .pps { (default : CardEx) with purpose := 2 }, ((crd .pps { (default : CardEx) with purpose := 2 } : State).crd.ex).getD default, by decide +kernel⟩,
   ⟨crd .pps { (default : CardEx) with ppsFails := 1 }, ((crd .pps { (default : CardEx) with ppsFails := 1 } : State).crd.ex).getD default, by decide +kernel⟩,
   ⟨crd .select { (default : CardEx) with purpose := 2 }, ((crd .select { (default : CardEx) with purpose := 2 } : State).crd.ex).getD default, { (default : CardAnswer) with sw := 0x9000 }, by decide +kernel⟩,
   ⟨{ crd .cert { (default : CardEx) with purpose := 2 } with cfg.image := some { img with cardKey := 1 } }, (({ crd .cert { (default : CardEx) with purpose := 2 } with cfg.image := some { img with cardKey := 1 } } : State).crd.ex).getD default, { (default : CardAnswer) with sw := 0x9000 }, ⟨true, true, 5, 6⟩, { img with cardKey := 1 }, by decide +kernel⟩,
   ⟨{ crd .cert { (default : CardEx) with purpose := 1 } with cfg.image := some { img with cardKey := 1 }, crd.sessCards := [(2, ⟨5, 6⟩)] }, (({ crd .cert { (default : CardEx) with purpose := 1 } with cfg.image := some { img with cardKey := 1 }, crd.sessCards := [(2, ⟨5, 6⟩)] } : State).crd.ex).getD default, { (default : CardAnswer) with sw := 0x9000 }, ⟨true, true, 5, 6⟩, { img with cardKey := 1 }, 2, by decide +kernel⟩,
   ⟨crd .auth { (default : CardEx) with purpose := 2 }, ((crd .auth { (default : CardEx) with purpose := 2 } : State).crd.ex).getD default, { (default : CardAnswer) with sw := 0x6140 }, by decide +kernel⟩,
   ⟨crd .resp { (default : CardEx) with purpose := 2, idx := 3, card := some ⟨5, 6⟩ }, ((crd .resp { (default : CardEx) with purpose := 2, idx := 3, card := some ⟨5, 6⟩ } : State).crd.ex).getD default, { (default : CardAnswer) with sw := 0x9000 }, ⟨5, 6⟩, by decide +kernel⟩,
   ⟨{ set (crd .resp { (default : CardEx) with purpose := 1, index := 3, card := some ⟨5, 6⟩ }) [(Reg.TMP_STATUS.SESSION, 0, 1)] with crd.sessK := 3 }, (({ set (crd .resp { (default : CardEx) with purpose := 1, index := 3, card := some ⟨5, 6⟩ }) [(Reg.TMP_STATUS.SESSION, 0, 1)] with crd.sessK := 3 } : State).crd.ex).getD default, { (default : CardAnswer) with sw := 0x9000 }, ⟨5, 6⟩, by decide +kernel⟩,
   ⟨crd .resp { (default : CardEx) with purpose := 2 }, ((crd .resp { (default : CardEx) with purpose := 2 } : State).crd.ex).getD default, { (default : CardAnswer) with sw := 0x9000 }, by decide +kernel⟩,
   ⟨crd .select { (default : CardEx) with purpose := 2 }, ((crd .select { (default : CardEx) with purpose := 2 } : State).crd.ex).getD default, by decide +kernel⟩,
   ⟨crd .select { (default : CardEx) with purpose := 2 }, ((crd .select { (default : CardEx) with purpose := 2 } : State).crd.ex).getD default, by decide +kernel⟩,
   ⟨set full [(Reg.CRD_STATUS.ACTIVE, 0, 1), (Reg.CRD_STATUS.STOPOK, 0, 1)], by decide +kernel⟩,
   ⟨0, full, by decide +kernel⟩,
   ⟨0, set full [(Reg.TMP_STATUS.SESSION, 0, 2), (Reg.CRD_STATUS.PRESENT, 0, 1)], 3, by decide +kernel⟩,
   ⟨0, set full [(Reg.TMP_STATUS.SESSION, 0, 2)], 3, by decide +kernel⟩,
   ⟨0, { set full [(Reg.TMP_STATUS.SESSION, 0, 2)] with crd.staged := [(0, ⟨5, 6⟩)] }, 1, by decide +kernel⟩,
   ⟨0, set full [(Reg.TMP_STATUS.SESSION, 0, 2)], by decide +kernel⟩⟩

theorem test_hyps_TagSelection :
    (∃ s : State, s.npl.tag = .off) ∧
    (∃ s : State, ∃ i, s.npl.fieldOn = 0 ∧ i ∈ [Instr.reqa, .wupa, .hlta, .nfcInvalidFrame .invalid, .read16 0 true, .auth1 0 true .aon]) ∧
    (∃ s : State, ∃ i, s.npl.fieldOn ≠ 0 ∧ s.npl.tag = .idle ∧ (i = Instr.reqa ∨ i = .wupa)) ∧
    (∃ s : State, s.npl.fieldOn ≠ 0 ∧ s.npl.tag = .halt) ∧
    (∃ n : Fin 41, ∃ known : BitVec 40, ∃ s : State, s.npl.fieldOn ≠ 0 ∧ (s.npl.tag = .ready ∨ s.npl.tag = .readyS) ∧ known.toNat % 2 ^ n.val = cascadeBits s.npl.level1 % 2 ^ n.val) ∧
    (∃ n : Fin 41, ∃ known : BitVec 40, ∃ s : State, s.npl.fieldOn ≠ 0 ∧ (s.npl.tag = .ready ∨ s.npl.tag = .readyS) ∧ known.toNat % 2 ^ n.val ≠ cascadeBits s.npl.level1 % 2 ^ n.val) ∧
    (∃ uid : BitVec 40, ∃ s : State, s.npl.fieldOn ≠ 0 ∧ (s.npl.tag = .ready ∨ s.npl.tag = .readyS) ∧ s.npl.level1 = false ∧ uid.toNat = cascadeBits false) ∧
    (∃ uid : BitVec 40, ∃ s : State, s.npl.fieldOn ≠ 0 ∧ (s.npl.tag = .ready ∨ s.npl.tag = .readyS) ∧ s.npl.level1 = true ∧ uid.toNat = cascadeBits true) ∧
    (∃ s : State, s.npl.fieldOn ≠ 0 ∧ s.selected = true) ∧
    (∃ s : State, s.npl.fieldOn ≠ 0 ∧ s.npl.tag = .activeS) :=
  ⟨⟨tagS .off, by decide +kernel⟩,
   ⟨{ full with npl := { full.npl with fieldOn := 0 } }, Instr.reqa, by decide +kernel⟩,
   ⟨tagS .idle, Instr.reqa, by decide +kernel⟩,
   ⟨tagS .halt, by decide +kernel⟩,
   ⟨0, 0, tagS .ready, by decide +kernel, by decide +kernel, (by simp [Nat.mod_one])⟩,
   ⟨40, BitVec.ofNat 40 (cascadeBits false + 1), tagS .ready, by decide +kernel, by decide +kernel, (by show (BitVec.ofNat 40 (cascadeBits false + 1)).toNat % 2 ^ 40 ≠ cascadeBits false % 2 ^ 40; have := cascade_lt false; rw [BitVec.toNat_ofNat]; omega)⟩,
   ⟨BitVec.ofNat 40 (cascadeBits false), tagS .ready, by decide +kernel, by decide +kernel, by decide +kernel, (by have := cascade_lt false; rw [BitVec.toNat_ofNat]; omega)⟩,
   ⟨BitVec.ofNat 40 (cascadeBits true), { tagS .ready with npl := { (tagS .ready).npl with level1 := true } }, by decide +kernel, by decide +kernel, by decide +kernel, (by have := cascade_lt true; rw [BitVec.toNat_ofNat]; omega)⟩,
   ⟨tagS .active, by decide +kernel⟩,
   ⟨tagS .activeS, by decide +kernel⟩⟩

theorem test_hyps_TagCommands :
    (∃ addr : BitVec 16, ∃ s : State, let p := addr.toNat / 256; s.npl.fieldOn ≠ 0 ∧ s.selected = true ∧ addr.toNat % 16 = 0 ∧ addr.toNat < 3840 ∧ (p < 5 ∨ s.npl.auth = true ∨ s.npl.logsFree ≠ 0)) ∧
    (∃ addr : BitVec 16, ∃ s : State, let p := addr.toNat / 256; s.npl.fieldOn ≠ 0 ∧ s.selected = true ∧ addr.toNat % 16 = 0 ∧ addr.toNat < 3840 ∧ 5 ≤ p ∧ s.npl.auth = false ∧ s.npl.logsFree = 0) ∧
    (∃ addr : BitVec 16, ∃ data : BitVec 32, ∃ p : TagPower, ∃ s : State, s.npl.fieldOn ≠ 0 ∧ s.selected = true ∧ addr.toNat % 4 = 0 ∧ 1152 ≤ addr.toNat ∧ addr.toNat ≤ 1276 ∧ s.npl.auth = false) ∧
    (∃ addr : BitVec 16, ∃ data : BitVec 32, ∃ p : TagPower, ∃ s : State, s.npl.fieldOn ≠ 0 ∧ s.selected = true ∧ addr.toNat % 4 = 0 ∧ 1152 ≤ addr.toNat ∧ addr.toNat ≤ 1276 ∧ Memory.wf 0 s.npl.fram = true ∧ (∀ q < 15, s.tagSel q ≤ 1) ∧ s.npl.auth = true ∧ s.pageLocked 4 = false ∧ p ≠ .fieldLow ∧ s.npl.memoOn ≠ 0) ∧
    (∃ p : TagPower, ∃ s : State, s.npl.fieldOn ≠ 0 ∧ s.selected = true) ∧
    (∃ r : BitVec 64, ∃ p : TagPower, ∃ s : State, s.npl.fieldOn ≠ 0 ∧ s.selected = true ∧ p ≠ .fieldLow ∧ s.npl.key ≠ 0 ∧ s.npl.ctr < 0xFFFFFFFF) ∧
    (∃ tr : BitVec 64, ∃ s : State, ∃ r : Nat, s.npl.fieldOn ≠ 0 ∧ s.selected = true ∧ s.npl.auth1 = some r ∧ s.npl.key ≠ 0) ∧
    (∃ m : Fin 16, ∃ v : BitVec 32, ∃ s : State, Admitted s m 0x40F01010 ∧ v.getLsbD 31 = true ∧ v.toNat % 4 ≠ 3 ∧ s.kbusy = false) ∧
    (∃ m : Fin 16, ∃ v : BitVec 32, ∃ s : State, Admitted s m 0x40F01014 ∧ v.getLsbD 31 = true ∧ s.pbusy = false) ∧
    (∃ us : BitVec 16, ∃ s : State, ∃ r : List Nat, s.npl.lock = none ∧ s.mainOn = true ∧ s.npl.queue = 1 :: r) ∧
    (∃ u : PageUpd, ∃ us : BitVec 16, ∃ s : State, ∃ l : TagLock, Memory.wf 0 s.npl.fram = true ∧ s.npl.lock = some l ∧ l.content.length = 256 ∧ s.tagSel l.page ≤ 1) ∧
    (∃ m : Fin 16, ∃ v : BitVec 32, ∃ n : Fin 64, ∃ s : State, Admitted s m 0x40F010B0 ∧ v.getLsbD 31 = true ∧ v.toNat % 16 ≠ 15) ∧
    (∃ m : Fin 16, ∃ s : State, Admitted s m 0x40F01030 ∧ (s.lifecycle ≤ 1 ∨ s.rd Reg.TMP_STATUS.SESSION 0 = 2)) ∧
    (∃ m : Fin 16, ∃ s : State, ∃ i, Admitted s m 0x40F01030 ∧ (¬ (s.lifecycle ≤ 1 ∨ s.rd Reg.TMP_STATUS.SESSION 0 = 2)) ∧ (i = Instr.nplKeySet m ∨ i = .nplKeyClear m)) :=
  ⟨⟨0, tagS .active, by decide +kernel⟩,
   ⟨1280, { tagS .active with npl := { (tagS .active).npl with logsFree := 0 } }, by decide +kernel⟩,
   ⟨1152, 5, TagPower.aon, tagS .active, by decide +kernel⟩,
   ⟨1152, 5, TagPower.aon, { tagS .active with npl := { (tagS .active).npl with auth := true } }, by decide +kernel⟩,
   ⟨TagPower.aon, tagS .active, by decide +kernel⟩,
   ⟨(default : BitVec 64), TagPower.aon, { tagS .active with npl := { (tagS .active).npl with key := 5 } }, by decide +kernel⟩,
   ⟨(default : BitVec 64), { tagS .active with npl := { (tagS .active).npl with key := 5, auth1 := some 4 } }, 4, by decide +kernel⟩,
   ⟨0, 0x80000000, tagS .active, by decide +kernel⟩,
   ⟨0, 0x80000000, tagS .active, by decide +kernel⟩,
   ⟨(default : BitVec 16), { tagS .active with npl := { (tagS .active).npl with queue := [1] } }, [], by decide +kernel⟩,
   ⟨.requested, (default : BitVec 16), { tagS .active with npl := { (tagS .active).npl with lock := some ⟨1, List.replicate 256 0, 0⟩ } }, ⟨1, List.replicate 256 0, 0⟩, by decide +kernel⟩,
   ⟨0, 0x80000000, 0, tagS .active, by decide +kernel⟩,
   ⟨0, set full [(Reg.TMP_STATUS.SESSION, 0, 2)], by decide +kernel⟩,
   ⟨0, tagS .active, Instr.nplKeySet 0, by decide +kernel⟩⟩

theorem test_hyps_BoardPorts :
    (∃ s : State, ∃ i, ∃ b, ∃ l, s.smbOn = true ∧ (i, b, l) ∈ ([(.smbReadDevId, true, leBytes (s.readWord 0x40080000) 4), (.smbReadDevStatus, true, leBytes (s.readWord 0x40080004) 4), (.smbReadSerial, true, leBytes Config.serial 8), (.smbReadAonEvent, true, leBytes (s.readWord 0x40E00030) 4 ++ leBytes (s.readWord 0x40E00034) 4), (.smbReadTemp, false, leBytes (s.rd Reg.TMP_TEMP.A 0) 2), (.smbReadAonSupply, true, leBytes (s.readWord 0x40E00010) 4), (.smbReadTamper, true, leBytes (s.readWord 0x40E01004) 4 ++ leBytes (s.readWord 0x40E01008) 4), (.smbReadCfgDigest, true, s.words12 Reg.DEV_CFG_DIGEST.DIGEST)] : List (Instr × Bool × List Nat))) ∧
    (∃ s : State, s.smbOn = true) ∧
    (∃ s : State, ∃ i, s.smbOn = false ∧ i ∈ [Instr.smbReadDevId, .smbReadDevStatus, .smbReadSerial, .smbReadAonEvent, .smbReadTemp, .smbReadAonSupply, .smbReadTamper, .smbReadCfgDigest, .smbInvalid, .smbTimeout]) ∧
    (∃ s : State, ∃ balls : List Bool, ∃ pre : List Bool, s.mainOn = true ∧ s.lifecycle = 0) ∧
    (∃ s : State, ∃ balls : List Bool, ∃ pre : List Bool, ∃ i, s.lifecycle ≠ 0 ∧ i ∈ [Instr.bypass, .idcode, .samplePreload balls pre, .extest]) :=
  ⟨⟨full, .smbReadTemp, false, leBytes ((full : State).rd Reg.TMP_TEMP.A 0) 2, by decide +kernel, (by simp)⟩,
   ⟨full, by decide +kernel⟩,
   ⟨set full [(Reg.DEV_STATUS.POWER, 0, 2)], .smbReadTemp, by decide +kernel⟩,
   ⟨full.wr Reg.DEV_STATUS.LIFECYCLE 0 0, [true], [false], by decide +kernel⟩,
   ⟨full, [true], [false], Instr.bypass, by decide +kernel⟩⟩

theorem test_hyps_RegisterAccesses :
    (∃ m : Fin 16, ∃ a : BitVec 32, ∃ v : BitVec 64, ∃ s : State, Admitted s m a.toNat ∧ bankForeign m.val a.toNat = false ∧ findReg (mapAddr m.val a.toNat) = none) ∧
    (∃ v : BitVec 64, ∃ n : Fin 64, ∃ s : State, s.mainOn = true ∧ s.denied 0 (0x40F01100 + 4 * n.val) true = none) ∧
    (∃ v : BitVec 64, ∃ s : State, Admitted s 0 0x40B01010) ∧
    (∃ v : BitVec 64, ∃ s : State, Admitted s 0 0x40B01018) ∧
    (∃ m : Fin 16, ∃ v : BitVec 64, ∃ s : State, Admitted s m 0x40E00010) ∧
    (∃ m : Fin 16, ∃ v : BitVec 32, ∃ c : PCore, ∃ s : State, let a := BitVec.ofNat 32 (0x40C00040 + c.val * 0x100); Admitted s m a.toNat) ∧
    (∃ m : Fin 16, ∃ v : BitVec 32, ∃ low : Nat, ∃ c : PCore, ∃ s : State, let a := BitVec.ofNat 32 (0x40C00044 + c.val * 0x100); Admitted s m a.toNat ∧ low < 2 ^ 32 ∧ Tab.find (halfKey m.val (a.toNat - 4)) s.cpu.halfWrite = some low) ∧
    (∃ m : Fin 16, ∃ a : BitVec 32, ∃ v : BitVec 32, ∃ d : RegDef, ∃ i : Nat, ∃ s : State, s.mainOn = true ∧ s.denied m.val a.toNat false = none ∧ bankForeign m.val a.toNat = false ∧ d.width = 64 ∧ d.name ≠ "RNG_RAW_DATA" ∧ findReg (mapAddr m.val a.toNat) = some (d, i, false)) ∧
    (∃ m : Fin 16, ∃ a : BitVec 32, ∃ v : BitVec 32, ∃ d : RegDef, ∃ i : Nat, ∃ s : State, ∃ h, s.mainOn = true ∧ s.denied m.val a.toNat false = none ∧ bankForeign m.val a.toNat = false ∧ d.width = 64 ∧ d.name ≠ "RNG_RAW_DATA" ∧ findReg (mapAddr m.val a.toNat) = some (d, i, true) ∧ Tab.find (halfKey m.val (mapAddr m.val a.toNat - 4)) s.cpu.halfRead = some h) ∧
    (∃ m : Fin 16, ∃ a : BitVec 32, ∃ v : BitVec 64, ∃ r : Nat, ∃ s : State, s.mainOn = true ∧ s.denied m.val a.toNat true = some r) :=
  ⟨⟨0, 0x40FFFFF0, 5, full, by decide +kernel⟩,
   ⟨5, 2, full, by decide +kernel⟩,
   ⟨1, full, by decide +kernel⟩,
   ⟨0, full, by decide +kernel⟩,
   ⟨0, 7, full, by decide +kernel⟩,
   ⟨1, 7, 0, full, by decide +kernel⟩,
   ⟨1, 7, 3, 0, { full with cpu.halfWrite := [(halfKey 1 0x40C00040, 3)] }, by decide +kernel⟩,
   ⟨1, 0x40C00040, 0, ((findReg (mapAddr (1 : Fin 16).val (0x40C00040 : BitVec 32).toNat)).getD default).1, ((findReg (mapAddr (1 : Fin 16).val (0x40C00040 : BitVec 32).toNat)).getD default).2.1, full, by decide +kernel, by decide +kernel, by decide +kernel, by decide +kernel, by decide +kernel, (found _ _ (by decide +kernel) (by decide +kernel))⟩,
   ⟨1, 0x40C00044, 0, ((findReg (mapAddr (1 : Fin 16).val (0x40C00044 : BitVec 32).toNat)).getD default).1, ((findReg (mapAddr (1 : Fin 16).val (0x40C00044 : BitVec 32).toNat)).getD default).2.1, { full with cpu.halfRead := [(halfKey 1 0x40C00040, 3)] }, 3, by decide +kernel, by decide +kernel, by decide +kernel, by decide +kernel, by decide +kernel, (found _ _ (by decide +kernel) (by decide +kernel)), by decide +kernel⟩,
   ⟨5, 0x40E00010, 7, ((full : State).denied (5 : Fin 16).val (0x40E00010 : BitVec 32).toNat true).getD default, full, by decide +kernel⟩⟩

theorem test_hyps_OnlyNamedCommandsWriteMemory : ∃ i : Instr, ∃ s : State, ∃ t : State, exec i s = .next t :=
  ⟨.cardClockStop, base, base, rfl⟩

theorem test_hyps_NumVfsStoresTotalVfs : ∃ p : Fin 2, ∃ num : BitVec 16, ∃ s : State, s.bootMode = 0 ∧ s.setting (if p.val = 0 then 0x1002 else 0x1003) < num.toNat :=
  ⟨0, 1000, base, by decide +kernel⟩

theorem test_hyps_CommandsLeaveOtherParts : ∃ i : Instr, ∃ s : State, ∃ t : State, ∃ parts : List Part, exec i s = .next t ∧ mayChange i = some parts ∧ parts.length < 17 :=
  ⟨.cardClockStop, base, base, [], by rfl, rfl, by decide⟩

end

end Sys2Proof.Tests
end

/-!
PROOF. NumVFs above TotalVFs (02, R644): what a configuration write of VF Enable and NumVFs leaves in a port's configuration space, and which virtual
functions exist then.
-/

namespace Sys2Proof.Machine

namespace State

/-! ### A port's configuration space -/

@[simp] theorem pfCfg_setPf_self (s : State) (p : Nat) (x : PfCfg) : (s.setPf p x).pfCfg p = x := by
  simp [pfCfg, setPf, Tab.getD]

@[simp] theorem pfCfg_wr (s : State) (f : Fld) (i v p : Nat) : (s.wr f i v).pfCfg p = s.pfCfg p := rfl

@[simp] theorem pfCfg_clearVf (s : State) (f p : Nat) : (s.clearVf f).pfCfg p = s.pfCfg p := rfl

/-- VF Enable and NumVFs as written; the rest of the port's configuration space stays. -/
@[simp] theorem pfCfg_setVfs_self (s : State) (p : Nat) (en : Bool) (n : Nat) :
    (s.setVfs p en n).pfCfg p = { s.pfCfg p with vfEnable := en, numVfs := n } := by
  simp [setVfs]

/-- Clearing the configuration of virtual functions one after another leaves the ports' configuration spaces. -/
@[simp] theorem pfCfg_foldl_clearVf (base p : Nat) (l : List Nat) (s : State) :
    (l.foldl (fun t i => t.clearVf (base + i)) s).pfCfg p = s.pfCfg p := by
  induction l generalizing s with
  | nil => rfl
  | cons i l ih => rw [List.foldl_cons, ih, pfCfg_clearVf]

/-- Virtual function `k` of a port exists where VF Enable and NumVFs of the port cover it (02, R49, R51). -/
theorem fnExists_vf (s : State) (p : Fin 2) {k : Nat} (h1 : 1 ≤ k) (h2 : k ≤ 127) :
    s.fnExists (128 * p.val + k) = ((s.pfCfg p.val).vfEnable && decide (k ≤ (s.pfCfg p.val).numVfs)) := by
  have hp : p.val < 2 := p.isLt
  have hport : portOf (128 * p.val + k) = p.val := by unfold portOf; omega
  have hpf : isPf (128 * p.val + k) = false := by
    simp only [isPf, Bool.or_eq_false_iff, decide_eq_false_iff_not]
    omega
  have hmod : (128 * p.val + k) % 128 = k := by omega
  have hlt : 128 * p.val + k < 256 := by omega
  simp only [fnExists, hport, hpf, hmod, hlt, decide_true, Bool.true_and, Bool.false_or]

end State

/-! ### The configuration write -/

/-- What the write leaves: VF Enable and the capped NumVFs are stored, after which only new virtual functions are cleared (02, R51, R644). -/
theorem execVfEnableWrite_eq_setVfs (p : Fin 2) (en : Bool) (num : BitVec 16) {s : State} (hb : s.bootMode = 0) :
    ∃ (gone : State) (fresh : List Nat), execVfEnableWrite p en num s =
      .next (fresh.foldl (fun t i => t.clearVf (p.val * 128 + i))
        (gone.setVfs p.val en (min num.toNat (s.setting (if p.val = 0 then 0x1002 else 0x1003))))) := by
  simp only [execVfEnableWrite, hb, if_true]
  exact ⟨_, _, rfl⟩

/-- The write sees NumVFs through its cap alone: two values with the same cap do the same. -/
theorem execVfEnableWrite_congr (p : Fin 2) (en : Bool) {num num' : BitVec 16} {s : State} (hb : s.bootMode = 0)
    (h : min num.toNat (s.setting (if p.val = 0 then 0x1002 else 0x1003)) = min num'.toNat (s.setting (if p.val = 0 then 0x1002 else 0x1003))) :
    execVfEnableWrite p en num s = execVfEnableWrite p en num' s := by
  simp only [execVfEnableWrite, hb, if_true, h]

/-- VF_ENABLE_WRITE stores VF Enable and NumVFs, the latter capped at TotalVFs (02, R644). -/
theorem vfEnableWrite_stores (p : Fin 2) (en : Bool) (num : BitVec 16) {s : State} (hb : s.bootMode = 0) :
    Gives (.vfEnableWrite p en num) s fun t => (t.pfCfg p.val).vfEnable = en ∧
      (t.pfCfg p.val).numVfs = min num.toNat (s.setting (if p.val = 0 then 0x1002 else 0x1003)) := by
  obtain ⟨gone, fresh, h⟩ := execVfEnableWrite_eq_setVfs p en num hb
  exact ⟨_, h, by simp⟩

/-- Settles O59: a NumVFs above TotalVFs and TotalVFs itself have the same cap, TotalVFs; that cap is what the write stores, and the virtual functions
that exist follow from what is stored. -/
theorem numVfsStoresTotalVfs : Obligations.NumVfsStoresTotalVfs := by
  intro p en num s hb total hlt
  have hfit : (BitVec.ofNat 16 total).toNat = total := by
    rw [BitVec.toNat_ofNat, Nat.mod_eq_of_lt (Nat.lt_trans hlt num.isLt)]
  have hcap : min num.toNat total = total := Nat.min_eq_right (Nat.le_of_lt hlt)
  constructor
  · exact execVfEnableWrite_congr p en hb (by rw [hcap, hfit, Nat.min_self])
  · obtain ⟨t, ht, hen, hnum⟩ := vfEnableWrite_stores p en num hb
    have hnum : (t.pfCfg p.val).numVfs = total := hnum.trans hcap
    exact ⟨t, ht, hnum, fun k h1 h2 => by rw [State.fnExists_vf t p h1 h2, hen, hnum]⟩

end Sys2Proof.Machine

/-!
PROOF. Mandatory host CRC-32C (04, R153): what taking the front entry off a queue leaves of the queue, the refusal of a fetched entry, and the APPEND
that setting 0x2003 refuses.
-/

namespace Sys2Proof.Machine

namespace State

variable {s : State} {f : Fn} {q : Q} {x : FEntry}

/-! ### The queue behind the front entry -/

/-- Taking the front entry off changes the queue's fetched entries alone. -/
@[simp] theorem qrt_popFront_self (s : State) (f q : Nat) :
    (s.popFront f q).qrt f q = { s.qrt f q with fetched := (s.qrt f q).fetched.tail } := by
  simp [qrt, popFront, setQ, Tab.getD]

@[simp] theorem rd_popFront (s : State) (f q : Nat) (g : Fld) (i : Nat) : (s.popFront f q).rd g i = s.rd g i := rfl

@[simp] theorem fnLive_popFront (s : State) (f q g : Nat) : (s.popFront f q).fnLive g = s.fnLive g := rfl

@[simp] theorem qActive_popFront (s : State) (f q g r : Nat) : (s.popFront f q).qActive g r = s.qActive g r := rfl

@[simp] theorem qDepth_popFront (s : State) (f q g r : Nat) : (s.popFront f q).qDepth g r = s.qDepth g r := rfl

@[simp] theorem cqUsed_popFront_self (s : State) (f q : Nat) : (s.popFront f q).cqUsed f q = s.cqUsed f q := by
  simp [cqUsed]

/-- The completion queue stays open when the front entry is taken off (02, R59, R60). -/
theorem cqOpen_popFront (h : CqOpen s f q) : CqOpen (s.popFront f.val q.val) f q := by
  simpa [CqOpen] using h

/-! ### Refusing the front entry -/

/-- A refusal of the entry just taken off is written at the tail of its open queue, with results 0 (02, R59, R71). -/
theorem answered_fail_popFront (x : FEntry) (st : Nat) (h : CqOpen s f q) :
    Answered s ((s.popFront f.val q.val).fail f.val q.val x st) f q x st 0 0 := by
  have ha := answered_complete x st 0 0 (cqOpen_popFront h)
  simpa [Answered, fail] using ha

/-- It leaves the ledgers and their records. -/
theorem led_fail_popFront (s : State) (f q : Nat) (x : FEntry) (st : Nat) : ((s.popFront f q).fail f q x st).led = s.led :=
  ((near_popFront s f q).trans (near_fail _ f q x st)).led

/-! ### Check 10.6 of APPEND -/

/-- Past checks 10.1 to 10.5, an APPEND without CRC-32C is refused while setting 0x2003 is 1: for a field out of range, or for the CRC (03, R111;
04, R153). -/
theorem appendRefused_of_no_crc (hio : s.ioChecks f.val q.val x true true true = none) (hset : s.setting 0x2003 = 1) (hcrc : x.e.crcv = false) :
    s.appendRefused f.val q.val x = some Status.FIELD_INVALID := by
  simp only [appendRefused, hio]
  split
  · rfl
  · rw [if_pos ⟨hset, by simp [hcrc]⟩]

/-- An APPEND that its checks refuse is taken off and completes with their status (03, R111). -/
theorem runAppend_refused {st : Nat} (h : s.appendRefused f.val q.val x = some st) :
    s.runAppend f.val q.val x = (s.popFront f.val q.val).fail f.val q.val x st := by
  simp only [runAppend, h]

/-- An APPEND command whose fetched entry its checks refuse does just that. -/
theorem exec_append_refused {st : Nat} (hx : Fetched s f q 1 x) (h : s.appendRefused f.val q.val x = some st) :
    exec (.append f q) s = .next ((s.popFront f.val q.val).fail f.val q.val x st) := by
  show execAppend f q s = _
  rw [execAppend, frontCmd_fetched _ hx, runAppend_refused h]

end State

/-- Settles O21: check 10.6 refuses the entry, and a refusal takes it off and completes it, which numbers nothing. -/
theorem appendNeedsHostCrc : Obligations.AppendNeedsHostCrc := by
  intro f q s x hx hio hset hcrc hcq
  have href := State.appendRefused_of_no_crc hio hset hcrc
  exact ⟨_, State.exec_append_refused hx href, State.answered_fail_popFront x _ hcq, State.led_fail_popFront ..⟩

end Sys2Proof.Machine

/-!
PROOF. Branches, J, CALL and CALLR (12, R442, R446): what a commit leaves outside its core, that an instruction which only writes its core's registers
and goes on at an address commits in the sense of `Commits`, and the condition that each branch tests.
-/

namespace Sys2Proof.Machine

/-! ### A register write leaves what the commit moves -/

@[simp] theorem Core.sg_pc (x : Core) (r : G) (v : Word) : (x.sg r v).pc = x.pc := by
  unfold Core.sg; split <;> rfl

@[simp] theorem Core.sg_instret (x : Core) (r : G) (v : Word) : (x.sg r v).instret = x.instret := by
  unfold Core.sg; split <;> rfl

/-! ### The frame of a core -/

/-- `t` with the register file, the counter of free values and the cores of `s`: what `CoreOnly` compares with `s`. -/
def State.restoreCores (t s : State) : State :=
  { t with regs := s.regs, fresh := s.fresh,
           cpu := { t.cpu with core0 := s.cpu.core0, core1 := s.cpu.core1, keeper := s.cpu.keeper } }

theorem coreOnly_iff {s t : State} {c : CoreId} : CoreOnly s t c ↔
    (∀ d : CoreId, d ≠ c → t.core d.val = s.core d.val) ∧
    (∀ (g : Fld) (j : Nat), g.key j ≠ Reg.ICU_PCFG.PEND.key (c.val * 32 + 4) → t.rd g j = s.rd g j) ∧ t.restoreCores s = s := Iff.rfl

theorem CoreOnly.refl (s : State) (c : CoreId) : CoreOnly s s c := ⟨fun _ _ => rfl, fun _ _ _ => rfl, rfl⟩

theorem CoreOnly.trans {s t u : State} {c : CoreId} (h : CoreOnly s t c) (k : CoreOnly t u c) : CoreOnly s u c := by
  obtain ⟨hcore, hrd, hrest⟩ := coreOnly_iff.mp h
  obtain ⟨kcore, krd, krest⟩ := coreOnly_iff.mp k
  refine coreOnly_iff.mpr ⟨fun d hd => (kcore d hd).trans (hcore d hd), fun g j hg => (krd g j hg).trans (hrd g j hg), ?_⟩
  exact (congrArg (fun v => v.restoreCores s) krest).trans hrest

namespace State

variable {s : State} {c : CoreId} {e : Ecc}

/-- Replacing the core touches nothing else. -/
theorem coreOnly_setCore (s : State) (c : CoreId) (x : Core) : CoreOnly s (s.setCore c.val x) c := by
  refine ⟨fun d hd => core_setCore_ne hd x, fun g j _ => rd_setCore s c.val x g j, ?_⟩
  unfold setCore
  split
  · rfl
  · split <;> rfl

/-- A rise of the core's TIMER source sets its pending bit at most (13, R480). -/
theorem coreOnly_timerRise (s0 s : State) (c : CoreId) : CoreOnly s (s0.timerRise c.val s) c := by
  unfold timerRise assertPrivate
  split
  · split
    · exact ⟨fun _ _ => rfl, fun _ _ hg => rd_wr_ne hg, rfl⟩
    · exact .refl s c
  · exact .refl s c

/-- Drawing a free value moves the counter of free values alone. -/
theorem coreOnly_draw (s : State) (c : CoreId) : CoreOnly s s.draw.2 c := ⟨fun _ _ => rfl, fun _ _ _ => rfl, rfl⟩

theorem coreOnly_elapse (s : State) (c : CoreId) : CoreOnly s (s.elapse c.val) c :=
  (coreOnly_draw s c).trans ((coreOnly_setCore ..).trans (coreOnly_timerRise ..))

theorem coreOnly_finish (s : State) (c : CoreId) (npc : Word) : CoreOnly s (s.finish c.val npc) c :=
  (coreOnly_setCore ..).trans (coreOnly_elapse ..)

/-! ### Commits -/

/-- A core that has taken new registers `x`, of which neither the pc nor INSTRET has moved, commits with them. -/
theorem commits_setCore_finish {x : Core} (npc : Word) (hpc : x.pc = (s.core c.val).pc) (hin : x.instret = (s.core c.val).instret) :
    Commits s ((s.setCore c.val x).finish c.val npc) c npc x := by
  refine ⟨?_, (coreOnly_setCore ..).trans (coreOnly_finish ..)⟩
  conv => lhs; rw [core_finish, core_setCore_self, hpc, hin]

/-- The commit of an instruction that writes no register. -/
theorem commits_finish (s : State) (c : CoreId) (npc : Word) : Commits s (s.finish c.val npc) c npc (s.core c.val) :=
  ⟨core_finish .., coreOnly_finish ..⟩

/-- The commit of an instruction that writes one general register. -/
theorem commits_sg_finish (s : State) (c : CoreId) (rd : G) (v npc : Word) :
    Commits s ((s.mapCore c.val fun y => y.sg rd v).finish c.val npc) c npc ((s.core c.val).sg rd v) :=
  commits_setCore_finish npc (Core.sg_pc ..) (Core.sg_instret ..)

/-! ### Instructions of every privilege -/

/-- An instruction of every privilege, rightly encoded, that its core fetches does its own effect. -/
theorem instr_unprivileged {waits : WideOp → Bool} {body : State → State} (h : Fetches s c e) : s.instr c e true false waits body = body s :=
  instr_eq h rfl fun hp => absurd hp Bool.false_ne_true

/-! ### Branches (12, R446) -/

/-- A branch whose test holds goes on at its target. -/
theorem commits_branchOp_taken {ra rb : G} {test : Word → Word → Bool} (off : Imm16) (h : Fetches s c e)
    (ht : test ((s.core c.val).rg ra) ((s.core c.val).rg rb) = true) :
    Commits s (s.branchOp c e ra rb off test) c ((s.core c.val).pc + off.signExtend 32 * 4) (s.core c.val) := by
  rw [branchOp, instr_unprivileged h]
  simp only [ht, if_true]
  exact commits_finish ..

/-- A branch whose test fails goes on behind itself. -/
theorem commits_branchOp_not_taken {ra rb : G} {test : Word → Word → Bool} (off : Imm16) (h : Fetches s c e)
    (ht : ¬ test ((s.core c.val).rg ra) ((s.core c.val).rg rb) = true) :
    Commits s (s.branchOp c e ra rb off test) c ((s.core c.val).pc + 4) (s.core c.val) := by
  rw [branchOp, instr_unprivileged h]
  simp only [ht, Bool.false_eq_true, if_false]
  exact commits_finish ..

end State

/-- Each branch is `branchOp` with a test that decides its condition. -/
theorem BranchOp.exec_eq {p : (CoreId → Ecc → G → G → Imm16 → Instr) × (Word → Word → Prop)} (hp : BranchOp p) :
    ∃ test : Word → Word → Bool, (∀ a b, test a b = true ↔ p.2 a b) ∧
      ∀ c e ra rb off s, exec (p.1 c e ra rb off) s = .next (s.branchOp c e ra rb off test) := by
  simp only [BranchOp, List.mem_cons, List.not_mem_nil, or_false] at hp
  rcases hp with rfl | rfl | rfl | rfl | rfl | rfl
  · exact ⟨fun a b => a == b, fun _ _ => beq_iff_eq, fun _ _ _ _ _ _ => rfl⟩
  · exact ⟨fun a b => a != b, fun _ _ => bne_iff_ne, fun _ _ _ _ _ _ => rfl⟩
  · exact ⟨BitVec.slt, fun _ _ => BitVec.slt_iff_toInt_lt, fun _ _ _ _ _ _ => rfl⟩
  · exact ⟨BitVec.sle, fun _ _ => BitVec.sle_iff_toInt_le, fun _ _ _ _ _ _ => rfl⟩
  · exact ⟨BitVec.ult, fun _ _ => BitVec.ult_iff_lt, fun _ _ _ _ _ _ => rfl⟩
  · exact ⟨BitVec.ule, fun _ _ => BitVec.ule_iff_le, fun _ _ _ _ _ _ => rfl⟩

/-! ### Jumps (12, R442, R446) -/

section

variable {s : State} {c : CoreId} {e : Ecc}

/-- A command that is an instruction of every privilege gives what its effect leaves. -/
theorem gives_of_instr {i : Instr} {waits : WideOp → Bool} {body : State → State} {P : State → Prop}
    (hi : exec i s = .next (s.instr c e true false waits body)) (h : Fetches s c e) (hP : P (body s)) : Gives i s P :=
  ⟨body s, by rw [hi, State.instr_unprivileged h], hP⟩

/-- J goes on at its target and writes no register. -/
theorem isaJ_commits (off : BitVec 26) (h : Fetches s c e) :
    Gives (.isaJ c e off) s fun t => Commits s t c ((s.core c.val).pc + off.signExtend 32 * 4) (s.core c.val) :=
  gives_of_instr rfl h (State.commits_finish ..)

/-- CALL goes on at its target with the address behind it in g1. -/
theorem isaCall_commits (off : BitVec 26) (h : Fetches s c e) :
    Gives (.isaCall c e off) s fun t =>
      Commits s t c ((s.core c.val).pc + off.signExtend 32 * 4) ((s.core c.val).sg 1 ((s.core c.val).pc + 4)) :=
  gives_of_instr rfl h (State.commits_sg_finish ..)

/-- CALLR goes on at rs1 as it was before, with the address behind it in rd. -/
theorem isaCallr_commits (rd rs1 rs2 : G) (h : Fetches s c e) :
    Gives (.isaCallr c e rd rs1 rs2) s fun t =>
      Commits s t c ((s.core c.val).rg rs1 &&& 0xFFFFFFFC) ((s.core c.val).sg rd ((s.core c.val).pc + 4)) :=
  gives_of_instr rfl h (State.commits_sg_finish ..)

/-- A J with offset 0 loops on itself. -/
theorem isaJ_zero_pc (h : Fetches s c e) : Gives (.isaJ c e 0) s fun t => (t.core c.val).pc = (s.core c.val).pc := by
  obtain ⟨t, ht, hcore, -⟩ := isaJ_commits 0 h
  have hpc : (t.core c.val).pc = (s.core c.val).pc + BitVec.signExtend 32 (0 : BitVec 26) * 4 := by rw [hcore]
  exact ⟨t, ht, by simpa using hpc⟩

end

/-- Settles O41: what an instruction that is fetched does is its own effect, a commit at the target with at most one general register written. -/
theorem branchesAndJumps : Obligations.BranchesAndJumps := by
  refine ⟨fun c e s h => ⟨fun p hp ra rb off => ?_, fun off => isaJ_commits off h, fun off => isaCall_commits off h, isaJ_zero_pc h⟩,
    fun c e rd rs1 rs2 s h => isaCallr_commits rd rs1 rs2 h⟩
  obtain ⟨test, htest, hexec⟩ := hp.exec_eq
  exact ⟨fun hc => ⟨_, hexec .., State.commits_branchOp_taken off h ((htest _ _).mpr hc)⟩,
    fun hc => ⟨_, hexec .., State.commits_branchOp_not_taken off h (mt (htest _ _).mp hc)⟩⟩

end Sys2Proof.Machine
